-- ==== Sys2Proof/Word.lean ====
section
/-! DEFINITION. The word types of the model: bytes, the service clock's 32-bit count, and the sparse table type
that holds every numbered set of records. -/

namespace Sys2Proof

/-- A byte of memory, of the navigation line or of a record. -/
abbrev Byte := BitVec 8

/-- A value of the service clock: a 32-bit count of milliseconds that wraps (00_scope, The service clock). -/
abbrev Time := BitVec 32

/-- A numbered set of records, as the list of those that differ from the record's default, by rising number.
`Machine/Tables.lean` reads and writes it. -/
abbrev Tab (α : Type) := List (Nat × α)

end Sys2Proof
end

