-- ==== Sys2Proof/Syntax.lean ====
section
/-! DEFINITION. The commands the block takes: one constructor of `Instr` for each row of spec/opcode_table.json, and the
operands they carry. A row that is an event at a port carries what the port brings; a row that is a command of the
command ring carries the parameters of its record, at the widths R193 places them. -/

namespace Sys2Proof

/-- A passing transaction as it comes in at the upstream port (00_scope, Memory transactions). For a write, `data` and
`enables` hold one entry per byte; for a read both are empty. -/
structure Txn where
  initiator : Nat
  addr : Nat
  beats : Nat
  write : Bool
  data : List Byte
  enables : List Bool
  deriving DecidableEq, Repr, Inhabited

/-- Parameters of CONFIGURE, in the order of R183. -/
structure ConfigureParams where
  softMask : BitVec 16
  accounts : BitVec 16
  acctBase : BitVec 64
  upBase : BitVec 64
  downBase : BitVec 64
  packCeiling : BitVec 64
  upSize : BitVec 16
  downSize : BitVec 16
  fixLoss : BitVec 32
  lostGrace : BitVec 32
  warmUp : BitVec 32
  drain : BitVec 32
  darkMin : BitVec 32
  backhaulLimit : BitVec 32
  swapHold : BitVec 32
  maxWait : BitVec 32
  closeWait : BitVec 32
  flushAge : BitVec 32
  radioInitiator : BitVec 8
  minQuality : BitVec 8
  deriving DecidableEq, Repr

/-- Parameters of LOAD_ZONE, in the order of R8. The bounds are signed. -/
structure LoadZoneParams where
  index : BitVec 8
  enabled : BitVec 8
  priority : BitVec 8
  cover : BitVec 8
  region : BitVec 8
  mode : BitVec 8
  prefCount : BitVec 8
  prefs : Vector (BitVec 8) 4
  dwell : BitVec 32
  latMin : BitVec 32
  latMax : BitVec 32
  lonMin : BitVec 32
  lonMax : BitVec 32
  deriving DecidableEq, Repr

/-- Parameters of POSITION (R7). The coordinates are signed. -/
structure PositionParams where
  quality : BitVec 8
  lat : BitVec 32
  lon : BitVec 32
  deriving DecidableEq, Repr

/-- Parameters of LOAD_LINK (R58). -/
structure LoadLinkParams where
  link : BitVec 8
  cls : BitVec 8
  initiator : BitVec 8
  carrierUse : BitVec 8
  retries : BitVec 8
  threshold : BitVec 8
  ringSize : BitVec 16
  ringBase : BitVec 64
  timeout : BitVec 32
  probation : BitVec 32
  deriving DecidableEq, Repr

/-- Parameters of SET_SCHEDULE (R93). -/
structure SetScheduleParams where
  count : BitVec 8
  slots : Vector (BitVec 8) 32
  deriving DecidableEq, Repr

/-- Parameters of LOAD_TARIFF (R114). -/
structure LoadTariffParams where
  region : BitVec 8
  cls : BitVec 8
  mults : Vector (BitVec 16) 4
  block : BitVec 32
  upPrice : BitVec 32
  downPrice : BitVec 32
  deriving DecidableEq, Repr

/-- Parameters of OPEN_ACCOUNT (R136). -/
structure OpenAccountParams where
  account : BitVec 16
  cls : BitVec 8
  partner : BitVec 8
  subscriber : BitVec 64
  grant : BitVec 64
  threshold : BitVec 32
  deriving DecidableEq, Repr

/-- Parameters of GRANT (R138). -/
structure GrantParams where
  account : BitVec 16
  generation : BitVec 16
  threshold : BitVec 32
  amount : BitVec 64
  deriving DecidableEq, Repr

/-- Parameters of LOAD_PARTNER (R169). -/
structure LoadPartnerParams where
  partner : BitVec 8
  state : BitVec 8
  mask : BitVec 8
  ceiling : BitVec 64
  deriving DecidableEq, Repr

/-- A command of the command ring with its parameters (R181; the codes stand in Record Formats, Command record). -/
inductive Request where
  | configure (p : ConfigureParams)
  | start
  | stop
  | loadZone (p : LoadZoneParams)
  | position (p : PositionParams)
  | coverageHold
  | coverageRelease
  | loadLink (p : LoadLinkParams)
  | linkEnable (link : BitVec 8)
  | linkReset (link : BitVec 8)
  | linkQuality (link score : BitVec 8)
  | linkForce (link : BitVec 8)
  | setSchedule (p : SetScheduleParams)
  | loadTariff (p : LoadTariffParams)
  | openAccount (p : OpenAccountParams)
  | grant (p : GrantParams)
  | suspend (account : BitVec 16)
  | resume (account : BitVec 16)
  | closeAccount (account : BitVec 16)
  | loadPartner (p : LoadPartnerParams)
  | settle
  | flush
  deriving DecidableEq, Repr

/-- The rows of spec/opcode_table.json. In a row that is a command of the ring, `notify` is the record's NOTIFY mark:
the row is the return of the command fetch with a record that holds this command (R180, R181). -/
inductive Instr where
  /-- PIN_RESET: RESET_N is asserted, with the BASE_SEL straps at this level. -/
  | pinReset (baseSel : BitVec 4)
  /-- NAV_BYTE: a byte received on NAV_RX without framing error. -/
  | navByte (b : Byte)
  /-- NAV_FRAMING_ERROR: a byte received with its stop bit low. -/
  | navFramingError
  | fixLossExpiry
  /-- LINK_CARRIER_CHANGE: the LINK_CARRIER line of a link takes this level. -/
  | linkCarrierChange (link : Fin 4) (high : Bool)
  | lostGraceExpiry
  | backhaulLossExpiry
  | warmUpExpiry
  | drainExpiry
  | darkMinimumExpiry
  | probationExpiry (link : Fin 4)
  | completionTimeoutExpiry (link : Fin 4)
  | deferredSwapExpiry
  | headAgeExpiry
  /-- CLOSE_WAIT_LIMIT_EXPIRY of a place of the close finisher list, counted from its head. -/
  | closeWaitLimitExpiry (place : Nat)
  | ageExpiry (line : Fin 64)
  | stopPostedWaitExpiry
  | passingTransaction (t : Txn)
  | controlBlockWrite (t : Txn)
  | commandRingLatch (t : Txn)
  | reportRingLatch (t : Txn)
  | commandProducerIndexWrite (t : Txn)
  | reportConsumerIndexWrite (t : Txn)
  | accountTableRead (t : Txn)
  | accountTableWrite (t : Txn)
  | uplinkRingWrite (t : Txn)
  | downlinkDescriptor (t : Txn)
  | linkRingWrite (t : Txn)
  | holdRelease
  | arbiterIssue
  | ownWriteEntersQueue
  /-- PASSING_RESPONSE: the DRAM controller's response to the oldest unanswered passing transaction. -/
  | passingResponse (ok : Bool) (data : List Byte)
  /-- OWN_TRANSACTION_ERROR: `ahead` own writes that no block waits on are answered OK, and the own transaction behind
  them is answered ERROR. -/
  | ownTransactionError (ahead : Nat)
  | takeReadDone (data : Vector Byte 16)
  | fillDone (data : Vector Byte 64)
  | writeBackDone
  | lineGrant (line : Fin 64)
  | waitingEventRelease
  | commandFetchDone (record : Vector Byte 128)
  | reportConsumerReadDone (data : Vector Byte 16)
  | billingReportPlaced
  | stopStepAdvance
  | stopHaltedClear
  | configure (notify : Bool) (p : ConfigureParams)
  | start (notify : Bool)
  | stop (notify : Bool)
  | loadZone (notify : Bool) (p : LoadZoneParams)
  | position (notify : Bool) (p : PositionParams)
  | coverageHold (notify : Bool)
  | coverageRelease (notify : Bool)
  | loadLink (notify : Bool) (p : LoadLinkParams)
  | linkEnable (notify : Bool) (link : BitVec 8)
  | linkReset (notify : Bool) (link : BitVec 8)
  | linkQuality (notify : Bool) (link score : BitVec 8)
  | linkForce (notify : Bool) (link : BitVec 8)
  | setSchedule (notify : Bool) (p : SetScheduleParams)
  | loadTariff (notify : Bool) (p : LoadTariffParams)
  | openAccount (notify : Bool) (p : OpenAccountParams)
  | grant (notify : Bool) (p : GrantParams)
  | suspend (notify : Bool) (account : BitVec 16)
  | resume (notify : Bool) (account : BitVec 16)
  | closeAccount (notify : Bool) (account : BitVec 16)
  | loadPartner (notify : Bool) (p : LoadPartnerParams)
  | settle (notify : Bool)
  | flush (notify : Bool)
  | radioDownlinkRingWrite (t : Txn)
  deriving DecidableEq, Repr

end Sys2Proof
end

