-- ==== Sys2Proof/Decode.lean ====
section
/-! DEFINITION. The command a word spells: spec/opcode_table.json gives no row any bits, so no word spells one. Command
records, which do have bytes, are read by `Machine/Operands.lean` (`requestOf`). -/

namespace Sys2Proof

/-- The command that a word of `_nbits` bits spells by the table's bits: none, for no row has bits. -/
def decodeTableWord (_nbits _w : Nat) : Option Instr := none

end Sys2Proof
end

