-- ==== Sys2Proof/Machine/Bytes.lean ====
section
/-! DEFINITION. Byte order and field placement: memory records are little-endian (00_scope, Memory transactions), and
command parameters and results are placed as R193 states. -/

namespace Sys2Proof.Machine

/-- The little-endian number in a list of bytes. -/
def leNat : List Byte → Nat
  | [] => 0
  | b :: t => b.toNat + 256 * leNat t

/-- A number as `n` little-endian bytes; bits above them are left out. -/
def leBytes : Nat → Nat → List Byte
  | 0, _ => []
  | n + 1, v => BitVec.ofNat 8 v :: leBytes n (v / 256)

/-- The number in the field of `size` bytes at offset `off`. -/
def field (bs : List Byte) (off size : Nat) : Nat := leNat ((bs.drop off).take size)

/-- Write a field of `size` bytes at offset `off`. -/
def poke (bs : List Byte) (off size v : Nat) : List Byte :=
  bs.take off ++ leBytes size v ++ bs.drop (off + size)

/-- A record of `len` bytes that holds these fields (offset, size, value), every other byte 0. -/
def recordOf (len : Nat) (fields : List (Nat × Nat × Nat)) : List Byte :=
  fields.foldl (fun b f => poke b f.1 f.2.1 f.2.2) (List.replicate len 0)

/-- A signed number as the field of 32 bits that holds it in two's complement. -/
def signed32 (x : Int) : Nat := (x % 4294967296).toNat

/-- The lowest multiple of `size` that is not below `off` (R193). -/
def alignUp (off size : Nat) : Nat := (off + size - 1) / size * size

/-- The offsets at which fields of these sizes are placed, in order, from `off` upward (R193). -/
def placeFields : Nat → List Nat → List Nat
  | _, [] => []
  | off, size :: rest => let o := alignUp off size; o :: placeFields (o + size) rest

/-- The 32 result bytes that hold these values, each a (size, value), placed from offset 96 upward (R193). -/
def resultBytes (vals : List (Nat × Nat)) : List Byte :=
  let offs := placeFields 96 (vals.map Prod.fst)
  recordOf 32 ((offs.zip vals).map fun p => (p.1 - 96, p.2.1, p.2.2))

/-- The value as 1 for yes and 0 for no (Record Formats, Encodings). -/
def yesNo (b : Bool) : Nat := if b then 1 else 0

/-- A value that may be none, written 255 for none (R193, R194). -/
def orNone (x : Option Nat) : Nat := x.getD 255

end Sys2Proof.Machine
end

