-- ==== Sys2Proof/Config.lean ====
section
/-! DEFINITION. What a board fixes, and the free value: what the manual leaves open. -/

namespace Sys2Proof.Config

/-- The level of the BASE_SEL straps that `State.reset` takes as sampled (R37).
DESIGN CHOICE, unsafe (assumption 1): the strap is the board's; the manual's own example is 0x3. PIN_RESET samples
whatever level its operand gives. -/
def baseSel : BitVec 4 := 3

/-- FREE VALUE (assumption 2): field `f` of the tariff entry that a rating or a round-up would use where none is loaded,
or where the record's class names none. The manual says that this never arises (R113) and states no value. -/
opaque unstatedTariff (entry f : Nat) : Nat

end Sys2Proof.Config
end

