-- ==== Sys2Proof/Machine/State.lean ====
section
/-! DEFINITION. Everything the manual gives the part, as plain data, block by block in the manual's order, and its value
after reset. Where a manual table says that a block holds a value that is always equal to another one, it is stored once
and read there (INVENTORY.md names these views). -/

namespace Sys2Proof.Machine

/-! ### Named values. The first constructor of each is the one that holds after pin reset. -/

/-- Receiver state (R1). -/
inductive Rx where | hunt | sync | body
  deriving DecidableEq, Repr, Inhabited
/-- Position state (R5). -/
inductive PosState where | noFix | valid | lost
  deriving DecidableEq, Repr, Inhabited
inductive FixSource where | line | software
  deriving DecidableEq, Repr, Inhabited
/-- Coverage attribute of a zone. -/
inductive Cover where | serve | close | quiet
  deriving DecidableEq, Repr, Inhabited
inductive LinkMode where | single | shared
  deriving DecidableEq, Repr, Inhabited
/-- Coverage state (02_coverage). -/
inductive CovState where | dark | opening | serving | closing
  deriving DecidableEq, Repr, Inhabited
/-- Run state of the whole part (11, Run states). -/
inductive RunState where | stopped | starting | running | stopping | halted
  deriving DecidableEq, Repr, Inhabited
/-- Link health (04, Link health). -/
inductive Health where | unconfigured | disabled | down | probation | up | stalled
  deriving DecidableEq, Repr, Inhabited
inductive LinkClass where | shoreCell | shoreRadio | satellite | portFixed
  deriving DecidableEq, Repr, Inhabited
inductive CarrierUse where | line | always
  deriving DecidableEq, Repr, Inhabited
/-- State of a relay entry (05, The relay table). -/
inductive EntryState where | free | waiting | posted | retry | ending
  deriving DecidableEq, Repr, Inhabited
inductive Direction where | uplink | downlink
  deriving DecidableEq, Repr, Inhabited
/-- Final status of a logical uplink slot (R91). -/
inductive Final where | sent | gated | failed | expired | rejected | aborted
  deriving DecidableEq, Repr, Inhabited
/-- State of a cache line (09). -/
inductive LineState where | invalid | filling | clean | dirty | writing
  deriving DecidableEq, Repr, Inhabited
/-- Command status values (11, Command status values). -/
inductive Status where
  | ok | accepted | badCode | badParam | badState | notConfigured | overlap | notOpen | mismatch
  | refusedCoverage | refusedRegion | refusedPartner | navActive
  deriving DecidableEq, Repr, Inhabited
/-- The blocks that issue own transactions (R47). -/
inductive Block where | uplinkRelay | accountCache | commandEngine | reportWriter
  deriving DecidableEq, Repr, Inhabited

/-! ### Positions and Zones -/

/-- One fix (01, the table of what the Position Unit holds). -/
structure Fix where
  quality : Nat
  lat : Int
  lon : Int
  source : FixSource
  time : Time
  deriving DecidableEq, Repr, Inhabited

/-- The box of a zone from 1 to 31, inclusive in each coordinate. -/
structure Box where
  latMin : Int
  latMax : Int
  lonMin : Int
  lonMax : Int
  deriving DecidableEq, Repr, Inhabited

/-- A loaded zone record. Zone 0 holds no box, and its priority is not stored (it reads 0 here). -/
structure Zone where
  enabled : Bool
  box : Option Box
  priority : Nat
  cover : Cover
  region : Nat
  mode : LinkMode
  prefs : List Nat
  dwell : Nat
  deriving DecidableEq, Repr, Inhabited

/-- What the Position Unit holds (01). `zones` has no record where a zone is not loaded. -/
structure Position where
  rx : Rx
  buf : List Byte
  fix : Option Fix
  st : PosState
  lostSince : Time
  lineSeen : Bool
  lineTime : Time
  discards : Nat
  zones : Tab (Option Zone)
  current : Option Nat
  pendingZone : Option Nat
  pendingSince : Time
  rezone : Bool
  fixLoss : Nat
  minQuality : Nat
  deriving DecidableEq, Repr, Inhabited

/-! ### Coverage -/

/-- What the Coverage Controller holds (02); its five configured times stand in `Settings`. -/
structure Coverage where
  st : CovState
  hold : Bool
  darkSince : Time
  openingSince : Time
  closingSince : Time
  view : Bool
  absentSince : Time
  deriving DecidableEq, Repr, Inhabited

/-! ### The Memory Path -/

/-- What an own write is for: it says what happens when it enters the queue, is issued or is answered. -/
inductive WriteUse where
  | post (entry link : Nat)
  | slotBack (entry : Nat)
  | lineBack (line : Nat)
  | results
  | status
  | consumerWord
  | consumerReset
  | reportRecord
  | producerWord (value : Nat)
  deriving DecidableEq, Repr, Inhabited

/-- An own write (R47). `resume` marks the write that a dispatch pass waits with (R82); `seq` orders own traffic by
the moment it began to wait (R49). -/
structure OwnWrite where
  block : Block
  addr : Nat
  beats : Nat
  data : List Byte
  enables : List Bool
  use : WriteUse
  resume : Bool
  seq : Nat
  deriving DecidableEq, Repr, Inhabited

/-- What an own read is for. `fetch n` remembers how many latches of the command ring had been taken at its issue (R178),
`consumerIndex n` how many consumer values had been accepted (R184). -/
inductive ReadUse where
  | take
  | fill (line : Nat)
  | fetch (latches : Nat)
  | consumerIndex (accepted : Nat)
  deriving DecidableEq, Repr, Inhabited

structure OwnRead where
  block : Block
  addr : Nat
  beats : Nat
  use : ReadUse
  seq : Nat
  deriving DecidableEq, Repr, Inhabited

inductive OwnTxn where
  | write (w : OwnWrite)
  | read (r : OwnRead)
  deriving DecidableEq, Repr, Inhabited

/-- A passing transaction that goes downstream; `subs` are the records answered from cache lines (address, 64 bytes),
whose bytes replace memory's in the response (R42, R163). -/
structure Passing where
  txn : Txn
  subs : List (Nat × List Byte)
  deriving DecidableEq, Repr, Inhabited

/-- A transaction in flight, in issue order. `attempt` is the try count of an own transaction, 1 or 2. -/
inductive Flight where
  | passing (p : Passing)
  | own (t : OwnTxn) (attempt : Nat)
  deriving DecidableEq, Repr, Inhabited

/-- The Account Cache's answer for one record of a passing read (R162). -/
inductive Answer where
  | waiting
  | memory
  | line (bytes : List Byte)
  deriving DecidableEq, Repr, Inhabited

structure ReadRec where
  account : Nat
  answer : Answer
  deriving DecidableEq, Repr, Inhabited

/-- Which producer's hold verdict stands on the head transaction (R46, second reason). -/
inductive Producer where
  | uplink (entry : Nat)
  | downlink
  deriving DecidableEq, Repr, Inhabited

/-- The transaction at the head of the upstream port. `txn` has its dropped bytes' enables cleared; `spent` marks a
write whose bytes have all been dropped; `verdict` is the hand-off verdict still awaited. -/
structure Head where
  txn : Txn
  recs : List ReadRec
  verdict : Option Producer
  spent : Bool
  deriving DecidableEq, Repr, Inhabited

/-- A response given upstream. -/
structure Response where
  initiator : Nat
  ok : Bool
  data : List Byte
  deriving DecidableEq, Repr, Inhabited

/-- A passing transaction whose response is owed upstream, in port order; `answer` is there once it is known. -/
structure Owed where
  initiator : Nat
  answer : Option Response
  deriving DecidableEq, Repr, Inhabited

/-- What the Path Monitor holds (03). The region table is a view of the values other blocks hold (`regionOf`).
`upstream` are the transactions that wait at the port behind the head; `stream` is the passing stream; `waiting` are the
own writes that found the queue full; `upOut` is the model's own record of the responses given upstream. -/
structure PathMonitor where
  baseSel : BitVec 4
  upstream : List Txn
  head : Option Head
  stream : List Passing
  queue : List OwnWrite
  waiting : List OwnWrite
  reads : List OwnRead
  reissue : List OwnTxn
  inFlight : List Flight
  runCount : Nat
  seq : Nat
  owed : List Owed
  upOut : List Response
  deriving DecidableEq, Repr, Inhabited

/-! ### Shore Links -/

/-- A link record as LOAD_LINK loads it (04, The link record). -/
structure LinkRec where
  cls : LinkClass
  initiator : Nat
  carrierUse : CarrierUse
  retries : Nat
  threshold : Nat
  base : Nat
  size : Nat
  timeout : Nat
  probation : Nat
  deriving DecidableEq, Repr, Inhabited

/-- What is held for one link (04), with the level of its LINK_CARRIER line. -/
structure Link where
  record : Option LinkRec
  health : Health
  carrierLine : Bool
  quality : Nat
  probationSince : Time
  gen : BitVec 16
  postPtr : Nat
  posted : Nat
  oldest : Option Time
  deriving DecidableEq, Repr, Inhabited

/-- The four links and the link selector (04). -/
structure LinkSupervisor where
  links : Tab Link
  mode : LinkMode
  active : Option Nat
  eligible : List Nat
  forced : Option Nat
  lastSwap : Time
  deferred : Option Time
  backhaul : Bool
  deriving DecidableEq, Repr, Inhabited

/-! ### Uplink Relay -/

/-- A relay entry (05, The relay table). `account` is the account field as read (65,535 for SHIP); `offCount` marks a
POSTED entry that a link's release took off the posted count while its completion was held (R88); `postSeq` orders
posts (the model's own field). -/
structure Entry where
  st : EntryState
  slot : Nat
  buffer : Nat
  length : Nat
  account : Nat
  metered : Bool
  incarnation : Nat
  takeTime : Time
  link : Option Nat
  linkSlot : Nat
  postTime : Time
  postSeq : Nat
  attempts : Nat
  consecutive : Nat
  completionHeld : Bool
  offCount : Bool
  detached : Bool
  deriving DecidableEq, Repr, Inhabited

/-- A schedule: each slot a link id, or none for NONE. Its slot count is the list's length. -/
structure Schedule where
  slots : List (Option Nat)
  deriving DecidableEq, Repr, Inhabited

/-- A take in progress: the slot, its reserved entry and the take time. -/
structure Take where
  slot : Nat
  entry : Nat
  time : Time
  deriving DecidableEq, Repr, Inhabited

/-- What the Uplink Relay holds (05). `suspended` marks a dispatch pass that waits for own-write room (R82), `postSeq`
counts posts: both are the model's own. -/
structure Relay where
  ready : Tab Bool
  held : Tab Bool
  takePtr : Nat
  take : Option Take
  table : Tab Entry
  waitList : List Nat
  retryList : List Nat
  running : Schedule
  staged : Option Schedule
  round : Nat
  suspended : Bool
  postSeq : Nat
  deriving DecidableEq, Repr, Inhabited

/-! ### Gating and Usage Capture -/

/-- A gate map entry (06, The gate map): `opened` is gate OPEN. -/
structure GateEntry where
  opened : Bool
  partner : Option Nat
  incarnation : Nat
  deriving DecidableEq, Repr, Inhabited

/-- A usage event (06, Usage events). -/
structure UsageEvent where
  dir : Direction
  account : Nat
  incarnation : Nat
  bytes : Nat
  cls : LinkClass
  region : Nat
  tag : Time
  deriving DecidableEq, Repr, Inhabited

structure WaitingEvent where
  event : UsageEvent
  producer : Producer
  deriving DecidableEq, Repr, Inhabited

/-- What Gate and Capture holds (06). The partner-admitted flags are those of the Settlement Table. -/
structure GateCapture where
  map : Tab GateEntry
  queue : List UsageEvent
  waiting : Option WaitingEvent
  haltDiscards : Nat
  deriving DecidableEq, Repr, Inhabited

/-! ### Rating -/

/-- A loaded tariff entry; `mults` in the order SHORE_CELL, SHORE_RADIO, SATELLITE, PORT_FIXED. -/
structure Tariff where
  block : Nat
  upPrice : Nat
  downPrice : Nat
  mults : List Nat
  deriving DecidableEq, Repr, Inhabited

/-- What the Rating Engine holds (07). `requested` is the account it is REQUESTING, none in IDLE. -/
structure RatingEngine where
  tariffs : Tab (Option Tariff)
  loaded : Nat
  requested : Option Nat
  deriving DecidableEq, Repr, Inhabited

/-! ### Accounts -/

/-- The 64 bytes of an account record, field by field (12, Account record). Every byte belongs to a field, and each
field is kept as the number its bytes hold, so that a value no encoding names is kept as found. -/
structure AcctRec where
  st : Nat
  cls : Nat
  credit : Nat
  incarnation : Nat
  partner : Nat
  marks : Nat
  gen : Nat
  subscriber : Nat
  grant : Nat
  used : Nat
  low : Nat
  bytesUp : Nat
  bytesDown : Nat
  total : Nat
  carryUp : Nat
  carryDown : Nat
  residue : Nat
  cause : Nat
  openTime : Nat
  lastRegion : Nat
  lastClass : Nat
  deriving DecidableEq, Repr, Inhabited

/-- A place of the close finisher list (08). -/
structure Place where
  account : Nat
  incarnation : Nat
  closeTime : Time
  expired : Bool
  detached : Nat
  deriving DecidableEq, Repr, Inhabited

inductive Finisher where | idle | requesting | reporting
  deriving DecidableEq, Repr, Inhabited

/-- What an account command in progress waits for. -/
inductive AcctWait where
  | place (account : Nat)
  | line (account : Nat)
  deriving DecidableEq, Repr, Inhabited

/-- The START scan (R149): the next record, the counts, and whether it waits for report room. -/
structure Scan where
  next : Nat
  scanned : Nat
  repaired : Nat
  closed : Nat
  reporting : Bool
  deriving DecidableEq, Repr, Inhabited

/-- What the Account Manager holds (08). `finishing` is the number, from the head, of the place being finished. -/
structure AccountManager where
  wait : Option AcctWait
  reserved : Bool
  places : List Place
  finisher : Finisher
  finishing : Option Nat
  scan : Option Scan
  deriving DecidableEq, Repr, Inhabited

/-! ### The Account Cache -/

/-- The requesters of an account line (R153). -/
inductive Requester where | rating | command | finisher | scan | read
  deriving DecidableEq, Repr, Inhabited

/-- A cache line (09). `contents` means something in CLEAN, DIRTY and WRITING only. -/
structure Line where
  st : LineState
  account : Option Nat
  contents : AcctRec
  waiting : List Requester
  dirtySince : Time
  redirty : Bool
  flushMark : Bool
  evictMark : Bool
  deriving DecidableEq, Repr, Inhabited

/-- A pending miss. `evicting` is the line whose eviction write-back is under way for it (R158). -/
structure Miss where
  account : Nat
  requesters : List Requester
  evicting : Option Nat
  deriving DecidableEq, Repr, Inhabited

/-- What the Account Cache holds (09). `flush` is the flush in progress with its count of lines written. -/
structure AccountCache where
  lines : Tab Line
  lru : List Nat
  misses : List Miss
  flush : Option Nat
  deriving DecidableEq, Repr, Inhabited

/-! ### Partners and Settlement -/

/-- A loaded partner record (10). `enabled` is ENABLED, otherwise BARRED; `mask` has one mark per region. -/
structure Partner where
  enabled : Bool
  mask : BitVec 8
  ceiling : Nat
  deriving DecidableEq, Repr, Inhabited

/-- A settlement accumulator (10). -/
structure Accum where
  charge : Nat
  bytesUp : Nat
  bytesDown : Nat
  events : Nat
  saturated : Bool
  lastCut : Time
  deriving DecidableEq, Repr, Inhabited

/-- A settlement walk: `stopCause` is cause STOP, otherwise SETTLE; `next` is 8 × partner + region. -/
structure Walk where
  stopCause : Bool
  next : Nat
  records : Nat
  charge : Nat
  deriving DecidableEq, Repr, Inhabited

/-- What the Settlement Table holds (10). -/
structure Settlement where
  partners : Tab (Option Partner)
  admitted : Tab Bool
  region : Option Nat
  accums : Tab Accum
  walk : Option Walk
  walkCount : BitVec 16
  deriving DecidableEq, Repr, Inhabited

/-! ### Commands, Reports and Run States -/

/-- How a command completed: status, the 32 result bytes, what it writes over its own parameters (offset, size,
value), and the time of completion (R182). -/
structure Completion where
  status : Status
  results : List Byte
  rewrites : List (Nat × Nat × Nat)
  time : Time
  deriving DecidableEq, Repr, Inhabited

/-- The command in progress: what it asks (none for a code that names no command), its code, its NOTIFY mark, its
record's address and ring index, the ring size it was fetched under, and its completion once its owner has given it. -/
structure Job where
  request : Option Request
  code : Nat
  notify : Bool
  addr : Nat
  index : Nat
  size : Nat
  done : Option Completion
  deriving DecidableEq, Repr, Inhabited

/-- What STOP from RUNNING has counted so far, for its results (R188). -/
structure StopCounts where
  aborted : Nat
  closes : Nat
  records : Nat
  lines : Nat
  charge : Nat
  deriving DecidableEq, Repr, Inhabited

/-- A latched value of a command ring field that waits for the command in progress (R178). -/
inductive Latch where
  | base (v : Nat)
  | size (v : Nat)
  deriving DecidableEq, Repr, Inhabited

/-- What the Command Engine holds (11). `fetching` holds the ring index and ring size of a fetch not yet answered;
`blocked` marks a fetch abandoned under R180; `latched` counts the latches that took effect (the model's own field);
`stepSince` is when the present stop step began. -/
structure CommandEngine where
  base : Option Nat
  size : Option Nat
  view : Option Nat
  consumer : Nat
  fetching : Option (Nat × Nat × Nat)
  blocked : Bool
  job : Option Job
  latches : List Latch
  latched : Nat
  configured : Bool
  run : RunState
  stopStep : Nat
  stepSince : Time
  counts : StopCounts
  deriving DecidableEq, Repr, Inhabited

/-- A report as its block forms it: kind, cause byte, flags, time tag, and the payload fields (offset, size, value). -/
structure Report where
  kind : Nat
  cause : Nat
  flags : Nat
  tag : Time
  fields : List (Nat × Nat × Nat)
  deriving DecidableEq, Repr, Inhabited

/-- A billing report that waits for room, with the block that waits for it. A SETTLEMENT record is formed at its cut, so
its waiter carries nothing. `orphan` is a report whose block was cleared by STOP from HALTED (R190). -/
inductive Billing where
  | finish (r : Report)
  | scan (r : Report)
  | cut
  | orphan (r : Report)
  deriving DecidableEq, Repr, Inhabited

/-- A pending write of the Report Writer: a placed report with its slot address and the producer value after it, or the
producer word alone (`record` none, R184). `recordIn` marks a record write that has entered the own-write queue. -/
structure PendingWrite where
  record : Option (Nat × List Byte)
  wordAddr : Nat
  value : Nat
  recordIn : Bool
  deriving DecidableEq, Repr, Inhabited

/-- What the Report Writer holds (11). `accepted` counts accepted consumer values (the model's own field, R184). -/
structure ReportWriter where
  base : Option Nat
  size : Option Nat
  producer : Nat
  written : Nat
  view : Option Nat
  accepted : Nat
  waiters : List Billing
  pend : List PendingWrite
  dropped : Nat
  deriving DecidableEq, Repr, Inhabited

/-- The values of the last CONFIGURE with status OK that no other block's own field holds (R183); 0 until then. -/
structure Settings where
  softMask : BitVec 16
  accounts : Nat
  acctBase : Nat
  upBase : Nat
  downBase : Nat
  packCeiling : Nat
  upSize : Nat
  downSize : Nat
  lostGrace : Nat
  warmUp : Nat
  drain : Nat
  darkMin : Nat
  backhaulLimit : Nat
  swapHold : Nat
  maxWait : Nat
  closeWait : Nat
  flushAge : Nat
  radioInitiator : Nat
  deriving DecidableEq, Repr, Inhabited

/-- The whole part, with the queue of the commands that wait for it. -/
structure State where
  pending : List Instr
  clock : Time
  cfg : Settings
  pos : Position
  cov : Coverage
  path : PathMonitor
  sup : LinkSupervisor
  relay : Relay
  gate : GateCapture
  rate : RatingEngine
  acct : AccountManager
  cache : AccountCache
  settle : Settlement
  cmd : CommandEngine
  rep : ReportWriter
  deriving DecidableEq, Repr, Inhabited

/-- Reasons to stop with a fault. -/
inductive Fault where
  /-- Raised by PASSING_RESPONSE when the DRAM controller's OK response to a read carries another number of bytes than
  the read asked for: no response of the transaction form of 00_scope. Safe: the model stops, and the manual gives no
  effect. -/
  | responseLength
  deriving DecidableEq, Repr

/-- Reasons to refuse a command. -/
inductive Refusal where
  /-- Raised by `exec` for a row that has no meaning yet. Safe. -/
  | notModelled (mnemonic : String)
  /-- Raised by the rows that bring a passing transaction, for one that is not of the transaction form of 00_scope
  (`Txn.wellFormed`): the upstream port accepts no other. Safe: the manual gives no effect. -/
  | malformedTransaction
  deriving DecidableEq, Repr

/-- The part right after pin reset with the straps at `sel` and each LINK_CARRIER line at its level in `carriers`
(R19, R34, R56, R76, R99, R112, R130, R152, R168, R177, R191). The contents and the dirty-since of an INVALID line, which R168
does not give, are 0 (DESIGN CHOICE, assumption 3). -/
def State.resetWith (sel : BitVec 4) (carriers : List (Nat × Bool)) : State :=
  { pending := []
    clock := 0
    cfg := default
    pos :=
      { rx := .hunt, buf := [], fix := none, st := .noFix, lostSince := 0, lineSeen := false, lineTime := 0,
        discards := 0, zones := [], current := none, pendingZone := none, pendingSince := 0, rezone := false,
        fixLoss := 10000, minQuality := 1 }
    cov :=
      { st := .dark, hold := false, darkSince := 0, openingSince := 0, closingSince := 0, view := false,
        absentSince := 0 }
    path :=
      { baseSel := sel, upstream := [], head := none, stream := [], queue := [], waiting := [], reads := [],
        reissue := [], inFlight := [], runCount := 0, seq := 0, owed := [], upOut := [] }
    sup :=
      { links := (carriers.filter Prod.snd).map fun c => (c.1, { (default : Link) with carrierLine := true })
        mode := .single, active := none, eligible := [], forced := none, lastSwap := 0, deferred := none,
        backhaul := false }
    relay :=
      { ready := [], held := [], takePtr := 0, take := none, table := [], waitList := [], retryList := [],
        running := { slots := [none] }, staged := none, round := 0, suspended := false, postSeq := 0 }
    gate := { map := [], queue := [], waiting := none, haltDiscards := 0 }
    rate := { tariffs := [], loaded := 0, requested := none }
    acct := { wait := none, reserved := false, places := [], finisher := .idle, finishing := none, scan := none }
    cache := { lines := [], lru := List.range 64, misses := [], flush := none }
    settle := { partners := [], admitted := [], region := none, accums := [], walk := none, walkCount := 0 }
    cmd :=
      { base := none, size := none, view := none, consumer := 0, fetching := none, blocked := false, job := none,
        latches := [], latched := 0, configured := false, run := .stopped, stopStep := 0, stepSince := 0, counts := default }
    rep :=
      { base := none, size := none, producer := 0, written := 0, view := none, accepted := 0, waiters := [],
        pend := [], dropped := 0 } }

/-- The machine right after reset. The straps read `Config.baseSel` and the four carrier lines are low
(DESIGN CHOICE, assumption 1). -/
def State.reset : State := State.resetWith Config.baseSel []

end Sys2Proof.Machine
end

