-- ==== Sys2Proof/Machine/Encodings.lean ====
section
/-! DEFINITION. The numeric value of each enumerated field (12_record_formats, Encodings), and the reading of those that
commands give as parameters. -/

namespace Sys2Proof.Machine

def statusCode : Status → Nat
  | .ok => 1 | .accepted => 2 | .badCode => 3 | .badParam => 4 | .badState => 5 | .notConfigured => 6 | .overlap => 7
  | .notOpen => 8 | .mismatch => 9 | .refusedCoverage => 10 | .refusedRegion => 11 | .refusedPartner => 12
  | .navActive => 13

def runCode : RunState → Nat
  | .stopped => 0 | .starting => 1 | .running => 2 | .stopping => 3 | .halted => 4

def covCode : CovState → Nat
  | .dark => 0 | .opening => 1 | .serving => 2 | .closing => 3

def coverCode : Cover → Nat
  | .serve => 0 | .close => 1 | .quiet => 2

def coverOf : Nat → Option Cover
  | 0 => some .serve | 1 => some .close | 2 => some .quiet | _ => none

def modeCode : LinkMode → Nat
  | .single => 0 | .shared => 1

def modeOf : Nat → Option LinkMode
  | 0 => some .single | 1 => some .shared | _ => none

def posCode : PosState → Nat
  | .noFix => 0 | .valid => 1 | .lost => 2

def sourceCode : FixSource → Nat
  | .line => 0 | .software => 1

def healthCode : Health → Nat
  | .unconfigured => 0 | .disabled => 1 | .down => 2 | .probation => 3 | .up => 4 | .stalled => 5

def classCode : LinkClass → Nat
  | .shoreCell => 0 | .shoreRadio => 1 | .satellite => 2 | .portFixed => 3

def classOf : Nat → Option LinkClass
  | 0 => some .shoreCell | 1 => some .shoreRadio | 2 => some .satellite | 3 => some .portFixed | _ => none

def carrierUseOf : Nat → Option CarrierUse
  | 0 => some .line | 1 => some .always | _ => none

def yesNoOf : Nat → Option Bool
  | 0 => some false | 1 => some true | _ => none

def directionCode : Direction → Nat
  | .uplink => 1 | .downlink => 2

def finalCode : Final → Nat
  | .sent => 1 | .gated => 2 | .failed => 3 | .expired => 4 | .rejected => 5 | .aborted => 6

def blockCode : Block → Nat
  | .uplinkRelay => 1 | .accountCache => 2 | .commandEngine => 3 | .reportWriter => 4

/-! Account record values: the record is kept byte for byte, so these are numbers. -/

def acctFree : Nat := 0
def acctOpen : Nat := 1
def acctSuspended : Nat := 2
def acctClosing : Nat := 3
def clsRoamer : Nat := 1
def clsPack : Nat := 2
def clsCrew : Nat := 3
def creditNone : Nat := 0
def creditNormal : Nat := 1
def creditLow : Nat := 2
def creditExhausted : Nat := 3

/-! Report kinds. -/

def kindZone : Nat := 1
def kindPosition : Nat := 2
def kindCoverage : Nat := 3
def kindLinkState : Nat := 4
def kindLinkSwap : Nat := 5
def kindCredit : Nat := 6
def kindPartnerGate : Nat := 7
def kindAccountClosed : Nat := 8
def kindSettlement : Nat := 9
def kindCommandDone : Nat := 10
def kindFault : Nat := 11

/-! Fault kinds. -/

def faultProtectedWrite : Nat := 1
def faultRingCollision : Nat := 2
def faultPartialSlot : Nat := 3
def faultForeignWrite : Nat := 4
def faultSpurious : Nat := 5
def faultLate : Nat := 6
def faultBadAccount : Nat := 7
def faultStaleUsage : Nat := 8
def faultChargeClamped : Nat := 9
def faultRecordRepaired : Nat := 10
def faultBadIndex : Nat := 11
def faultMemoryError : Nat := 12
def faultHalt : Nat := 13

/-- The account value that marks the ship's own traffic. -/
def shipAccount : Nat := 65535

/-- The bounds of the 48-bit and 64-bit totals (R120, R172). -/
def max48 : Nat := 281474976710655
def max64 : Nat := 18446744073709551615
def max32 : Nat := 4294967295

/-- A saturating addition (R120, R172). -/
def satAdd (bound a b : Nat) : Nat := min bound (a + b)

/-- A value clamped into a range (R183). -/
def clamp (lo hi v : Nat) : Nat := min hi (max lo v)

end Sys2Proof.Machine
end

