-- ==== Sys2Proof/Machine/Operands.lean ====
section
/-! DEFINITION. The operands the part reads from memory records: the parameters of a command record (R193), the fields of
a descriptor (R192), and an account record's 64 bytes. -/

namespace Sys2Proof.Machine

/-- The parameters of these sizes, in order, of a command record (R193). -/
def params (record : List Byte) (sizes : List Nat) : List Nat :=
  ((placeFields 4 sizes).zip sizes).map fun p => field record p.1 p.2

/-- The command a record's code names, with its parameters (R181, R193; 12, Command record). -/
def requestOf (record : List Byte) : Option Request :=
  let get (sizes : List Nat) (w i : Nat) : BitVec w := BitVec.ofNat w ((params record sizes).getD i 0)
  match field record 0 1 with
  | 1 =>
    let z := [2, 2, 8, 8, 8, 8, 2, 2, 4, 4, 4, 4, 4, 4, 4, 4, 4, 4, 1, 1]
    some (.configure
      { softMask := get z 16 0, accounts := get z 16 1, acctBase := get z 64 2, upBase := get z 64 3,
        downBase := get z 64 4, packCeiling := get z 64 5, upSize := get z 16 6, downSize := get z 16 7,
        fixLoss := get z 32 8, lostGrace := get z 32 9, warmUp := get z 32 10, drain := get z 32 11,
        darkMin := get z 32 12, backhaulLimit := get z 32 13, swapHold := get z 32 14, maxWait := get z 32 15,
        closeWait := get z 32 16, flushAge := get z 32 17, radioInitiator := get z 8 18, minQuality := get z 8 19 })
  | 2 => some .start
  | 3 => some .stop
  | 4 =>
    let z := [1, 1, 1, 1, 1, 1, 1, 1, 1, 1, 1, 4, 4, 4, 4, 4]
    some (.loadZone
      { index := get z 8 0, enabled := get z 8 1, priority := get z 8 2, cover := get z 8 3, region := get z 8 4,
        mode := get z 8 5, prefCount := get z 8 6, prefs := #v[get z 8 7, get z 8 8, get z 8 9, get z 8 10],
        dwell := get z 32 11, latMin := get z 32 12, latMax := get z 32 13, lonMin := get z 32 14,
        lonMax := get z 32 15 })
  | 5 => let z := [1, 4, 4]; some (.position { quality := get z 8 0, lat := get z 32 1, lon := get z 32 2 })
  | 6 => some .coverageHold
  | 7 => some .coverageRelease
  | 8 =>
    let z := [1, 1, 1, 1, 1, 1, 2, 8, 4, 4]
    some (.loadLink
      { link := get z 8 0, cls := get z 8 1, initiator := get z 8 2, carrierUse := get z 8 3, retries := get z 8 4,
        threshold := get z 8 5, ringSize := get z 16 6, ringBase := get z 64 7, timeout := get z 32 8,
        probation := get z 32 9 })
  | 9 => some (.linkEnable (get [1] 8 0))
  | 10 => some (.linkReset (get [1] 8 0))
  | 11 => some (.linkQuality (get [1, 1] 8 0) (get [1, 1] 8 1))
  | 12 => some (.linkForce (get [1] 8 0))
  | 13 =>
    let z := List.replicate 33 1
    some (.setSchedule
      { count := get z 8 0, slots := ⟨((List.range 32).map fun i => get z 8 (i + 1)).toArray, by simp⟩ })
  | 14 =>
    let z := [1, 1, 2, 2, 2, 2, 4, 4, 4]
    some (.loadTariff
      { region := get z 8 0, cls := get z 8 1, mults := #v[get z 16 2, get z 16 3, get z 16 4, get z 16 5],
        block := get z 32 6, upPrice := get z 32 7, downPrice := get z 32 8 })
  | 15 =>
    let z := [2, 1, 1, 8, 8, 4]
    some (.openAccount
      { account := get z 16 0, cls := get z 8 1, partner := get z 8 2, subscriber := get z 64 3, grant := get z 64 4,
        threshold := get z 32 5 })
  | 16 =>
    let z := [2, 2, 4, 8]
    some (.grant { account := get z 16 0, generation := get z 16 1, threshold := get z 32 2, amount := get z 64 3 })
  | 17 => some (.suspend (get [2] 16 0))
  | 18 => some (.resume (get [2] 16 0))
  | 19 => some (.closeAccount (get [2] 16 0))
  | 20 =>
    let z := [1, 1, 1, 8]
    some (.loadPartner { partner := get z 8 0, state := get z 8 1, mask := get z 8 2, ceiling := get z 64 3 })
  | 21 => some .settle
  | 22 => some .flush
  | _ => none

/-- The code of a command (12, Command record). -/
def requestCode : Request → Nat
  | .configure _ => 1 | .start => 2 | .stop => 3 | .loadZone _ => 4 | .position _ => 5 | .coverageHold => 6
  | .coverageRelease => 7 | .loadLink _ => 8 | .linkEnable _ => 9 | .linkReset _ => 10 | .linkQuality _ _ => 11
  | .linkForce _ => 12 | .setSchedule _ => 13 | .loadTariff _ => 14 | .openAccount _ => 15 | .grant _ => 16
  | .suspend _ => 17 | .resume _ => 18 | .closeAccount _ => 19 | .loadPartner _ => 20 | .settle => 21 | .flush => 22

/-! Fields of a 16-byte descriptor (R192; 12, Descriptors). -/

def descBuffer (d : List Byte) : Nat := field d 0 8
def descLength (d : List Byte) : Nat := field d 8 2
/-- The account field of a logical uplink or radio downlink descriptor, the relay tag of a link descriptor. -/
def descAccount (d : List Byte) : Nat := field d 10 2
def descOwn (d : List Byte) : Bool := field d 12 1 % 2 == 1
/-- The source link of a radio downlink descriptor, the completion status of a link descriptor. -/
def descByte13 (d : List Byte) : Nat := field d 13 1
def descGen (d : List Byte) : Nat := field d 14 2

/-- The same bytes with bit 1 of byte 12 set (R106, R192). -/
def withDiscard (d : List Byte) : List Byte := d.modify 12 (· ||| 2)

/-- The account record in 64 bytes (12, Account record). -/
def recOfBytes (b : List Byte) : AcctRec :=
  { st := field b 0 1, cls := field b 1 1, credit := field b 2 1, incarnation := field b 3 1, partner := field b 4 1,
    marks := field b 5 1, gen := field b 6 2, subscriber := field b 8 8, grant := field b 16 6, used := field b 22 6,
    low := field b 28 4, bytesUp := field b 32 6, bytesDown := field b 38 6, total := field b 44 6,
    carryUp := field b 50 3, carryDown := field b 53 3, residue := field b 56 1, cause := field b 57 1,
    openTime := field b 58 4, lastRegion := field b 62 1, lastClass := field b 63 1 }

/-- The 64 bytes of an account record. -/
def bytesOfRec (r : AcctRec) : List Byte :=
  leBytes 1 r.st ++ leBytes 1 r.cls ++ leBytes 1 r.credit ++ leBytes 1 r.incarnation ++ leBytes 1 r.partner ++
  leBytes 1 r.marks ++ leBytes 2 r.gen ++ leBytes 8 r.subscriber ++ leBytes 6 r.grant ++ leBytes 6 r.used ++
  leBytes 4 r.low ++ leBytes 6 r.bytesUp ++ leBytes 6 r.bytesDown ++ leBytes 6 r.total ++ leBytes 3 r.carryUp ++
  leBytes 3 r.carryDown ++ leBytes 1 r.residue ++ leBytes 1 r.cause ++ leBytes 4 r.openTime ++
  leBytes 1 r.lastRegion ++ leBytes 1 r.lastClass

/-- The LOW-reported flag, bit 0 of the marks byte. -/
def lowReported (r : AcctRec) : Bool := r.marks % 2 == 1

/-- The marks byte with the LOW-reported flag set or cleared. -/
def setLowReported (v : Bool) (m : Nat) : Nat := m / 2 * 2 + yesNo v

/-- The clamped-since-open flag, bit 1 of the marks byte. -/
def clampedSinceOpen (r : AcctRec) : Bool := r.marks / 2 % 2 == 1

/-- The marks byte with the clamped-since-open flag set. -/
def setClamped (m : Nat) : Nat := m / 4 * 4 + 2 + m % 2

end Sys2Proof.Machine
end

