-- ==== Sys2Proof/Machine/Tables.lean ====
section
/-! DEFINITION. Reading and writing the sparse tables of State in their one canonical form. -/

namespace Sys2Proof.Machine

/-- The record numbered `n`: the listed one, or the default. -/
def look {α : Type} [Inhabited α] : Tab α → Nat → α
  | [], _ => default
  | (k, v) :: t, n => if k = n then v else look t n

/-- Put a record at its place by rising number. -/
def insertAt {α : Type} : Tab α → Nat → α → Tab α
  | [], n, v => [(n, v)]
  | (k, w) :: t, n, v => if n < k then (n, v) :: (k, w) :: t else (k, w) :: insertAt t n v

/-- Write the record numbered `n`; a record equal to the default is not listed. -/
def put {α : Type} [Inhabited α] [DecidableEq α] (t : Tab α) (n : Nat) (v : α) : Tab α :=
  let rest := t.filter (fun p => p.1 != n)
  if v = default then rest else insertAt rest n v

/-- Change the record numbered `n`. -/
def upd {α : Type} [Inhabited α] [DecidableEq α] (t : Tab α) (n : Nat) (f : α → α) : Tab α :=
  put t n (f (look t n))

/-- The canonical form: numbers strictly rising and no listed record equal to the default. -/
def tabWf {α : Type} [Inhabited α] [DecidableEq α] : Tab α → Bool
  | [] => true
  | [(_, v)] => v != default
  | (k, v) :: (m, w) :: t => decide (k < m) && v != default && tabWf ((m, w) :: t)

end Sys2Proof.Machine
end

