-- ==== Sys2Proof/Machine/Flags.lean ====
section
/-! DEFINITION. What is computed from State and held nowhere: the output lines, the published terms, the region table,
the gate decision, and the conditions that the rules name (allowed, fit, room, ready, overlap). -/

namespace Sys2Proof.Machine

/-- Now minus a service clock value, modulo 2^32 (00_scope, The service clock). -/
def elapsed (s : State) (since : Time) : Nat := (s.clock - since).toNat

/-! ### The current zone -/

/-- The published record of the current zone (R15). -/
def published (s : State) : Option Zone := s.pos.current.bind (look s.pos.zones)

/-- The published link preference list; empty while there is no current zone (R68). -/
def prefList (s : State) : List Nat := ((published s).map Zone.prefs).getD []

/-- The current tariff region as the Position Unit publishes it; none while there is no current zone. -/
def currentRegion (s : State) : Option Nat := (published s).map Zone.region

/-! ### Coverage -/

/-- The position is lost beyond the grace (R20). -/
def lostBeyondGrace (s : State) : Bool :=
  s.pos.st == .lost && decide (s.cfg.lostGrace ≤ elapsed s s.pos.lostSince)

/-- Coverage is allowed (R20). -/
def allowed (s : State) : Bool :=
  s.cmd.run == .running && !s.cov.hold && (published s).map Zone.cover == some .serve && !lostBeyondGrace s

/-- What brought coverage to OPENING has not been undone: every term of R20 whose change ends OPENING within its own event,
while the lost grace expiry, which ends it too, has not been taken (R24). -/
def openingStands (s : State) : Bool :=
  s.cmd.run == .running && !s.cov.hold && (published s).map Zone.cover == some .serve

/-- The opening test of R23 passes. -/
def openingTestPasses (s : State) : Bool :=
  s.cov.st == .dark && allowed s && s.cov.view && decide (s.cfg.darkMin ≤ elapsed s s.cov.darkSince)

/-- The RF_ENABLE line (R29). -/
def rfEnable (s : State) : Bool := s.cov.st != .dark

/-- Admission (R30). -/
def admission (s : State) : Bool := s.cov.st == .serving

/-- The gate coverage term (R30). -/
def gateTerm (s : State) : Bool := s.cov.st == .serving || s.cov.st == .closing

/-! ### Links -/

def linkOf (s : State) (k : Nat) : Link := look s.sup.links k

/-- The carrier view of a link (R59); before any record is loaded it follows the line (R76). -/
def carrierView (l : Link) : Bool :=
  match l.record with
  | some r => r.carrierUse == .always || l.carrierLine
  | none => l.carrierLine

/-- A link is fit (R61). -/
def fit (l : Link) : Bool :=
  match l.record with
  | some r => carrierView l && decide (r.threshold ≤ l.quality)
  | none => false

/-- The relay entries counted in link k's posted count, by entry number (R67, R88). -/
def postedOn (s : State) (k : Nat) : List (Nat × Entry) :=
  s.relay.table.filter fun p => p.2.st == .posted && p.2.link == some k && !p.2.offCount

/-- A link has room (R67). -/
def hasRoom (s : State) (k : Nat) : Bool :=
  let l := linkOf s k
  match l.record with
  | some r => decide (l.posted < r.size - 1) && (postedOn s k).all (fun p => p.2.linkSlot != l.postPtr)
  | none => false

/-- The eligible set: the UP links of the published preference list, in id order (R68 step 1). -/
def eligibleSet (s : State) : List Nat :=
  (List.range 4).filter fun k => (linkOf s k).health == .up && (prefList s).contains k

/-- The effective mode (R68 step 2). -/
def effectiveMode (s : State) : LinkMode :=
  match published s with
  | some z => if z.mode == .shared && s.sup.forced.isNone then .shared else .single
  | none => .single

/-- The selector target in effective mode SINGLE (R68 step 3). -/
def selectorTarget (s : State) : Option Nat :=
  match s.sup.forced with
  | some f => if (linkOf s f).health == .up then some f else (prefList s).find? (eligibleSet s).contains
  | none => (prefList s).find? (eligibleSet s).contains

/-! ### The gate -/

/-- The gate decision for a metered account (R102). -/
def gateDecision (s : State) (a : Nat) : Bool :=
  let e := look s.gate.map a
  s.cmd.run == .running && gateTerm s && e.opened &&
    (match e.partner with | none => true | some p => look s.settle.admitted p)

/-- The usage queue is full (R108). -/
def queueFull (s : State) : Bool := decide (128 ≤ s.gate.queue.length)

/-- A waiting event can be dealt with: the queue has room, and the part has not halted (R109, R111). -/
def waitingDue (s : State) : Bool := s.gate.waiting.isSome && !queueFull s && s.cmd.run != .halted

/-- The value of a partner's admitted flag (R170). Region r's mark is bit r of the mask (DESIGN CHOICE, assumption 39). -/
def flagFor (s : State) (p : Nat) : Bool :=
  match look s.settle.partners p, s.settle.region with
  | some r, some g => r.enabled && r.mask.getLsbD g
  | _, _ => false

/-! ### Rings and regions -/

/-- The control block's base (R37). -/
def ctrlBase (s : State) : Nat := s.path.baseSel.toNat * 268435456

/-- A power of two from `lo` to `hi` (all the ring sizes of the manual lie in 16 to 4,096). -/
def powerIn (lo hi n : Nat) : Bool :=
  [16, 32, 64, 128, 256, 512, 1024, 2048, 4096].contains n && decide (lo ≤ n) && decide (n ≤ hi)

/-- The command ring geometry when it is latched and valid (R178). -/
def cmdRing (s : State) : Option (Nat × Nat) :=
  match s.cmd.base, s.cmd.size with
  | some b, some n => if b % 4096 == 0 && powerIn 16 256 n then some (b, n) else none
  | _, _ => none

/-- The report ring geometry when it is latched and valid (R178, R185). -/
def repRing (s : State) : Option (Nat × Nat) :=
  match s.rep.base, s.rep.size with
  | some b, some n => if b % 4096 == 0 && powerIn 64 4096 n then some (b, n) else none
  | _, _ => none

/-- The report ring has room (R185). -/
def repRoom (s : State) : Bool :=
  match repRing s, s.rep.view with
  | some (_, n), some v => (s.rep.producer + 1) % n != v
  | _, _ => false

/-- The IRQ line (R186). -/
def irq (s : State) : Bool :=
  match s.rep.view with
  | some v => s.rep.written != v
  | none => false

/-- The kinds of region, numbered as FAULT payloads number them (12, after the FAULT forms). -/
inductive RegionKind where
  | control | commandRing | reportRing | accountTable | logicalRing | radioRing | linkRing (k : Nat)
  deriving DecidableEq, Repr, Inhabited

/-- The base and length of a present region, none where it is absent (R37). -/
def regionOf (s : State) : RegionKind → Option (Nat × Nat)
  | .control => some (ctrlBase s, 256)
  | .commandRing => match s.cmd.base, s.cmd.size with | some b, some n => some (b, 128 * n) | _, _ => none
  | .reportRing => match s.rep.base, s.rep.size with | some b, some n => some (b, 64 * n) | _, _ => none
  | .accountTable => if s.cmd.configured then some (s.cfg.acctBase, 64 * s.cfg.accounts) else none
  | .logicalRing => if s.cmd.configured then some (s.cfg.upBase, 16 * s.cfg.upSize) else none
  | .radioRing => if s.cmd.configured then some (s.cfg.downBase, 16 * s.cfg.downSize) else none
  | .linkRing k =>
    match (linkOf s k).health, (linkOf s k).record with
    | .unconfigured, _ => none
    | _, some r => some (r.base, 16 * r.size)
    | _, none => none

/-- All region kinds, in the table's order. -/
def allRegions : List RegionKind :=
  [.control, .commandRing, .reportRing, .accountTable, .logicalRing, .radioRing, .linkRing 0, .linkRing 1,
   .linkRing 2, .linkRing 3]

/-- Two stretches of addresses (base, length) share a byte. -/
def shareByte (a b : Nat × Nat) : Bool :=
  decide (a.1 < b.1 + b.2) && decide (b.1 < a.1 + a.2) && decide (0 < a.2) && decide (0 < b.2)

/-- Some two of these stretches share a byte. -/
def anyShare : List (Nat × Nat) → Bool
  | [] => false
  | a :: t => t.any (shareByte a) || anyShare t

/-- START's overlap check (R187 step 4). -/
def regionsOverlap (s : State) : Bool := anyShare (allRegions.filterMap (regionOf s))

/-! ### Initiators (R39) -/

/-- The initiator is in the software initiator mask: initiator i's mark is bit i (R39; DESIGN CHOICE, assumption 39). -/
def isSoftware (s : State) (i : Nat) : Bool := s.cmd.configured && s.cfg.softMask.getLsbD i

/-- The initiator is the radio initiator. -/
def isRadio (s : State) (i : Nat) : Bool := s.cmd.configured && s.cfg.radioInitiator == i

/-- The initiator is link k's initiator. -/
def isLinkInitiator (s : State) (k i : Nat) : Bool :=
  match (linkOf s k).record with
  | some r => r.initiator == i
  | none => false

/-! ### The own-write queue -/

/-- An own write enters the queue at once: the queue holds fewer than 16 entries and no write waits for room (R47). -/
def canEnter (s : State) : Bool := decide (s.path.queue.length < 16) && s.path.waiting.isEmpty

end Sys2Proof.Machine
end

