-- ==== Sys2Proof/Machine/Ops.lean ====
section
/-! DEFINITION. The shared operations on own traffic (R47, R49) and on the report ring (R184 to R186), and the completion
of a command (R182): every block's meaning goes through them. -/

namespace Sys2Proof.Machine

/-! ### Own traffic -/

/-- Byte-enables of `n` bytes, set on these (offset, size) stretches. -/
def enablesOf (n : Nat) (on : List (Nat × Nat)) : List Bool :=
  (List.range n).map fun i => on.any fun r => decide (r.1 ≤ i) && decide (i < r.1 + r.2)

/-- An own write of whole beats, every byte enabled. -/
def fullWrite (b : Block) (addr : Nat) (data : List Byte) (use : WriteUse) : OwnWrite :=
  { block := b, addr := addr, beats := data.length / 16, data := data, enables := List.replicate data.length true,
    use := use, resume := false, seq := 0 }

/-- A one-beat own write at `addr` that enables only these fields (offset in the beat, size, value). -/
def fieldWrite (b : Block) (addr : Nat) (fields : List (Nat × Nat × Nat)) (use : WriteUse) : OwnWrite :=
  { block := b, addr := addr, beats := 1, data := recordOf 16 fields,
    enables := enablesOf 16 (fields.map fun f => (f.1, f.2.1)), use := use, resume := false, seq := 0 }

/-- Place an own write: it enters the queue, or waits for room behind those that wait (R47). Several writes that one
event of a block makes all wait at once, in the order they were made (DESIGN CHOICE, assumption 31). -/
def placeWrite (w : OwnWrite) (s : State) : State :=
  if canEnter s then
    { s with path := { s.path with queue := s.path.queue ++ [{ w with seq := s.path.seq }], seq := s.path.seq + 1 } }
  else { s with path := { s.path with waiting := s.path.waiting ++ [w] } }

/-- Issue an own read: it waits for the arbiter from now (R47). -/
def issueRead (b : Block) (addr beats : Nat) (use : ReadUse) (s : State) : State :=
  { s with path := { s.path with
      reads := s.path.reads ++ [{ block := b, addr := addr, beats := beats, use := use, seq := s.path.seq }]
      seq := s.path.seq + 1 } }

/-! ### Reports -/

/-- The 64 bytes of a report with the dropped count as it stands at placement (R185, R194). -/
def reportBytes (r : Report) (dropped : Nat) : List Byte :=
  recordOf 64 ([(0, 1, r.kind), (1, 1, dropped), (2, 1, r.cause), (3, 1, r.flags), (4, 4, r.tag.toNat)] ++ r.fields)

/-- A write of the Report Writer waits for own-write room. -/
def reportWriteWaits (s : State) : Bool := s.path.waiting.any fun w => w.block == .reportWriter

/-- Move pending writes toward the own-write queue, each record before its producer word, until one waits (R185). -/
def pumpReports : Nat → State → State
  | 0, s => s
  | n + 1, s =>
    match s.rep.pend with
    | [] => s
    | p :: rest =>
      if reportWriteWaits s then s
      else match p.record, p.recordIn with
        | some (addr, bytes), false =>
          let w := fullWrite .reportWriter addr bytes .reportRecord
          if canEnter s then
            pumpReports n (placeWrite w { s with rep := { s.rep with pend := { p with recordIn := true } :: rest } })
          else placeWrite w s
        | _, _ =>
          let w := fieldWrite .reportWriter (p.wordAddr / 16 * 16) [(p.wordAddr % 16, 4, p.value)]
            (.producerWord p.value)
          if canEnter s then pumpReports n (placeWrite w { s with rep := { s.rep with pend := rest } })
          else placeWrite w s

/-- Run the pending writes as far as they go. -/
def runReports (s : State) : State := pumpReports (2 * s.rep.pend.length + 1) s

/-- The address of the report producer index word (12, Control block). -/
def producerAddr (s : State) : Nat := ctrlBase s + 36

/-- Place a report at the producer position (R185). The ring geometry is the valid one. -/
def placeReport (r : Report) (s : State) : State :=
  match repRing s with
  | none => s
  | some (base, n) =>
    let next := (s.rep.producer + 1) % n
    runReports { s with rep := { s.rep with
      producer := next
      dropped := 0
      pend := s.rep.pend ++
        [{ record := some (base + 64 * s.rep.producer, reportBytes r s.rep.dropped), wordAddr := producerAddr s,
           value := next, recordIn := false }] } }

/-- A report can be placed at once: room, and no billing report waits (R185). -/
def canPlace (s : State) : Bool := repRoom s && s.rep.waiters.isEmpty

/-- Offer an event report: placed at once, or dropped and counted (R185). -/
def offerEvent (r : Report) (s : State) : State :=
  if canPlace s then placeReport r s
  else { s with rep := { s.rep with dropped := min 255 (s.rep.dropped + 1) } }

/-- A report with its time tag now. -/
def reportNow (s : State) (kind cause flags : Nat) (fields : List (Nat × Nat × Nat)) : Report :=
  { kind := kind, cause := cause, flags := flags, tag := s.clock, fields := fields }

/-- Form an event report now and offer it. -/
def event (kind cause flags : Nat) (fields : List (Nat × Nat × Nat)) (s : State) : State :=
  offerEvent (reportNow s kind cause flags fields) s

/-! ### The Command Engine -/

/-- The address of the beat that holds the command consumer index word (12, Control block). -/
def consumerAddr (s : State) : Nat := ctrlBase s + 16

/-- The engine is free to fetch: the geometry is valid, the view is known and differs from the consumer position, and
nothing is fetched or in progress (R180). -/
def mayFetch (s : State) : Bool :=
  match cmdRing s, s.cmd.view with
  | some _, some v => v != s.cmd.consumer && s.cmd.job.isNone && s.cmd.fetching.isNone && !s.cmd.blocked
  | _, _ => false

/-- Begin a fetch where R180 lets it begin. -/
def tryFetch (s : State) : State :=
  match cmdRing s with
  | none => s
  | some (base, n) =>
    if mayFetch s then
      let addr := base + 128 * s.cmd.consumer
      issueRead .commandEngine addr 8 (.fetch s.cmd.latched) { s with cmd := { s.cmd with fetching := some (addr, s.cmd.consumer, n) } }
    else s

/-- A latch of a command ring field takes effect (R178). A fetch under the earlier geometry is given up: what it reads is
dropped when it returns (DESIGN CHOICE, assumption 14). -/
def applyLatch (l : Latch) (s : State) : State :=
  let c := { s.cmd with view := none, fetching := none, latched := s.cmd.latched + 1 }
  let c := match l with
    | .base v => { c with base := some v }
    | .size v => { c with size := some v }
  let s := { s with cmd := c }
  match cmdRing s with
  | none => s
  | some _ =>
    placeWrite (fieldWrite .commandEngine (consumerAddr s) [(0, 4, 0)] .consumerReset)
      { s with cmd := { s.cmd with consumer := 0 } }

/-- The latches that waited for the command in progress take effect, in order (R178). -/
def applyLatches (s : State) : State :=
  s.cmd.latches.foldl (fun s l => applyLatch l s) { s with cmd := { s.cmd with latches := [] } }

/-- The end of a completion: COMMAND_DONE when NOTIFY was set, latches that waited, and the next fetch (R182, R178). The
manual names no cause for COMMAND_DONE: its cause byte is 0 (DESIGN CHOICE, assumption 23). The run state it gives is the one
at this moment, also where the completion's writes have waited for room since the command completed (DESIGN CHOICE,
assumption 37). -/
def finishJob (s : State) : State :=
  match s.cmd.job with
  | none => s
  | some j =>
    let d := j.done.getD default
    let s := { s with cmd := { s.cmd with job := none } }
    let s := if j.notify then
        offerEvent
          { kind := kindCommandDone, cause := 0, flags := 0, tag := d.time,
            fields := [(8, 1, j.index), (9, 1, j.code), (10, 1, statusCode d.status), (11, 1, runCode s.cmd.run),
              (16, 16, leNat (d.results.take 16))] } s
      else s
    tryFetch (applyLatches s)

/-- Step 3 of a completion: the consumer position advances and its word is written (R182). -/
def writeConsumer (s : State) : State :=
  match s.cmd.job with
  | none => s
  | some j =>
    let next := (s.cmd.consumer + 1) % j.size
    let w := fieldWrite .commandEngine (consumerAddr s) [(0, 4, next)] .consumerWord
    let ok := canEnter s
    let s := placeWrite w { s with cmd := { s.cmd with consumer := next } }
    if ok then finishJob s else s

/-- Step 2 of a completion: the status and done bytes (R182). -/
def writeStatus (s : State) : State :=
  match s.cmd.job with
  | none => s
  | some j =>
    let w := fieldWrite .commandEngine j.addr [(2, 1, statusCode (j.done.getD default).status), (3, 1, 1)] .status
    let ok := canEnter s
    let s := placeWrite w s
    if ok then writeConsumer s else s

/-- The results write: the beats from the lowest byte written to byte 127, enabling the result bytes and the parameter
bytes the command rewrites (R182). -/
def resultsWrite (addr : Nat) (d : Completion) : OwnWrite :=
  let lo := (d.rewrites.map Prod.fst).foldl min 96 / 16 * 16
  let whole := poke (recordOf 128 d.rewrites) 96 32 (leNat d.results)
  { block := .commandEngine, addr := addr + lo, beats := (128 - lo) / 16, data := whole.drop lo,
    enables := (enablesOf 128 ((96, 32) :: d.rewrites.map fun f => (f.1, f.2.1))).drop lo, use := .results,
    resume := false, seq := 0 }

/-- A command completes: its owner gives the status, the results and what it writes over its parameters, and the
Command Engine places the writes of R182 in order. -/
def complete (st : Status) (vals : List (Nat × Nat)) (rewrites : List (Nat × Nat × Nat)) (s : State) : State :=
  match s.cmd.job with
  | none => s
  | some j =>
    if j.done.isSome then s
    else
    let d : Completion := { status := st, results := resultBytes vals, rewrites := rewrites, time := s.clock }
    let ok := canEnter s
    let s := placeWrite (resultsWrite j.addr d) { s with cmd := { s.cmd with job := some { j with done := some d } } }
    if ok then writeStatus s else s

/-- A command completes with this status and zero results (R181). -/
def refuse (st : Status) (s : State) : State := complete st [] [] s

end Sys2Proof.Machine
end

