-- ==== Sys2Proof/Machine/Coverage.lean ====
section
/-! DEFINITION. The Coverage Controller (02_coverage): its transitions, each with its report, and what each published
change does in each state. -/

namespace Sys2Proof.Machine

/-- Causes of a COVERAGE report (12, Encodings). -/
inductive CovCause where
  | allowed | warmed | hold | zone | position | backhaul | runState | drained | forcedQuiet | forcedRun
  deriving DecidableEq, Repr

def covCauseCode : CovCause → Nat
  | .allowed => 1 | .warmed => 2 | .hold => 3 | .zone => 4 | .position => 5 | .backhaul => 6 | .runState => 7
  | .drained => 8 | .forcedQuiet => 9 | .forcedRun => 9

def forcedReason : CovCause → Nat
  | .forcedQuiet => 1 | .forcedRun => 2 | _ => 0

/-- One transition of the coverage state: the since-time of the state entered, and the COVERAGE report (R33), which
carries the values as they stand after it. -/
def covMove (new : CovState) (cause : CovCause) (s : State) : State :=
  let old := s.cov.st
  let cov := match new with
    | .dark => { s.cov with st := .dark, darkSince := s.clock }
    | .opening => { s.cov with st := .opening, openingSince := s.clock }
    | .serving => { s.cov with st := .serving }
    | .closing => { s.cov with st := .closing, closingSince := s.clock }
  let s := { s with cov := cov }
  event kindCoverage (covCauseCode cause) 0
    [(8, 1, covCode old), (9, 1, covCode new), (10, 1, forcedReason cause), (11, 1, orNone s.pos.current),
     (12, 1, orNone ((published s).map fun z => coverCode z.cover)), (13, 1, yesNo s.cov.hold),
     (14, 1, posCode s.pos.st), (15, 1, yesNo s.cov.view), (16, 1, runCode s.cmd.run)] s

/-- The opening test of R23; with a warm-up of 0 the warm-up expiry is taken within it (R24). -/
def openingTest (s : State) : State :=
  if openingTestPasses s then
    let s := covMove .opening .allowed s
    if s.cfg.warmUp = 0 then covMove .serving .warmed s else s
  else s

/-- Enter DARK; with a dark minimum of 0 the opening test is made within the same event (R26). -/
def covDark (cause : CovCause) (s : State) : State :=
  let s := covMove .dark cause s
  if s.cfg.darkMin = 0 then openingTest s else s

/-- The action on a published attribute (R27). -/
def covAttr (c : Cover) (s : State) : State :=
  match c, s.cov.st with
  | .serve, .dark => openingTest s
  | .close, .opening => covDark .zone s
  | .close, .serving => covMove .closing .zone s
  | .quiet, .opening => covDark .zone s
  | .quiet, .serving => covDark .forcedQuiet s
  | .quiet, .closing => covDark .forcedQuiet s
  | _, _ => s

/-- The run state has left RUNNING (R28). -/
def covLeaveRunning (s : State) : State :=
  match s.cov.st with
  | .opening => covDark .runState s
  | .serving => covDark .forcedRun s
  | .closing => covDark .forcedRun s
  | .dark => s

/-- OPENING goes dark and SERVING to CLOSING, with this cause: COVERAGE_HOLD, the lost grace expiry and the backhaul
loss expiry act alike (R24, R25). -/
def covClose (cause : CovCause) (s : State) : State :=
  match s.cov.st with
  | .opening => covDark cause s
  | .serving => covMove .closing cause s
  | _ => s

/-- The position state has entered LOST: with a lost grace of 0 its expiry is taken within the event (R22). -/
def covPositionLost (s : State) : State :=
  if s.cfg.lostGrace = 0 then covClose .position s else s

/-- The Coverage Controller takes a published backhaul presence (R21, R23). -/
def covBackhaul (present : Bool) (s : State) : State :=
  if present = s.cov.view then s
  else if present then openingTest { s with cov := { s.cov with view := true } }
  else { s with cov := { s.cov with view := false, absentSince := s.clock } }

/-- COVERAGE_HOLD's effect on the flag and the state (R31). -/
def covHold (s : State) : State :=
  if s.cov.hold then s else covClose .hold { s with cov := { s.cov with hold := true } }

/-- COVERAGE_RELEASE's effect on the flag and the state (R31). -/
def covRelease (s : State) : State :=
  if s.cov.hold then openingTest { s with cov := { s.cov with hold := false } } else s

/-! ### Expiries -/

/-- The lost grace expiry is due (R22). -/
def lostGraceDue (s : State) : Bool := lostBeyondGrace s

def lostGraceExpiry (s : State) : State := if lostGraceDue s then covClose .position s else s

/-- The backhaul loss expiry is due (R21). -/
def backhaulLossDue (s : State) : Bool :=
  !s.cov.view && decide (s.cfg.backhaulLimit ≤ elapsed s s.cov.absentSince)

def backhaulLossExpiry (s : State) : State := if backhaulLossDue s then covClose .backhaul s else s

/-- The warm-up expiry is due (R24). -/
def warmUpDue (s : State) : Bool :=
  s.cov.st == .opening && decide (s.cfg.warmUp ≤ elapsed s s.cov.openingSince)

/-- The warm-up expiry (R24). Where the lost grace expiry falls together with it and is taken later, this one is taken
first: the state is SERVING, and the lost grace expiry then acts as R25 states. -/
def warmUpExpiry (s : State) : State :=
  if warmUpDue s && openingStands s then covMove .serving .warmed s else s

/-- The drain expiry is due (R26). -/
def drainDue (s : State) : Bool :=
  s.cov.st == .closing && decide (s.cfg.drain ≤ elapsed s s.cov.closingSince)

def drainExpiry (s : State) : State := if drainDue s then covDark .drained s else s

/-- The dark minimum expiry makes the opening test, which asks for the elapsed time itself (R23). -/
def darkMinimumExpiry (s : State) : State := openingTest s

end Sys2Proof.Machine
end

