-- ==== Sys2Proof/Machine/Relay.lean ====
section
/-! DEFINITION. The Uplink Relay (05): takes, the two lists, dispatch, posts, write-backs and the schedule. -/

namespace Sys2Proof.Machine

def entryOf (s : State) (e : Nat) : Entry := look s.relay.table e

def setEntry (e : Nat) (en : Entry) (s : State) : State :=
  { s with relay := { s.relay with table := put s.relay.table e en } }

def setLink (k : Nat) (l : Link) (s : State) : State :=
  { s with sup := { s.sup with links := put s.sup.links k l } }

/-! ### Takes -/

/-- The lowest-numbered FREE entry that no take has reserved (R78 step 3). -/
def freeEntryNo (s : State) : Option Nat :=
  (List.range 512).find? fun e => (entryOf s e).st == .free && s.relay.take.map Take.entry != some e

/-- Begin a take where R78 lets one begin. -/
def tryTake (s : State) : State :=
  if s.cmd.run == .running && look s.relay.ready s.relay.takePtr && s.relay.take.isNone then
    match freeEntryNo s with
    | none => s
    | some e =>
      let slot := s.relay.takePtr
      issueRead .uplinkRelay (s.cfg.upBase + 16 * slot) 1 .take
        { s with relay := { s.relay with
            ready := put s.relay.ready slot false
            held := put s.relay.held slot true
            takePtr := (slot + 1) % s.cfg.upSize
            take := some { slot := slot, entry := e, time := s.clock } } }
  else s

/-- The entry becomes FREE and its slot's held mark is cleared (R91). -/
def freeEntry (e : Nat) (s : State) : State :=
  { s with relay := { s.relay with
      held := put s.relay.held (entryOf s e).slot false
      table := put s.relay.table e default } }

/-- The final write-back of an entry's logical slot (R91, R192). -/
def slotWrite (s : State) (e : Nat) (f : Final) (link : Option Nat) : OwnWrite :=
  let en := entryOf s e
  fullWrite .uplinkRelay (s.cfg.upBase + 16 * en.slot)
    (recordOf 16 [(0, 8, en.buffer), (8, 2, en.length), (10, 2, en.account), (12, 1, 0), (13, 1, finalCode f),
      (14, 1, orNone link), (15, 1, en.attempts)]) (.slotBack e)

/-- An entry ends with a final status and is written back; while the write waits for room the entry is ENDING. In a
dispatch pass (`inPass`) the pass waits with the write (R82, R91). -/
def endEntry (inPass : Bool) (e : Nat) (f : Final) (link : Option Nat) (s : State) : State :=
  let w := { slotWrite s e f link with resume := inPass }
  let s := { s with
    relay := { s.relay with
      waitList := s.relay.waitList.filter (· != e)
      retryList := s.relay.retryList.filter (· != e) }
    cmd := { s.cmd with counts := { s.cmd.counts with
      aborted := s.cmd.counts.aborted + (if f = .aborted then 1 else 0) } } }
  if canEnter s then freeEntry e (placeWrite w s)
  else
    let s := placeWrite w (setEntry e { entryOf s e with st := .ending } s)
    { s with relay := { s.relay with suspended := s.relay.suspended || inPass } }

/-! ### Dispatch -/

/-- Install a schedule, with the round pointer at 0 (R94). -/
def installSchedule (sch : Schedule) (s : State) : State :=
  { s with relay := { s.relay with running := sch, staged := none, round := 0 } }

/-- The effective mode has changed: the round pointer returns to 0 and a staged schedule is installed (R94). -/
def scheduleModeChange (s : State) : State :=
  match s.relay.staged with
  | some sch => installSchedule sch s
  | none => { s with relay := { s.relay with round := 0 } }

/-- Examine the running schedule from the round pointer (R83 SHARED, R94). `fuel` bounds the slots of both schedules,
`left` counts the slots still to examine. -/
def examine : Nat → Nat → State → State × Option Nat
  | 0, _, s => (s, none)
  | _ + 1, 0, s => (s, none)
  | fuel + 1, left + 1, s =>
    let slot := s.relay.running.slots.getD s.relay.round none
    let next := (s.relay.round + 1) % s.relay.running.slots.length
    let moved := { s with relay := { s.relay with round := next } }
    let r : State × Nat :=
      match s.relay.staged, next with
      | some sch, 0 => (installSchedule sch moved, sch.slots.length)
      | _, _ => (moved, left)
    match slot with
    | some k => if s.sup.eligible.contains k && hasRoom s k then (r.1, some k) else examine fuel r.2 r.1
    | none => examine fuel r.2 r.1

/-- The link for a WAITING entry (R83). -/
def chooseWaiting (s : State) : State × Option Nat :=
  match s.sup.mode with
  | .single => (s, s.sup.active.filter (hasRoom s))
  | .shared => examine 65 s.relay.running.slots.length s

/-- Link k is UP and has room. -/
def usable (s : State) (k : Nat) : Bool := (linkOf s k).health == .up && hasRoom s k

/-- The link for a RETRY entry (R84). -/
def chooseRetry (en : Entry) (s : State) : Option Nat :=
  match en.link with
  | none => none
  | some f =>
    let first := if en.consecutive ≤ ((linkOf s f).record.map LinkRec.retries).getD 0 then [f] else []
    let second := ((prefList s).find? fun k => (linkOf s k).health == .up && k != f).toList
    (first ++ second ++ [f]).find? (usable s)

/-- The link descriptor of a post (R85, R192). -/
def postWrite (s : State) (e k : Nat) : OwnWrite :=
  let en := entryOf s e
  let l := linkOf s k
  fullWrite .uplinkRelay ((l.record.map LinkRec.base).getD 0 + 16 * l.postPtr)
    (recordOf 16 [(0, 8, en.buffer), (8, 2, en.length), (10, 2, e), (12, 1, 1), (13, 1, 0), (14, 2, l.gen.toNat)])
    (.post e k)

/-- What a post moves within the event that places its write in the queue (R85, R67, R80). -/
def markPosted (e k : Nat) (s : State) : State :=
  let en := entryOf s e
  let l := linkOf s k
  let n := (l.record.map LinkRec.size).getD 0
  let s := setLink k { l with
    postPtr := (l.postPtr + 1) % n
    posted := l.posted + 1
    oldest := some (l.oldest.getD s.clock) } s
  let s := setEntry e { en with
    st := .posted, link := some k, linkSlot := l.postPtr, postTime := s.clock, postSeq := s.relay.postSeq
    attempts := en.attempts + 1
    consecutive := if en.link = some k then en.consecutive + 1 else 1 } s
  { s with relay := { s.relay with
      postSeq := s.relay.postSeq + 1
      waitList := s.relay.waitList.filter (· != e)
      retryList := s.relay.retryList.filter (· != e) } }

/-- Post an entry to link k (R85). Where the own-write queue is full the pass waits with the write, and the entry stays
at the head of its list until the write enters (R47, R82, assumption 12). -/
def post (e k : Nat) (s : State) : State :=
  let w := { postWrite s e k with resume := true }
  if canEnter s then markPosted e k (placeWrite w s)
  else
    let s := placeWrite w s
    { s with relay := { s.relay with suspended := true } }

/-- The write is a post, to a link of `cut`. -/
def isPostTo (cut : Nat → Bool) (w : OwnWrite) : Bool :=
  match w.use with
  | .post _ k => cut k
  | _ => false

/-- A post that still waits for room, to a link of `cut`, is given up: its pass no longer waits (LINK_RESET and STOP,
assumption 12). -/
def dropPosts (cut : Nat → Bool) (s : State) : State :=
  if s.path.waiting.any (isPostTo cut) then
    { s with
      path := { s.path with waiting := s.path.waiting.filter fun w => !isPostTo cut w }
      relay := { s.relay with suspended := false } }
  else s

/-- The entry's gate is closed, or its account has another holder (R82 step 1). -/
def entryGated (s : State) (en : Entry) : Bool :=
  en.metered && (!gateDecision s en.account || (look s.gate.map en.account).incarnation != en.incarnation)

/-- Judge a list head (R82): the state after it, and whether the head left its list. -/
def judgeHead (retry : Bool) (e : Nat) (s : State) : State × Bool :=
  let en := entryOf s e
  if entryGated s en then (endEntry true e .gated en.link s, true)
  else if s.cfg.maxWait < elapsed s en.takeTime then (endEntry true e .expired en.link s, true)
  else
    let c := if retry then (s, chooseRetry en s) else chooseWaiting s
    match c.2 with
    | some k => (post e k c.1, true)
    | none => (c.1, false)

/-- A dispatch pass over the two lists (R82). -/
def passLoop : Nat → State → State
  | 0, s => s
  | n + 1, s =>
    if s.relay.suspended then s
    else
      let r : State × Bool := match s.relay.retryList with
        | e :: _ => judgeHead true e s
        | [] => (s, false)
      if r.2 then passLoop n r.1
      else
        match r.1.relay.waitList with
        | [] => r.1
        | e :: _ =>
          let q := judgeHead false e r.1
          if q.2 then passLoop n q.1 else q.1

/-- Make a dispatch pass, in RUNNING only (R81). -/
def dispatchPass (s : State) : State :=
  if s.cmd.run == .running then passLoop (s.relay.retryList.length + s.relay.waitList.length + 1) s else s

/-- The age of a list head exceeds the dispatch max wait (R81). -/
def headAgeDue (s : State) : Bool :=
  s.cmd.run == .running && !s.relay.suspended &&
    [s.relay.retryList.head?, s.relay.waitList.head?].any fun h =>
      match h with
      | some e => decide (s.cfg.maxWait < elapsed s (entryOf s e).takeTime)
      | none => false

/-! ### Posted entries -/

/-- Entries in the order of their posts, oldest first. -/
def byPost (l : List (Nat × Entry)) : List (Nat × Entry) :=
  l.insertionSort fun a b => a.2.postSeq ≤ b.2.postSeq

/-- The oldest post time of link k (R63): that of the oldest entry still counted. -/
def oldestPost (s : State) (k : Nat) : Option Time := (byPost (postedOn s k)).head?.map fun p => p.2.postTime

/-- An entry counted on a link leaves its count: the posted count falls and the oldest post time moves on (R87 step 1).
An entry already taken off the count has nothing left to lower (R88). -/
def uncount (e : Nat) (s : State) : State :=
  let en := entryOf s e
  match en.link with
  | none => s
  | some k =>
    if en.offCount then s
    else
      let s := setEntry e { en with offCount := true } s
      setLink k { linkOf s k with posted := (linkOf s k).posted - 1, oldest := oldestPost s k } s

/-- An entry becomes RETRY at the tail of the retry list (R80). -/
def toRetry (e : Nat) (s : State) : State :=
  let s := setEntry e { entryOf s e with st := .retry, offCount := false, completionHeld := false } s
  { s with relay := { s.relay with retryList := s.relay.retryList ++ [e] } }

/-- A failed attempt: RETRY below 4 attempts, FAILED at 4 (R89, R90). -/
def failEntry (e : Nat) (s : State) : State :=
  if (entryOf s e).attempts < 4 then toRetry e s else endEntry false e .failed (entryOf s e).link s

/-- LINK_RESET releases the entries posted on link k; those whose completion is held are taken off the count (R90, R88). -/
def releaseLink (k : Nat) (s : State) : State :=
  let on := byPost (postedOn s k)
  let s := on.foldl (fun s p =>
    if p.2.completionHeld then setEntry p.1 { entryOf s p.1 with offCount := true } s else failEntry p.1 s) s
  setLink k { linkOf s k with posted := 0, oldest := none } s

end Sys2Proof.Machine
end

