-- ==== Sys2Proof/Machine/Links.lean ====
section
/-! DEFINITION. The Link Supervisor (04): link health, the selector and swaps. -/

namespace Sys2Proof.Machine

/-- Causes of a LINK_STATE report (12, Encodings). -/
inductive LinkCause where | command | carrier | quality | probation | timeout
  deriving DecidableEq, Repr

def linkCauseCode : LinkCause → Nat
  | .command => 1 | .carrier => 2 | .quality => 3 | .probation => 4 | .timeout => 5

/-- Causes of a LINK_SWAP report (12, Encodings). -/
inductive SwapCause where | restored | failure | preference | force | mode
  deriving DecidableEq, Repr

def swapCauseCode : SwapCause → Nat
  | .restored => 1 | .failure => 2 | .preference => 3 | .force => 4 | .mode => 5

/-! ### The selector -/

/-- A swap: the last swap time, and the LINK_SWAP report (R70). -/
def swapTo (t : Option Nat) (cause : SwapCause) (s : State) : State :=
  let a := s.sup.active
  let s := { s with sup := { s.sup with active := t, lastSwap := s.clock } }
  event kindLinkSwap (swapCauseCode cause) 0
    [(8, 1, orNone a), (9, 1, orNone t), (10, 1, orNone s.pos.current),
     (11, 1, orNone ((published s).map fun z => modeCode z.mode)),
     (12, 2, (a.map fun k => (linkOf s k).posted).getD 0)] s

/-- Cancel a deferred swap. -/
def noDeferred (s : State) : State := { s with sup := { s.sup with deferred := none } }

/-- The active link is UP, and eligible or forced: it may stay while a preference swap waits (R69). -/
def activeHolds (s : State) (a : Nat) : Bool :=
  (linkOf s a).health == .up && (s.sup.eligible.contains a || s.sup.forced == some a)

/-- Bring the active link toward the target in effective mode SINGLE (R69). -/
def bringActive (modeSwap : Bool) (s : State) : State :=
  let t := selectorTarget s
  let a := s.sup.active
  if t = a then noDeferred s
  else if modeSwap then swapTo t .mode (noDeferred s)
  else if t.isSome && t == s.sup.forced then swapTo t .force (noDeferred s)
  else
    match a with
    | none => swapTo t .restored (noDeferred s)
    | some k =>
      if !activeHolds s k then swapTo t .failure (noDeferred s)
      else if s.cfg.swapHold ≤ elapsed s s.sup.lastSwap then swapTo t .preference (noDeferred s)
      else
        { s with sup := { s.sup with
            deferred := some (s.sup.deferred.getD (s.sup.lastSwap + BitVec.ofNat 32 s.cfg.swapHold)) } }

/-- Backhaul is present (R72). -/
def backhaulPresent (s : State) : Bool :=
  match s.sup.mode with
  | .single => s.sup.active.isSome
  | .shared => !s.sup.eligible.isEmpty

/-- Publish a change of backhaul presence (R72). -/
def publishBackhaul (s : State) : State :=
  if backhaulPresent s = s.sup.backhaul then s
  else covBackhaul (backhaulPresent s) { s with sup := { s.sup with backhaul := backhaulPresent s } }

/-- The active link is cleared in effective mode SHARED (R68 step 4, R69). -/
def clearActive (s : State) : State :=
  let s := noDeferred s
  if s.sup.active.isSome then swapTo none .mode s else s

/-- A change of the effective mode is told to the relay's schedule (R94). -/
def tellMode (old : LinkMode) (s : State) : State := if s.sup.mode = old then s else scheduleModeChange s

/-- One selector evaluation (R68). In HALTED the Link Supervisor acts on no event (R75). -/
def selectorEval (s : State) : State :=
  if s.cmd.run == .halted then s
  else
    let old := s.sup.mode
    let s := tellMode old
      { s with sup := { s.sup with eligible := eligibleSet s, mode := effectiveMode s } }
    publishBackhaul (match s.sup.mode with
      | .shared => clearActive s
      | .single => bringActive (old == .shared) s)

/-! ### Health -/

/-- The LINK_STATE report of a change from `old` (R74). -/
def linkStateReport (k : Nat) (old : Health) (cause : LinkCause) (s : State) : State :=
  let l := linkOf s k
  event kindLinkState (linkCauseCode cause) 0
    [(8, 1, k), (9, 1, healthCode old), (10, 1, healthCode l.health), (11, 1, yesNo (carrierView l)),
     (12, 1, l.quality), (13, 1, (l.record.map LinkRec.threshold).getD 0),
     (14, 1, (l.record.map fun r => classCode r.cls).getD 0), (16, 2, l.posted), (18, 2, l.gen.toNat)] s

/-- A move of link health: the report, and the selector evaluation that follows (R61, R68, R74). -/
def moveHealth (k : Nat) (h : Health) (cause : LinkCause) (s : State) : State :=
  let l := linkOf s k
  let s := setLink k { l with
    health := h, probationSince := if h = .probation then s.clock else l.probationSince } s
  selectorEval (linkStateReport k l.health cause s)

/-- The cause of a probation expiry that is taken within another event (R61, R74). -/
def followCause : LinkCause → LinkCause
  | .command => .command
  | .timeout => .timeout
  | _ => .probation

/-- Evaluate a link (R61). In HALTED nothing moves (R75). -/
def evaluateLink (k : Nat) (cause : LinkCause) (s : State) : State :=
  if s.cmd.run == .halted then s
  else
    let l := linkOf s k
    match l.health, fit l with
    | .down, true =>
      let s := moveHealth k .probation cause s
      if (l.record.map LinkRec.probation).getD 0 = 0 then moveHealth k .up (followCause cause) s else s
    | .probation, false => moveHealth k .down cause s
    | .up, false => moveHealth k .down cause s
    | _, _ => s

/-- The LINK_CARRIER line of a link takes a level (R59). -/
def carrierChange (k : Nat) (high : Bool) (s : State) : State :=
  let l := linkOf s k
  if l.carrierLine = high then s
  else evaluateLink k .carrier (setLink k { l with carrierLine := high } s)

/-! ### Expiries -/

/-- The probation expiry of a link is due (R61). -/
def probationDue (s : State) (k : Nat) : Bool :=
  let l := linkOf s k
  s.cmd.run != .halted && l.health == .probation &&
    decide ((l.record.map LinkRec.probation).getD 0 ≤ elapsed s l.probationSince)

def probationExpiry (k : Nat) (s : State) : State := if probationDue s k then moveHealth k .up .probation s else s

/-- The completion timeout expiry of a link is due (R63). -/
def completionTimeoutDue (s : State) (k : Nat) : Bool :=
  let l := linkOf s k
  s.cmd.run != .halted && (l.health == .down || l.health == .probation || l.health == .up) &&
    (match l.oldest with
     | some t => decide ((l.record.map LinkRec.timeout).getD 0 ≤ elapsed s t)
     | none => false)

def completionTimeoutExpiry (k : Nat) (s : State) : State :=
  if completionTimeoutDue s k then moveHealth k .stalled .timeout s else s

/-- A time that was due is reached or passed; durations are below 2^31 ms (00_scope, The service clock). -/
def reached (s : State) (due : Time) : Bool := decide ((s.clock - due).toNat < 2147483648)

/-- The deferred swap expiry is due (R69). -/
def deferredSwapDue (s : State) : Bool :=
  s.cmd.run != .halted && (match s.sup.deferred with | some d => reached s d | none => false)

def deferredSwapExpiry (s : State) : State :=
  if deferredSwapDue s then selectorEval (noDeferred s) else s

/-! ### Posted entries and resets -/

/-- A completion has lowered a link's posted count: the exit from STALLED (R64), or a next oldest entry that is already
past the completion timeout (R63). -/
def linkCompleted (k : Nat) (s : State) : State :=
  let l := linkOf s k
  if l.health = .stalled ∧ l.posted = 0 then evaluateLink k .timeout (moveHealth k .down .timeout s)
  else completionTimeoutExpiry k s

/-- A link becomes DISABLED with its ring generation raised and nothing posted; `report` says whether a LINK_STATE report
is formed when it was DISABLED already (R65, R75). The selector is not evaluated here. -/
def disableLink (k : Nat) (s : State) : State :=
  let l := linkOf s k
  let s := setLink k { l with health := .disabled, gen := l.gen + 1, posted := 0, oldest := none } s
  if l.health = .disabled then s else linkStateReport k l.health .command s

/-- These links become DISABLED in one event; the selector is then evaluated (R75, assumption 20). -/
def disableLinks (ks : List Nat) (s : State) : State := selectorEval (ks.foldl (fun s k => disableLink k s) s)

/-- The links that are not yet DISABLED or UNCONFIGURED. -/
def linksInUse (s : State) : List Nat :=
  (List.range 4).filter fun k => (linkOf s k).health != .unconfigured && (linkOf s k).health != .disabled

/-- The links of STOP's step 9 (R75). -/
def disableAll (s : State) : State := disableLinks (linksInUse s) s

/-- LINK_ENABLE of a DISABLED link (R60). -/
def enableLink (k : Nat) (s : State) : State :=
  let l := linkOf s k
  let s := setLink k { l with gen := l.gen + 1, postPtr := 0, quality := 0, oldest := none } s
  evaluateLink k .command (moveHealth k .down .command s)

/-- LINK_RESET of a configured link (R65): the entries posted on it are released while it is already DISABLED, and a post
to it that waits for room is given up (assumption 12). -/
def resetLink (k : Nat) (s : State) : State :=
  let s := dropPosts (· == k) s
  let l := linkOf s k
  let s := releaseLink k (setLink k { l with health := .disabled, gen := l.gen + 1 } s)
  selectorEval (if l.health = .disabled then s else linkStateReport k l.health .command s)

/-- Some link, the active link, the eligible set or the effective mode moved, a link gained room, or an entry
joined a list: what starts a dispatch pass (R81). SET_SCHEDULE starts its own. -/
def passStarts (old s : State) : Bool :=
  (List.range 4).any (fun k => (linkOf old k).health != (linkOf s k).health || (!hasRoom old k && hasRoom s k)) ||
  old.sup.active != s.sup.active || old.sup.eligible != s.sup.eligible || old.sup.mode != s.sup.mode ||
  s.relay.waitList.any (fun e => !old.relay.waitList.contains e) ||
  s.relay.retryList.any (fun e => !old.relay.retryList.contains e)

end Sys2Proof.Machine
end

