-- ==== Sys2Proof/Machine/Settling.lean ====
section
/-! DEFINITION. The Settlement Table (10): admitted flags, accumulators, cuts and walks. -/

namespace Sys2Proof.Machine

/-- The state byte of a partner in reports (12, Encodings): 0 when not loaded. -/
def partnerCode : Option Partner → Nat
  | none => 0
  | some p => if p.enabled then 1 else 2

/-- Recompute one admitted flag; a change forms a PARTNER_GATE report with this cause, 1 ZONE or 2 LOAD (R170, R171). -/
def recomputeFlag (cause p : Nat) (s : State) : State :=
  let old := look s.settle.admitted p
  let new := flagFor s p
  if old = new then s
  else
    let s := { s with settle := { s.settle with admitted := put s.settle.admitted p new } }
    let r := look s.settle.partners p
    event kindPartnerGate cause 0
      [(8, 1, p), (9, 1, yesNo old), (10, 1, yesNo new), (11, 1, partnerCode r),
       (12, 1, ((r.map Partner.mask).getD 0).toNat), (13, 1, orNone s.settle.region), (14, 1, orNone s.pos.current)] s

/-- A publication of the current zone: the region in force takes its region, and all 64 flags are recomputed (R170). -/
def settlePublish (region : Nat) (s : State) : State :=
  (List.range 64).foldl (fun s p => recomputeFlag 1 p s) { s with settle := { s.settle with region := some region } }

/-- The number of a pair in the accumulator table and in the order of a walk: 8 × partner + region. -/
def pairOf (partner region : Nat) : Nat := 8 * partner + region

/-- One addition to an accumulator: each field saturates, and a field that cannot hold it sets the mark (R172). -/
def addAccum (pair charge up down events : Nat) (s : State) : State :=
  let a := look s.settle.accums pair
  let full := decide (max64 < a.charge + charge) || decide (max64 < a.bytesUp + up) ||
    decide (max64 < a.bytesDown + down) || decide (max32 < a.events + events)
  let a := { a with
    charge := satAdd max64 a.charge charge
    bytesUp := satAdd max64 a.bytesUp up
    bytesDown := satAdd max64 a.bytesDown down
    events := satAdd max32 a.events events
    saturated := a.saturated || full }
  { s with settle := { s.settle with accums := put s.settle.accums pair a } }

/-- An accumulator is nonzero (R173). -/
def nonzero (a : Accum) : Bool :=
  decide (0 < a.charge) || decide (0 < a.bytesUp) || decide (0 < a.bytesDown) || decide (0 < a.events) || a.saturated

/-- The first nonzero pair of the 512 at or after this one. -/
def nextPair (s : State) (i : Nat) : Option Nat :=
  (s.settle.accums.find? fun p => decide (i ≤ p.1) && decide (p.1 < 512) && nonzero p.2).map Prod.fst

/-- The SETTLEMENT record of a pair's cut (R175). -/
def settlementReport (w : Walk) (pair : Nat) (s : State) : Report :=
  let a := look s.settle.accums pair
  let p := look s.settle.partners (pair / 8)
  reportNow s kindSettlement (if w.stopCause then 2 else 1) (yesNo a.saturated + 2 * yesNo p.isNone)
    [(8, 1, pair / 8), (9, 1, pair % 8), (10, 2, s.settle.walkCount.toNat), (12, 4, a.events), (16, 8, a.charge),
     (24, 8, a.bytesUp), (32, 8, a.bytesDown), (40, 4, a.lastCut.toNat), (44, 1, partnerCode p)]

/-- The cut of a pair, within the event that places its record (R173). -/
def cutPair (w : Walk) (pair : Nat) (s : State) : State :=
  let a := look s.settle.accums pair
  let s := placeReport (settlementReport w pair s) s
  { s with settle := { s.settle with
      accums := put s.settle.accums pair
        { charge := 0, bytesUp := 0, bytesDown := 0, events := 0, saturated := false, lastCut := s.clock }
      walk := some { w with next := pair + 1, records := w.records + 1, charge := satAdd max64 w.charge a.charge } } }

/-- The end of a walk: idle, SETTLE completed or STOP's counts handed on (R174, R176). -/
def endWalk (w : Walk) (s : State) : State :=
  let s := { s with settle := { s.settle with walk := none } }
  if w.stopCause then
    { s with cmd := { s.cmd with counts := { s.cmd.counts with records := w.records, charge := w.charge } } }
  else complete .ok [(2, w.records), (8, w.charge)] [] s

/-- Go on with a walk: cut each nonzero pair while its record can be placed, wait for room otherwise, end after the last
pair (R173). -/
def runWalk : Nat → State → State
  | 0, s => s
  | n + 1, s =>
    match s.settle.walk with
    | none => s
    | some w =>
      match nextPair s w.next with
      | none => endWalk w s
      | some pair =>
        if canPlace s then runWalk n (cutPair w pair s)
        else { s with
          settle := { s.settle with walk := some { w with next := pair } }
          rep := { s.rep with waiters := s.rep.waiters ++ [.cut] } }

/-- Run a walk with room for all 512 pairs. -/
def goOnWalk (s : State) : State := runWalk 513 s

/-- Begin a walk (R174, R176). -/
def beginWalk (stopCause : Bool) (s : State) : State :=
  goOnWalk { s with settle := { s.settle with
    walk := some { stopCause := stopCause, next := 0, records := 0, charge := 0 }
    walkCount := s.settle.walkCount + 1 } }

end Sys2Proof.Machine
end

