-- ==== Sys2Proof/Machine/Positions.lean ====
section
/-! DEFINITION. The Position Unit (01): the navigation receiver, fixes, the zone tracker and what it publishes. -/

namespace Sys2Proof.Machine

/-! ### The receiver -/

/-- One byte through HUNT, SYNC and BODY (R1). -/
def rxByte (p : Rx × List Byte) (b : Byte) : Rx × List Byte :=
  match p.1 with
  | .hunt => if b = 165 then (.sync, []) else (.hunt, [])
  | .sync => if b = 195 then (.body, [b]) else if b = 165 then (.sync, []) else (.hunt, [])
  | .body => (.body, p.2 ++ [b])

/-- The discard count rises by one, up to 65,535 (R4). -/
def discard (s : State) : State := { s with pos := { s.pos with discards := min 65535 (s.pos.discards + 1) } }

def setRx (p : Rx × List Byte) (s : State) : State := { s with pos := { s.pos with rx := p.1, buf := p.2 } }

/-! ### Publishing a zone -/

/-- Causes of a ZONE report (12, Encodings). -/
inductive ZoneCause where | default | dwell | rezone | reload
  deriving DecidableEq, Repr

def zoneCauseCode : ZoneCause → Nat
  | .default => 1 | .dwell => 2 | .rezone => 3 | .reload => 4

/-- The ZONE report (R16). `prev` is the zone current before, `coords` the confirming fix. -/
def zoneReport (z : Zone) (cause : ZoneCause) (prev : Option Nat) (coords : Option (Int × Int)) (s : State) : State :=
  let entry (i : Nat) : Nat := z.prefs.getD i 0
  event kindZone (zoneCauseCode cause) (yesNo coords.isNone)
    [(8, 1, orNone s.pos.current), (9, 1, orNone prev), (10, 1, yesNo z.enabled), (11, 1, coverCode z.cover),
     (12, 1, z.region), (13, 1, modeCode z.mode), (14, 1, z.prefs.length), (16, 1, entry 0), (17, 1, entry 1),
     (18, 1, entry 2), (19, 1, entry 3), (20, 4, signed32 ((coords.map Prod.fst).getD 0)),
     (24, 4, signed32 ((coords.map Prod.snd).getD 0))] s

/-- Publish the current zone (R15): the ZONE report, then the readers in the order of R15's table (assumption 13). -/
def publishZone (cause : ZoneCause) (prev : Option Nat) (coords : Option (Int × Int)) (s : State) : State :=
  match published s with
  | none => s
  | some z => settlePublish z.region (selectorEval (covAttr z.cover (zoneReport z cause prev coords s)))

/-- A zone becomes current: the pending zone becomes none, and the zone is published (R9, R12, R13). -/
def becomeCurrent (z : Nat) (cause : ZoneCause) (coords : Option (Int × Int)) (s : State) : State :=
  let prev := s.pos.current
  publishZone cause prev coords { s with pos := { s.pos with current := some z, pendingZone := none } }

/-! ### Zone evaluation -/

/-- The box contains the position (R11). -/
def inBox (b : Box) (lat lon : Int) : Bool :=
  decide (b.latMin ≤ lat) && decide (lat ≤ b.latMax) && decide (b.lonMin ≤ lon) && decide (lon ≤ b.lonMax)

/-- Zone `i` from 1 to 31 is loaded, enabled, and its box contains the position. -/
def matchesBox (s : State) (lat lon : Int) (i : Nat) : Bool :=
  match look s.pos.zones i with
  | some z => z.enabled && (match z.box with | some b => inBox b lat lon | none => false)
  | none => false

def priorityOf (s : State) (i : Nat) : Nat := ((look s.pos.zones i).map Zone.priority).getD 0

/-- The better of the best so far and zone `i`: higher priority, then lower index (R11). -/
def better (s : State) (best : Option Nat) (i : Nat) : Option Nat :=
  match best with
  | none => some i
  | some j => if priorityOf s j < priorityOf s i then some i else some j

/-- Zone 0 is loaded with enabled yes. -/
def zoneZeroReady (s : State) : Bool := ((look s.pos.zones 0).map Zone.enabled).getD false

/-- The candidate for a fix (R11). -/
def candidate (s : State) (lat lon : Int) : Option Nat :=
  match ((List.range' 1 31).filter (matchesBox s lat lon)).foldl (better s) none with
  | some i => some i
  | none => if zoneZeroReady s then some 0 else none

/-- Steps 2 and 3 of R12 for a candidate that is not the current zone. -/
def evaluatePending (c : Nat) (lat lon : Int) (s : State) : State :=
  let s := if s.pos.pendingZone = some c then s
    else { s with pos := { s.pos with pendingZone := some c, pendingSince := s.clock } }
  if ((look s.pos.zones c).map Zone.dwell).getD 0 ≤ elapsed s s.pos.pendingSince then
    becomeCurrent c .dwell (some (lat, lon)) s
  else s

/-- The zone tracker evaluates a usable fix (R12, R13). -/
def evaluateZone (lat lon : Int) (s : State) : State :=
  match s.pos.current, candidate s lat lon with
  | none, _ => s
  | some _, none => { s with pos := { s.pos with pendingZone := none } }
  | some cur, some c =>
    if s.pos.rezone then
      becomeCurrent c .rezone (some (lat, lon)) { s with pos := { s.pos with rezone := false } }
    else if c = cur then { s with pos := { s.pos with pendingZone := none } }
    else evaluatePending c lat lon s

/-! ### Fixes -/

/-- Sub-kinds of a POSITION report (12, Encodings). -/
inductive PosCause where | acquired | lost | regained
  deriving DecidableEq, Repr

def posCauseCode : PosCause → Nat
  | .acquired => 1 | .lost => 2 | .regained => 3

/-- The POSITION report (R17). -/
def positionReport (cause : PosCause) (s : State) : State :=
  let f := s.pos.fix.getD default
  event kindPosition (posCauseCode cause) 0
    ([(8, 1, posCode s.pos.st), (9, 1, f.quality), (10, 1, sourceCode f.source), (12, 2, s.pos.discards),
      (16, 4, signed32 f.lat), (20, 4, signed32 f.lon), (24, 4, f.time.toNat)] ++
     (if cause = .lost then [(28, 4, s.pos.lostSince.toNat)] else [])) s

/-- The position state moves to VALID on a usable fix (R5). A fix that ends LOST makes the opening test (R23). -/
def positionValid (s : State) : State :=
  let old := s.pos.st
  let s := { s with pos := { s.pos with st := .valid } }
  match old with
  | .noFix => positionReport .acquired s
  | .valid => s
  | .lost => openingTest (positionReport .regained s)

/-- The latitude and longitude lie in their ranges (R4). -/
def inRange (lat lon : Int) : Bool :=
  decide (-9000000 ≤ lat) && decide (lat ≤ 9000000) && decide (-18000000 ≤ lon) && decide (lon ≤ 18000000)

/-- A fix is usable (R4). -/
def usableFix (s : State) (quality : Nat) (lat lon : Int) : Bool :=
  decide (s.pos.minQuality ≤ quality) && inRange lat lon

/-- A usable fix, in the order of R4. -/
def takeFix (quality : Nat) (lat lon : Int) (source : FixSource) (s : State) : State :=
  let s := positionValid { s with pos := { s.pos with
    fix := some { quality := quality, lat := lat, lon := lon, source := source, time := s.clock } } }
  let s := { s with pos := { s.pos with discards := 0 } }
  let s := if source = .line then { s with pos := { s.pos with lineSeen := true, lineTime := s.clock } } else s
  evaluateZone lat lon s

/-- Judge a complete frame of 13 buffered bytes, whose first is the second sync byte (R3). -/
def judgeFrame (buf : List Byte) (s : State) : State :=
  if (((buf.drop 1).take 10).map BitVec.toNat).sum % 65536 ≠ field buf 11 2 then
    setRx (buf.foldl rxByte (.hunt, [])) (discard s)
  else
    let s := setRx (.hunt, []) s
    if field buf 1 1 ≠ 1 then discard s
    else
      let lat := (BitVec.ofNat 32 (field buf 3 4)).toInt
      let lon := (BitVec.ofNat 32 (field buf 7 4)).toInt
      if usableFix s (field buf 2 1) lat lon then takeFix (field buf 2 1) lat lon .line s else discard s

/-- A byte received without framing error (R1). -/
def navByte (b : Byte) (s : State) : State :=
  let p := rxByte (s.pos.rx, s.pos.buf) b
  if p.1 = .body ∧ p.2.length = 13 then judgeFrame p.2 s else setRx p s

/-- A byte received with a framing error (R2). -/
def navFramingError (s : State) : State :=
  match s.pos.rx with
  | .hunt => s
  | .sync => setRx (.hunt, []) s
  | .body => discard (setRx (.hunt, []) s)

/-- The fix loss expiry is due (R5). -/
def fixLossDue (s : State) : Bool :=
  s.pos.st == .valid && (match s.pos.fix with | some f => decide (s.pos.fixLoss ≤ elapsed s f.time) | none => false)

/-- The fix loss expiry (R5, R14, R22). The POSITION report comes before what a lost grace of 0 brings within the same event
(DESIGN CHOICE, assumption 32). -/
def fixLossExpiry (s : State) : State :=
  if fixLossDue s then
    covPositionLost (positionReport .lost
      { s with pos := { s.pos with st := .lost, lostSince := s.clock, pendingZone := none } })
  else s

/-- The navigation line is active (R7). -/
def lineActive (s : State) : Bool := s.pos.lineSeen && decide (elapsed s s.pos.lineTime < s.pos.fixLoss)

/-! ### Loading a zone -/

/-- The preference list that LOAD_ZONE stores: its first entries, as many as the count says. -/
def prefsOf (p : LoadZoneParams) : List Nat := (p.prefs.toList.map BitVec.toNat).take p.prefCount.toNat

/-- The four bounds lie in their ranges and no minimum is above its maximum (R8). -/
def boundsOk (p : LoadZoneParams) : Bool :=
  inRange p.latMin.toInt p.lonMin.toInt && inRange p.latMax.toInt p.lonMax.toInt &&
    decide (p.latMin.toInt ≤ p.latMax.toInt) && decide (p.lonMin.toInt ≤ p.lonMax.toInt)

/-- The record that LOAD_ZONE loads, where its parameters pass every check (R8). -/
def zoneOf (p : LoadZoneParams) : Option Zone :=
  match yesNoOf p.enabled.toNat, coverOf p.cover.toNat, modeOf p.mode.toNat with
  | some en, some cover, some mode =>
    let prefs := prefsOf p
    if p.index.toNat ≤ 31 ∧ p.region.toNat ≤ 7 ∧ 1 ≤ p.prefCount.toNat ∧ p.prefCount.toNat ≤ 4 ∧
        prefs.all (· ≤ 3) ∧ prefs.Nodup ∧ (p.index.toNat = 0 ∨ boundsOk p) then
      some
        { enabled := en
          box := if p.index.toNat = 0 then none else
            some { latMin := p.latMin.toInt, latMax := p.latMax.toInt, lonMin := p.lonMin.toInt,
                   lonMax := p.lonMax.toInt }
          priority := if p.index.toNat = 0 then 0 else p.priority.toNat
          cover := cover, region := p.region.toNat, mode := mode, prefs := prefs
          dwell := min 600000 p.dwell.toNat }
    else none
  | _, _, _ => none

/-- A load of record `i` that passed its checks, with its tracker effects (R9, R10). -/
def loadZone (i : Nat) (z : Zone) (s : State) : State :=
  let s := { s with pos := { s.pos with zones := put s.pos.zones i (some z) } }
  match s.pos.current with
  | none => if i = 0 ∧ z.enabled then becomeCurrent 0 .default none s else s
  | some cur =>
    if i = cur then
      publishZone .reload (some cur) none
        { s with pos := { s.pos with pendingZone := none, rezone := !z.enabled } }
    else if s.pos.pendingZone = some i ∧ !z.enabled then { s with pos := { s.pos with pendingZone := none } }
    else s

end Sys2Proof.Machine
end

