-- ==== Sys2Proof/Machine/Cache.lean ====
section
/-! DEFINITION. The Account Cache (09): requests, the per-line order of requesters, replacement, fills, write-backs and
the answers given to passing reads. What a granted requester does stands with its own block. -/

namespace Sys2Proof.Machine

def lineOf (s : State) (i : Nat) : Line := look s.cache.lines i

def setLine (i : Nat) (l : Line) (s : State) : State :=
  { s with cache := { s.cache with lines := put s.cache.lines i l } }

/-- The line that holds or is filling an account's record (R153). -/
def findLine (s : State) (a : Nat) : Option Nat :=
  (s.cache.lines.find? fun p => p.2.account == some a).map Prod.fst

/-- The line holds a record that can be granted. -/
def holdsRecord (l : Line) : Bool := l.st == .clean || l.st == .dirty || l.st == .writing

/-- The line can be granted at once to a requester that presents itself (R153, first row). -/
def grantableNow (l : Line) : Bool := holdsRecord l && l.waiting.isEmpty

/-- A waiting requester of the line can be granted (R154). -/
def grantDue (l : Line) : Bool := holdsRecord l && !l.waiting.isEmpty

/-- The address of an account's record (R159). -/
def recordAddr (s : State) (a : Nat) : Nat := s.cfg.acctBase + 64 * a

/-- Begin the write-back of a DIRTY line; on any other line the call begins nothing (R160). -/
def beginWriteBack (i : Nat) (s : State) : State :=
  let l := lineOf s i
  match l.st, l.account with
  | .dirty, some a =>
    placeWrite (fullWrite .accountCache (recordAddr s a) (bytesOfRec l.contents) (.lineBack i))
      (setLine i { l with st := .writing, redirty := false } s)
  | _, _ => s

/-- Move a line to the most recently used end (R156). -/
def touchLine (i : Nat) (s : State) : State :=
  { s with cache := { s.cache with lru := s.cache.lru.filter (· != i) ++ [i] } }

/-! ### Replacement -/

/-- The victim of R157: the least recently used line that is INVALID, or CLEAN with no waiting requester. -/
def victim (s : State) : Option Nat :=
  s.cache.lru.find? fun i =>
    let l := lineOf s i
    l.st == .invalid || (l.st == .clean && l.waiting.isEmpty)

/-- Give a victim to a pending miss and issue its fill (R157, R159). -/
def assignVictim (i : Nat) (m : Miss) (s : State) : State :=
  issueRead .accountCache (recordAddr s m.account) 4 (.fill i)
    (touchLine i (setLine i
      { (default : Line) with st := .filling, account := some m.account, waiting := m.requesters } s))

/-- The least recently used DIRTY line whose eviction has not begun (R158). -/
def evictable (s : State) : Option Nat :=
  s.cache.lru.find? fun i => (lineOf s i).st == .dirty && !(lineOf s i).evictMark

/-- The first pending miss for which no eviction is under way has this one. -/
def claimEviction (e : Option Nat) : List Miss → List Miss
  | [] => []
  | m :: rest => if m.evicting.isNone then { m with evicting := e } :: rest else m :: claimEviction e rest

/-- Begin `n` evictions, one for each pending miss that has none under way, while DIRTY lines remain (R158). -/
def beginEvictions : Nat → State → State
  | 0, s => s
  | n + 1, s =>
    if s.cache.misses.all (fun m => m.evicting.isSome) then s
    else match evictable s with
      | none => s
      | some i =>
        let s := beginWriteBack i { s with cache := { s.cache with misses := claimEviction (some i) s.cache.misses } }
        beginEvictions n (setLine i { lineOf s i with evictMark := true } s)

/-- The eviction write-back of line i has ended: the pending miss it was begun for has none under way (R158). -/
def endEviction (i : Nat) (s : State) : State :=
  { s with cache := { s.cache with misses := s.cache.misses.map fun m =>
      { m with evicting := if m.evicting == some i then none else m.evicting } } }

/-- Serve the pending misses in order while victims remain; then each miss that still waits has one eviction begun for
it (R157, R158). An eviction under way for a miss that is served stands for the first miss behind it that has lost its own
(DEDUCED, assumption 30). -/
def seekVictims : Nat → State → State
  | 0, s => s
  | n + 1, s =>
    match s.cache.misses with
    | [] => s
    | m :: rest =>
      match victim s with
      | some i =>
        seekVictims n (assignVictim i m { s with cache := { s.cache with misses := claimEviction m.evicting rest } })
      | none => beginEvictions s.cache.misses.length s

/-- Seek victims for all pending misses; in HALTED no fill and no write-back begins (R167). -/
def serveMisses (s : State) : State :=
  if s.cmd.run == .halted then s else seekVictims (s.cache.misses.length + 1) s

/-! ### Requests -/

/-- The Rating Engine or the Account Manager presents itself for an account's line: it joins the line's waiting
requesters, or a pending miss (R153). On a line that is free its grant is at once: within the same event where the event
is itself a grant (`serve`), and in the step LINE_GRANT, which is then due, where it is not (assumption 8). -/
def requestLine (r : Requester) (a : Nat) (s : State) : State :=
  match findLine s a with
  | some i => setLine i { lineOf s i with waiting := (lineOf s i).waiting ++ [r] } s
  | none =>
    if s.cache.misses.any (fun m => m.account == a) then
      { s with cache := { s.cache with misses := s.cache.misses.map fun m =>
          if m.account == a then { m with requesters := m.requesters ++ [r] } else m } }
    else
      serveMisses { s with cache := { s.cache with
        misses := s.cache.misses ++ [{ account := a, requesters := [r], evicting := none }] } }

/-- Apply a change to every listed line. -/
def mapLines (f : Line → Line) (s : State) : State :=
  { s with cache := { s.cache with lines :=
      (s.cache.lines.map Prod.fst).foldl (fun t i => upd t i f) s.cache.lines } }

/-- Withdraw a requester from every waiting list and pending miss; a miss that no one waits for is removed (R154, R165). -/
def withdraw (r : Requester) (s : State) : State :=
  let s := mapLines (fun l => { l with waiting := l.waiting.filter (· != r) }) s
  let left := s.cache.misses.map fun m => { m with requesters := m.requesters.filter (· != r) }
  { s with cache := { s.cache with misses := left.filter fun m => !m.requesters.isEmpty } }

/-- A holder changes the record of the line it was granted (R155). -/
def changeLine (i : Nat) (r : AcctRec) (s : State) : State :=
  let l := lineOf s i
  if l.contents = r then s
  else
    match l.st with
    | .clean => setLine i { l with contents := r, st := .dirty, dirtySince := s.clock } s
    | .writing =>
      setLine i { l with contents := r, redirty := true,
                         dirtySince := if l.redirty then l.dirtySince else s.clock } s
    | _ => setLine i { l with contents := r } s

/-! ### Passing reads -/

/-- Record the answer for one account of the head read (R42). -/
def answerRead (a : Nat) (ans : Answer) (s : State) : State :=
  match s.path.head with
  | none => s
  | some h =>
    { s with path := { s.path with head := some { h with recs := h.recs.map fun q =>
        if q.account == a && q.answer == .waiting then { q with answer := ans } else q } } }

/-- A passing read is granted a line (R162, and R167 for HALTED). -/
def readGrant (i : Nat) (s : State) : State :=
  let l := lineOf s i
  let a := l.account.getD 0
  match l.st with
  | .dirty =>
    let s := answerRead a (.line (bytesOfRec l.contents)) s
    if s.cmd.run == .halted then s else beginWriteBack i s
  | .writing => answerRead a (.line (bytesOfRec l.contents)) s
  | _ => answerRead a .memory s

/-- Present one record of the head read to the cache (R153, passing read column). -/
def presentRead (a : Nat) (s : State) : State :=
  match findLine s a with
  | none => answerRead a .memory s
  | some i =>
    if grantableNow (lineOf s i) then readGrant i s
    else setLine i { lineOf s i with waiting := (lineOf s i).waiting ++ [.read] } s

/-! ### Write-back completion, age, invalidation -/

/-- The state of a line after its write-back has completed (R160). -/
def afterWriteBack (l : Line) : Line :=
  { l with st := if l.redirty then .dirty else .clean, redirty := false, evictMark := false, flushMark := false }

/-- The age expiry of a line is due (R161). -/
def ageDue (s : State) (i : Nat) : Bool :=
  let l := lineOf s i
  (s.cmd.run == .starting || s.cmd.run == .running || s.cmd.run == .stopping) && l.st == .dirty &&
    decide (s.cfg.flushAge ≤ elapsed s l.dirtySince)

def ageExpiry (i : Nat) (s : State) : State := if ageDue s i then beginWriteBack i s else s

/-- Answer from memory the passing reads that wait at any line. -/
def answerWaitingReads (s : State) : State :=
  (s.cache.lines.filter fun p => p.2.waiting.contains .read).foldl
    (fun s p => answerRead (p.2.account.getD 0) .memory s) s

/-- Every line INVALID and the LRU order reset to line order (R166 step 3, R167); a read that still waits at a line is
answered from memory. -/
def invalidateAll (s : State) : State :=
  let s := answerWaitingReads s
  { s with cache := { s.cache with lines := [], lru := List.range 64 } }

/-- Lines in some state. -/
def countLines (s : State) (f : Line → Bool) : Nat := (s.cache.lines.filter fun p => f p.2).length

/-- Begin the write-back of every DIRTY line, by rising line number (R164, R166; DESIGN CHOICE, assumption 32). -/
def writeBackAll (s : State) : State :=
  (List.range 64).foldl (fun s i => beginWriteBack i s) s

end Sys2Proof.Machine
end

