-- ==== Sys2Proof/Machine/Rating.lean ====
section
/-! DEFINITION. The Rating Engine (07): the tariff table, the arithmetic of one rating and of the close round-up, and what
a rating does within its grant. -/

namespace Sys2Proof.Machine

/-! ### Tariffs -/

/-- The number of a tariff entry: 3 × region + class − 1. -/
def tariffKey (region cls : Nat) : Nat := 3 * region + (cls - 1)

/-- A tariff entry of free values, each within the range the manual gives the field (assumption 2). -/
def freeTariff (entry : Nat) : Tariff :=
  { block := clamp 1 16777216 (Config.unstatedTariff entry 0)
    upPrice := min 1000000 (Config.unstatedTariff entry 1)
    downPrice := min 1000000 (Config.unstatedTariff entry 2)
    mults := (List.range 4).map fun i => min 1023 (Config.unstatedTariff entry (3 + i)) }

/-- The class is ROAMER, PACK or CREW. -/
def knownClass (cls : Nat) : Bool := cls == clsRoamer || cls == clsPack || cls == clsCrew

/-- The entry for a region and an account class (R113). Where none is loaded, or the class or the region is none, its
values are free. -/
def tariffFor (s : State) (region : Option Nat) (cls : Nat) : Tariff :=
  match region with
  | none => freeTariff 1000
  | some g =>
    if knownClass cls then (look s.rate.tariffs (tariffKey g cls)).getD (freeTariff (tariffKey g cls))
    else freeTariff (100 + cls)

/-- The values LOAD_TARIFF adopts (R114). -/
def adoptedTariff (p : LoadTariffParams) : Tariff :=
  { block := clamp 1 16777216 p.block.toNat
    upPrice := min 1000000 p.upPrice.toNat
    downPrice := min 1000000 p.downPrice.toNat
    mults := p.mults.toList.map fun m => min 1023 m.toNat }

/-- Load an entry; the loaded count rises at its first load (R114). -/
def loadTariff (region cls : Nat) (t : Tariff) (s : State) : State :=
  { s with rate := { s.rate with
      tariffs := put s.rate.tariffs (tariffKey region cls) (some t)
      loaded := s.rate.loaded + (if (look s.rate.tariffs (tariffKey region cls)).isSome then 0 else 1) } }

/-! ### Arithmetic -/

/-- The credit state of a record's class, grant, used and low threshold (R121). -/
def creditOf (cls grant used low : Nat) : Nat :=
  if cls = clsRoamer ∨ cls = clsPack then
    if grant ≤ used then creditExhausted else if grant - used ≤ low then creditLow else creditNormal
  else creditNone

/-- What one rating works out: the new record, the block count, the charge before saturation, and the charge. -/
structure Rated where
  record : AcctRec
  blocks : Nat
  full : Nat
  charge : Nat
  deriving DecidableEq, Repr

/-- The carry for the event's direction. -/
def carryOf (d : Direction) (r : AcctRec) : Nat := match d with | .uplink => r.carryUp | .downlink => r.carryDown

def setCarry (d : Direction) (v : Nat) (r : AcctRec) : AcctRec :=
  match d with | .uplink => { r with carryUp := v } | .downlink => { r with carryDown := v }

/-- The event's bytes join the byte count of its direction (R120). -/
def addBytes (d : Direction) (n : Nat) (r : AcctRec) : AcctRec :=
  match d with
  | .uplink => { r with bytesUp := satAdd max48 r.bytesUp n }
  | .downlink => { r with bytesDown := satAdd max48 r.bytesDown n }

def priceOf (d : Direction) (t : Tariff) : Nat := match d with | .uplink => t.upPrice | .downlink => t.downPrice

/-- The arithmetic of one rating up to the totals (R118 to R120). -/
def rate (t : Tariff) (r : AcctRec) (e : UsageEvent) : Rated :=
  let sum := carryOf e.dir r + e.bytes
  let blocks := sum / t.block
  let raw := blocks * priceOf e.dir t * t.mults.getD (classCode e.cls) 0 + r.residue
  let full := if blocks = 0 then 0 else raw / 256
  let charge := min max32 full
  let r := addBytes e.dir e.bytes (setCarry e.dir (sum - blocks * t.block) r)
  { record := { r with
      residue := if blocks = 0 then r.residue else raw % 256
      marks := if max32 < full then setClamped r.marks else r.marks
      used := satAdd max48 r.used charge
      total := satAdd max48 r.total charge
      lastRegion := if blocks = 0 then r.lastRegion else e.region
      lastClass := if blocks = 0 then r.lastClass else classCode e.cls }
    blocks := blocks
    full := full
    charge := charge }

/-- A class under credit control (R133). -/
def creditControlled (cls : Nat) : Bool := cls == clsRoamer || cls == clsPack

/-- The CREDIT report a rating that leaves the credit state `after` forms: its sub-kind (R122). -/
def creditReport (before after : Nat) (reported : Bool) : Option Nat :=
  if after = creditExhausted ∧ before ≠ creditExhausted then some 2
  else if after = creditLow ∧ reported = false then some 1
  else none

/-- The record after a rating's credit step: the credit state, and the LOW-reported flag where LOW is reported (R121, R122). -/
def settleCredit (r : AcctRec) : AcctRec :=
  if creditControlled r.cls then
    let c := creditOf r.cls r.grant r.used r.low
    { r with
      credit := c
      marks := if creditReport r.credit c (lowReported r) = some 1 then setLowReported true r.marks else r.marks }
  else r

/-- One step of the round-up: one block for a carry that is not 0 (R126): the part charged and the residue. -/
def roundPart (carry price mult residue : Nat) : Nat × Nat :=
  if carry = 0 then (0, residue) else ((price * mult + residue) / 256, (price * mult + residue) % 256)

/-- The multiplier of a round-up: that of the last charged link class, or PORT_FIXED (R126). -/
def roundMult (t : Tariff) (lastClass : Nat) : Nat := t.mults.getD (if lastClass < 4 then lastClass else 3) 0

/-- The close round-up (R126, R127): the record after it and the closing charge. -/
def roundUp (t : Tariff) (r : AcctRec) : AcctRec × Nat :=
  let m := roundMult t r.lastClass
  let a := roundPart r.carryUp t.upPrice m r.residue
  let b := roundPart r.carryDown t.downPrice m a.2
  let charge := a.1 + b.1 + (if 0 < b.2 then 1 else 0)
  let used := satAdd max48 r.used charge
  ({ r with
      carryUp := 0, carryDown := 0, residue := 0
      used := used
      total := satAdd max48 r.total charge
      credit := if creditControlled r.cls then creditOf r.cls r.grant used r.low else r.credit }, charge)

/-! ### One rating within its grant -/

/-- The event is stale (R117). A record whose state is none of the four is taken as FREE (assumption 18). -/
def stale (r : AcctRec) (e : UsageEvent) : Bool :=
  !(r.st == acctOpen || r.st == acctSuspended || r.st == acctClosing) || r.incarnation != e.incarnation

/-- The fields that the two usage faults share (12, FAULT forms). -/
def usageFields (r : AcctRec) (e : UsageEvent) : List (Nat × Nat × Nat) :=
  [(8, 2, e.account), (10, 1, e.incarnation), (11, 1, r.st), (12, 1, r.incarnation), (13, 1, directionCode e.dir),
   (14, 1, classCode e.cls), (15, 1, e.region), (16, 2, e.bytes)]

/-- The gate map entry of account `a` changes. -/
def setGate (a : Nat) (e : GateEntry) (s : State) : State :=
  { s with gate := { s.gate with map := put s.gate.map a e } }

/-- The gate of account `a` is written, its partner and incarnation kept (R142). -/
def writeGate (a : Nat) (opened : Bool) (s : State) : State := setGate a { look s.gate.map a with opened := opened } s

/-- A change of credit state is handed to the Account Manager (R143). -/
def creditToGate (before after : AcctRec) (a : Nat) (s : State) : State :=
  if before.credit ≠ after.credit ∧ after.credit = creditExhausted ∧ after.st = acctOpen then writeGate a false s else s

/-- The settlement addition of a rating (R123). -/
def settleRating (r : AcctRec) (e : UsageEvent) (charge : Nat) (s : State) : State :=
  if r.cls = clsRoamer then
    match e.dir with
    | .uplink => addAccum (pairOf r.partner e.region) charge e.bytes 0 1 s
    | .downlink => addAccum (pairOf r.partner e.region) charge 0 e.bytes 1 s
  else s

/-- The CREDIT report of a rating (R122). -/
def offerCredit (before after : AcctRec) (a : Nat) (s : State) : State :=
  match creditReport before.credit after.credit (lowReported before) with
  | some sub =>
    event kindCredit sub 0
      [(8, 2, a), (10, 2, after.gen), (12, 1, after.incarnation), (13, 1, after.cls), (14, 1, before.credit),
       (15, 1, after.credit), (16, 6, after.grant), (22, 6, after.used), (28, 4, after.low)] s
  | none => s

/-- The rating of event `e` within the grant of line `i`: the effects in the order of R124, steps 1 to 4. -/
def rateGrant (i : Nat) (e : UsageEvent) (s : State) : State :=
  let r := (lineOf s i).contents
  if stale r e then event kindFault faultStaleUsage 0 (usageFields r e ++ [(32, 4, e.tag.toNat)]) s
  else
    let w := rate (tariffFor s (some e.region) r.cls) r e
    let r' := settleCredit w.record
    let s := changeLine i r' s
    let s := creditToGate r r' e.account s
    let s := settleRating r' e w.charge s
    let s := if max32 < w.full then
        event kindFault faultChargeClamped 0 (usageFields r e ++ [(20, 4, w.blocks), (24, 8, w.full)]) s
      else s
    if creditControlled r.cls then offerCredit r r' e.account s else s

/-- The Rating Engine begins work on the head event (R116). A waiting event for which a head has just left is dealt with
first (R109, R124). -/
def tryRate (s : State) : State :=
  if (s.cmd.run == .running || s.cmd.run == .stopping) && s.rate.requested.isNone && !waitingDue s then
    match s.gate.queue with
    | [] => s
    | e :: _ => requestLine .rating e.account { s with rate := { s.rate with requested := some e.account } }
  else s

end Sys2Proof.Machine
end

