-- ==== Sys2Proof/Machine/Accounts.lean ====
section
/-! DEFINITION. The Account Manager (08): the account commands within their grants, the close finisher, the START scan, the
placing of billing reports, and the granting of a line down its waiting requesters (R154). -/

namespace Sys2Proof.Machine

def setAcct (a : AccountManager) (s : State) : State := { s with acct := a }

/-! ### Grants of credit -/

/-- The ceiling of a class and partner (R139). -/
def ceilingOf (s : State) (cls partner : Nat) : Nat :=
  if cls = clsPack then s.cfg.packCeiling else ((look s.settle.partners partner).map Partner.ceiling).getD 0

/-- The grant installed for an amount (R139). -/
def clampGrant (s : State) (cls partner amount : Nat) : Nat := min max48 (min (ceilingOf s cls partner) amount)

/-- A record whose gate entry is OPEN (R142). -/
def recordOpens (r : AcctRec) : Bool := r.st == acctOpen && r.credit != creditExhausted

/-! ### The close finisher -/

/-- The usage queue, with its waiting event, holds an event of this account and incarnation (R110). -/
def hasEvent (s : State) (a inc : Nat) : Bool :=
  (s.gate.queue ++ (s.gate.waiting.map WaitingEvent.event).toList).any fun e =>
    e.account == a && e.incarnation == inc

/-- The relay entries that R92 counts for an account and incarnation. -/
def countedEntries (s : State) (a inc : Nat) : List (Nat × Entry) :=
  s.relay.table.filter fun p =>
    p.2.st != .free && p.2.metered && p.2.account == a && p.2.incarnation == inc && !p.2.detached

/-- A place is ready (R145). -/
def placeReady (s : State) (p : Place) : Bool :=
  !hasEvent s p.account p.incarnation && (countedEntries s p.account p.incarnation).isEmpty

/-- The finisher acts: RUNNING and STOPPING (R151). -/
def finisherActs (s : State) : Bool := s.cmd.run == .running || s.cmd.run == .stopping

/-- The ready place nearest the head of the list. -/
def firstReady (s : State) : Option Nat := s.acct.places.findIdx? (placeReady s)

/-- An idle finisher begins to finish the first ready place (R145, R147 step 1). -/
def judgeFinisher (s : State) : State :=
  if finisherActs s && s.acct.finisher == .idle then
    match firstReady s with
    | none => s
    | some i =>
      requestLine .finisher ((s.acct.places.getD i default).account)
        (setAcct { s.acct with finisher := .requesting, finishing := some i } s)
  else s

/-- The ACCOUNT_CLOSED report of a record after its round-up (R148, R194). A credit state or class byte that names no value gives
its low two bits (DESIGN CHOICE, assumption 38). -/
def closedReport (scan : Bool) (a : Nat) (p : Place) (r : AcctRec) (charge : Nat) (s : State) : Report :=
  reportNow s kindAccountClosed ((if scan then 2 else 1) + 16 * (currentRegion s).getD 0)
    (yesNo p.expired + 2 * yesNo (clampedSinceOpen r) + 4 * yesNo (s.cmd.run == .stopping) + 16 * (r.credit % 4))
    [(8, 2, a % 16384 + 16384 * ((r.cls - 1) % 4)), (10, 2, r.gen), (12, 1, r.incarnation),
     (13, 1, if r.cls = clsRoamer then r.partner else 255), (14, 1, min 255 p.detached), (15, 3, charge),
     (18, 6, r.grant), (24, 6, r.used), (30, 6, r.total), (36, 6, r.bytesUp), (42, 6, r.bytesDown),
     (48, 8, r.subscriber), (56, 4, r.openTime), (60, 4, p.closeTime.toNat)]

/-- The settlement addition of a round-up (R127). -/
def settleRoundUp (r : AcctRec) (charge : Nat) (s : State) : State :=
  match currentRegion s with
  | some g => if r.cls = clsRoamer then addAccum (pairOf r.partner g) charge 0 0 0 s else s
  | none => s

/-- R147 steps 2 to 4 on line `i`: round-up, settlement, the report, and the record FREE. -/
def finishRecord (scan : Bool) (a i : Nat) (p : Place) (s : State) : State × Report :=
  let r := (lineOf s i).contents
  let u := roundUp (tariffFor s (currentRegion s) r.cls) r
  let s := settleRoundUp r u.2 s
  (changeLine i { u.1 with st := acctFree } s, closedReport scan a p u.1 u.2 s)

/-- Offer a billing report: placed at once, or among the waiters (R185). -/
def offerBilling (b : Report → Billing) (r : Report) (s : State) : State :=
  if canPlace s then placeReport r s else { s with rep := { s.rep with waiters := s.rep.waiters ++ [b r] } }

/-- The finisher's whole work within its grant of line `i` (R147 steps 2 to 5). -/
def finisherWork (i : Nat) (s : State) : State :=
  match s.acct.finishing with
  | none => s
  | some n =>
    let p := s.acct.places.getD n default
    let f := finishRecord false p.account i p s
    let s := offerBilling .finish f.2 f.1
    setAcct { s.acct with finisher := .reporting } s

/-! ### Account commands within their grants -/

/-- OPEN_ACCOUNT refused within its grant: the record's state and incarnation as they stand (R135). -/
def refuseOpen (st : Status) (r : AcctRec) (s : State) : State :=
  complete st [(1, r.incarnation), (1, 0), (2, 0), (1, r.st), (8, 0)] [] s

/-- The record that OPEN_ACCOUNT writes (R136). -/
def openedRecord (p : OpenAccountParams) (r : AcctRec) (s : State) : AcctRec :=
  let cls := p.cls.toNat
  let partner := if cls = clsRoamer then p.partner.toNat else 255
  let grant := if cls = clsCrew then 0 else clampGrant s cls partner p.grant.toNat
  let low := if cls = clsCrew then 0 else p.threshold.toNat
  { st := acctOpen, cls := cls, credit := creditOf cls grant 0 low, incarnation := (r.incarnation + 1) % 256
    partner := partner, marks := 0, gen := 0, subscriber := p.subscriber.toNat, grant := grant, used := 0, low := low
    bytesUp := 0, bytesDown := 0, total := 0, carryUp := 0, carryDown := 0, residue := 0, cause := 0
    openTime := s.clock.toNat, lastRegion := 255, lastClass := 255 }

/-- The gate entry of an opened or scanned record (R142). -/
def gateOfRecord (r : AcctRec) : GateEntry :=
  { opened := recordOpens r, partner := if r.cls = clsRoamer then some r.partner else none,
    incarnation := r.incarnation }

/-- OPEN_ACCOUNT within its grant of line `i` (R135 steps 3 to 6, R136). -/
def openWork (p : OpenAccountParams) (i : Nat) (s : State) : State :=
  let r := (lineOf s i).contents
  let partner := look s.settle.partners p.partner.toNat
  if r.st ≠ acctFree then refuseOpen .badState r s
  else if admission s = false then refuseOpen .refusedCoverage r s
  else if p.cls.toNat = clsRoamer ∧ (partner.map Partner.enabled).getD false = false then refuseOpen .refusedPartner r s
  else if p.cls.toNat = clsRoamer ∧ look s.settle.admitted p.partner.toNat = false then refuseOpen .refusedRegion r s
  else
    let r' := openedRecord p r s
    complete .ok [(1, r'.incarnation), (1, r'.credit), (2, r'.gen), (1, r'.st), (8, r'.grant)] []
      (setGate p.account.toNat (gateOfRecord r') (changeLine i r' s))

/-- GRANT refused within its grant: what the record holds (R137). -/
def refuseGrant (st : Status) (r : AcctRec) (s : State) : State :=
  complete st [(2, r.gen), (1, r.credit), (1, 0), (8, r.grant), (8, r.used), (8, r.used)] [] s

/-- The record after a GRANT (R138 steps 2 to 6). -/
def grantedRecord (p : GrantParams) (r : AcctRec) (s : State) : AcctRec :=
  let grant := clampGrant s r.cls r.partner p.amount.toNat
  let used := r.used - r.grant
  { r with
    used := used, grant := grant, low := p.threshold.toNat, gen := (r.gen + 1) % 65536
    marks := setLowReported false r.marks, credit := creditOf r.cls grant used p.threshold.toNat }

/-- GRANT within its grant of line `i` (R137 steps 2 to 4, R138). -/
def grantWork (p : GrantParams) (i : Nat) (s : State) : State :=
  let r := (lineOf s i).contents
  if r.st ≠ acctOpen ∧ r.st ≠ acctSuspended then refuseGrant .notOpen r s
  else if r.cls = clsCrew then refuseGrant .badParam r s
  else if p.generation.toNat ≠ r.gen then refuseGrant .mismatch r s
  else
    let r' := grantedRecord p r s
    complete .ok [(2, r'.gen), (1, r'.credit), (1, r'.st), (8, r'.grant), (8, r'.used), (8, r.used)] []
      (writeGate p.account.toNat (recordOpens r') (changeLine i r' s))

/-- SUSPEND within its grant of line `i` (R140). -/
def suspendWork (a i : Nat) (s : State) : State :=
  let r := (lineOf s i).contents
  if r.st = acctOpen then
    complete .ok [(1, acctOpen), (1, acctSuspended), (1, r.credit)] []
      (writeGate a false (changeLine i { r with st := acctSuspended, cause := 1 } s))
  else
    complete (if r.st = acctSuspended then .ok else .notOpen) [(1, r.st), (1, r.st), (1, r.credit)] [] s

/-- RESUME within its grant of line `i` (R141). -/
def resumeWork (a i : Nat) (s : State) : State :=
  let r := (lineOf s i).contents
  if r.st = acctSuspended then
    let r' := { r with st := acctOpen, cause := 0 }
    complete .ok [(1, acctSuspended), (1, acctOpen), (1, r.credit)] []
      (writeGate a (recordOpens r') (changeLine i r' s))
  else complete (if r.st = acctOpen then .ok else .notOpen) [(1, r.st), (1, r.st), (1, r.credit)] [] s

/-- CLOSE_ACCOUNT within its grant of line `i`, its first phase (R144). -/
def closeWork (a i : Nat) (s : State) : State :=
  let r := (lineOf s i).contents
  let s := setAcct { s.acct with reserved := false } s
  if r.st = acctOpen ∨ r.st = acctSuspended then
    let s := writeGate a false (changeLine i { r with st := acctClosing } s)
    let s := setAcct { s.acct with places := s.acct.places ++
      [{ account := a, incarnation := r.incarnation, closeTime := s.clock, expired := false, detached := 0 }] } s
    judgeFinisher (complete .accepted [(1, r.st), (1, r.incarnation), (1, s.acct.places.length)] [] s)
  else complete .notOpen [(1, r.st), (1, r.incarnation), (1, s.acct.places.length)] [] s

/-- The account command in progress is granted line `i` (R134). -/
def commandWork (i : Nat) (s : State) : State :=
  let s := setAcct { s.acct with wait := none } s
  match s.cmd.job.bind Job.request with
  | some (.openAccount p) => openWork p i s
  | some (.grant p) => grantWork p i s
  | some (.suspend a) => suspendWork a.toNat i s
  | some (.resume a) => resumeWork a.toNat i s
  | some (.closeAccount a) => closeWork a.toNat i s
  | _ => s

/-- The account command in progress presents itself for its account's line: granted at once where the line is free
(R134, R153). -/
def requestCommandLine (a : Nat) (s : State) : State :=
  let s := setAcct { s.acct with wait := some (.line a) } s
  match findLine s a with
  | some i => if grantableNow (lineOf s i) then commandWork i (touchLine i s) else requestLine .command a s
  | none => requestLine .command a s

/-- A CLOSE_ACCOUNT takes a place where there is one, and waits for one otherwise (R144). -/
def closeTakesPlace (a : Nat) (s : State) : State :=
  if s.acct.places.length < 64 then requestCommandLine a (setAcct { s.acct with reserved := true } s)
  else setAcct { s.acct with wait := some (.place a) } s

/-- R147 step 6: the place is removed, a CLOSE_ACCOUNT that waits takes a place, and the list is judged again. -/
def finishDone (s : State) : State :=
  match s.acct.finishing with
  | none => s
  | some n =>
    let s := setAcct { s.acct with
      places := s.acct.places.eraseIdx n, finisher := .idle, finishing := none } s
    let s := { s with cmd := { s.cmd with counts := { s.cmd.counts with
      closes := s.cmd.counts.closes + (if s.cmd.stopStep = 6 then 1 else 0) } } }
    let s := match s.acct.wait with
      | some (.place a) => closeTakesPlace a s
      | _ => s
    judgeFinisher s

/-! ### The START scan -/

/-- A judgement of the scan: the field repaired with the value found, and the record to be written; or nothing to repair
(R149). The rows that free a record are the first three codes. Of a record whose state and class are both unnamed the state is
the field repaired (DESIGN CHOICE, assumption 36). -/
def scanRepair (r : AcctRec) : Option (Nat × Nat × AcctRec) :=
  if r.st = acctFree then none
  else if r.st ≠ acctOpen ∧ r.st ≠ acctSuspended ∧ r.st ≠ acctClosing then some (1, r.st, { r with st := acctFree })
  else if knownClass r.cls = false then some (2, r.cls, { r with st := acctFree })
  else if (r.cls = clsRoamer ∧ 63 < r.partner) ∨ (r.cls ≠ clsRoamer ∧ r.partner ≠ 255) then
    some (3, r.partner, { r with st := acctFree })
  else if r.st = acctClosing then none
  else if r.credit ≠ creditOf r.cls r.grant r.used r.low then
    some (4, r.credit, { r with credit := creditOf r.cls r.grant r.used r.low })
  else none

/-- The scan goes on after a record: the next record's line, or the end of the scan and entry to RUNNING (R149, R187). -/
def scanNext (s : State) : State :=
  match s.acct.scan with
  | none => s
  | some c =>
    if c.next + 1 < s.cfg.accounts then
      requestLine .scan (c.next + 1) (setAcct { s.acct with scan := some { c with next := c.next + 1 } } s)
    else
      let s := setAcct { s.acct with scan := none } s
      let s := { s with cmd := { s.cmd with run := .running } }
      let s := complete .ok [(2, c.scanned), (2, c.repaired), (2, c.closed)] [] s
      tryRate (tryTake (openingTest s))

/-- The scan judges the record of line `i` within its grant (R149). A CLOSING record counts as closed from its grant on, also
while its report waits for room (DEDUCED, assumption 34). -/
def scanWork (i : Nat) (s : State) : State :=
  match s.acct.scan with
  | none => s
  | some c =>
    let r := (lineOf s i).contents
    let c := { c with scanned := c.scanned + 1 }
    let fix := scanRepair r
    let c := if fix.isSome then { c with repaired := c.repaired + 1 } else c
    let s := match fix with
      | some (f, v, r') =>
        event kindFault faultRecordRepaired 0 [(8, 2, c.next), (10, 1, f), (11, 1, v)] (changeLine i r' s)
      | none => s
    let r := (lineOf s i).contents
    if r.st = acctClosing then
      let p : Place := { account := c.next, incarnation := r.incarnation, closeTime := s.clock, expired := false,
                         detached := 0 }
      let f := finishRecord true c.next i p s
      let s := setAcct { f.1.acct with scan := some { c with closed := c.closed + 1, reporting := !canPlace f.1 } } f.1
      offerBilling .scan f.2 s
    else
      let s := setAcct { s.acct with scan := some c } s
      if r.st = acctOpen ∨ r.st = acctSuspended then setGate c.next (gateOfRecord r) s else s

/-- The scan's CLOSING record has its report placed, and the scan goes on (R149). -/
def scanPlaced (s : State) : State :=
  match s.acct.scan with
  | none => s
  | some c => scanNext (setAcct { s.acct with scan := some { c with reporting := false } } s)

/-! ### Granting a line -/

/-- A rating ends: the head leaves the queue, the engine is IDLE, the finisher judges, and the next rating begins
(R124 step 6, R145, R116). The manual does not order the last two: the finisher presents itself first (DESIGN CHOICE,
assumption 32). -/
def endRating (s : State) : State :=
  tryRate (judgeFinisher
    { s with gate := { s.gate with queue := s.gate.queue.tail }, rate := { s.rate with requested := none } })

/-- What a requester does within its grant of line `i` (R154). -/
def grantWorkOf (r : Requester) (i : Nat) (s : State) : State :=
  match r with
  | .rating => match s.gate.queue with | e :: _ => rateGrant i e s | [] => s
  | .command => commandWork i s
  | .finisher => finisherWork i s
  | .scan => scanWork i s
  | .read => readGrant i s

/-- What follows once the line has been released and the requesters behind have been granted (R124, R147, R149). -/
def afterGrant (r : Requester) (s : State) : State :=
  match r with
  | .rating => endRating s
  | .finisher =>
    if s.acct.finisher == .reporting && s.rep.waiters.all (fun b => match b with | .finish _ => false | _ => true)
    then finishDone s else s
  | .scan =>
    match s.acct.scan with
    | some c => if c.reporting then s else scanNext s
    | none => s
  | .command => s
  | .read => s

/-- The lines whose waiting requesters are to be granted now, by rising line number: line `i`, which has just been released,
and those that were free in `old` (R153, R154). -/
def calledLines (i : Option Nat) (old s : State) : List Nat :=
  (s.cache.lines.map Prod.fst).filter fun j => grantDue (lineOf s j) && (some j == i || grantableNow (lineOf old j))

/-- Grant line `i` to its waiting requesters, in order, at most `n` in depth (R154). When the requesters behind have been
granted, what follows a grant is done, and whoever presented itself meanwhile for a free line is granted it at once (R153). -/
def serve : Nat → Nat → State → State
  | 0, _, s => s
  | n + 1, i, s =>
    let l := lineOf s i
    match l.waiting with
    | [] => s
    | r :: rest =>
      if holdsRecord l then
        let free := setLine i { l with waiting := rest } s
        let s := if r = .read then free else touchLine i free
        let s := afterGrant r (serve n i (grantWorkOf r i s))
        (calledLines (some i) free s).foldl (fun s j => serve n j s) s
      else s

/-- The depth of grants that one event can need: 128 ratings, 64 finishes, a command and the reads (R108, R144). -/
def grantDepth : Nat := 256

/-- Grant a line to all the requesters that wait for it, then serve the pending misses (R154, R157). -/
def grantLine (i : Nat) (s : State) : State := serveMisses (serve grantDepth i s)

/-- Grant at once the free lines for which requesters have presented themselves since `old` (R153, R154). -/
def grantCalled (old s : State) : State := (calledLines none old s).foldl (fun s j => grantLine j s) s

/-! ### Billing reports -/

/-- The pair a walk waits at is cut, and the walk goes on (R173). -/
def cutWaiting (s : State) : State :=
  match s.settle.walk with
  | none => s
  | some w => goOnWalk (cutPair w w.next s)

/-- The billing report at the head of the waiters is placed, and its block goes on (R185, R147, R149, R173). In HALTED the
finisher stays where it is (R151). -/
def placeWaiter (b : Billing) (s : State) : State :=
  match b with
  | .orphan r => placeReport r s
  | .finish r => if s.cmd.run = .halted then placeReport r s else finishDone (placeReport r s)
  | .scan r => scanPlaced (placeReport r s)
  | .cut => cutWaiting s

/-- Place billing reports while room lasts. -/
def placeWaitersLoop : Nat → State → State
  | 0, s => s
  | n + 1, s =>
    match s.rep.waiters with
    | [] => s
    | b :: rest =>
      if repRoom s then placeWaitersLoop n (placeWaiter b { s with rep := { s.rep with waiters := rest } }) else s

/-- Place the billing reports that wait, while room lasts (R185); a report ring holds at most 4,095. A block that goes on and
presents itself for a free line is granted it at once (R153). -/
def placeWaiters (s : State) : State := grantCalled s (placeWaitersLoop 4096 s)

/-! ### Close wait limit -/

/-- The close wait limit expiry of a place is due (R146). -/
def closeWaitDue (s : State) (n : Nat) : Bool :=
  match s.acct.places[n]? with
  | none => false
  | some p => finisherActs s && !p.expired && s.acct.finishing != some n &&
      decide (s.cfg.closeWait ≤ elapsed s p.closeTime)

/-- The close wait limit expiry of a place: the counted relay entries are detached (R146, R92). -/
def closeWaitExpiry (n : Nat) (s : State) : State :=
  if closeWaitDue s n then
    let p := s.acct.places.getD n default
    let on := countedEntries s p.account p.incarnation
    let s := on.foldl (fun s q => setEntry q.1 { q.2 with detached := true } s) s
    judgeFinisher (setAcct { s.acct with
      places := s.acct.places.set n { p with expired := true, detached := on.length } } s)
  else s

end Sys2Proof.Machine
end

