-- ==== Sys2Proof/Machine/Capture.lean ====
section
/-! DEFINITION. Gate and Capture (06) and the completions of the Uplink Relay (05, Completions): the two producers of
usage events, and what ends an event of the relay. -/

namespace Sys2Proof.Machine

/-- What an event that may have moved links, lists or entries ends with: a dispatch pass where R81 starts one, a take where
R78 lets one begin, and the finisher's judgement (R145). The manual does not order the pass's own writes and the take's read:
the pass comes first (DESIGN CHOICE, assumption 32). `old` is the state before the event. -/
def settleEvent (old s : State) : State :=
  judgeFinisher (tryTake (if passStarts old s then dispatchPass s else s))

/-! ### Usage events -/

/-- An event takes the tail of the usage queue; the Rating Engine begins if it is idle (R108, R116). -/
def enqueue (e : UsageEvent) (s : State) : State :=
  tryRate { s with gate := { s.gate with queue := s.gate.queue ++ [e] } }

/-- A usage event formed now (R107). The region is the published one; a region of none is written 255. -/
def formEvent (s : State) (dir : Direction) (a inc bytes : Nat) (cls : LinkClass) : UsageEvent :=
  { dir := dir, account := a, incarnation := inc, bytes := bytes, cls := cls
    region := orNone (currentRegion s), tag := s.clock }

/-- The class of link k's record. -/
def classOfLink (s : State) (k : Nat) : LinkClass := ((linkOf s k).record.map LinkRec.cls).getD .portFixed

/-- The link class of a source link (R105). -/
def sourceClass (s : State) (src : Nat) : LinkClass :=
  if src < 4 ∧ (linkOf s src).health ≠ .unconfigured then classOfLink s src else .portFixed

/-- A BAD_ACCOUNT report: region, initiator (255 from the Uplink Relay), slot, account value (12, FAULT forms). -/
def badAccount (region initiator slot a : Nat) (s : State) : State :=
  event kindFault faultBadAccount 0 [(8, 1, region), (9, 1, initiator), (10, 2, slot), (12, 2, a)] s

/-- The verdict of an owning block on a hand-off (R40). -/
inductive Verdict where | pass | discard | hold
  deriving DecidableEq, Repr

/-- Judge a radio downlink descriptor (R104). -/
def judgeDownlink (initiator slot : Nat) (d : List Byte) (s : State) : State × Verdict :=
  let a := descAccount d
  if a = shipAccount then (s, .pass)
  else if s.cfg.accounts ≤ a then (badAccount 5 initiator slot a s, .discard)
  else if gateDecision s a = false then (s, .discard)
  else if descLength d = 0 then (s, .pass)
  else
    let e := formEvent s .downlink a (look s.gate.map a).incarnation (descLength d) (sourceClass s (descByte13 d))
    if queueFull s then
      ({ s with gate := { s.gate with waiting := some { event := e, producer := .downlink } } }, .hold)
    else (enqueue e s, .pass)

/-! ### Completions -/

/-- An entry ends SENT: the link's count falls, the slot is written back, and the link takes its lower count
(R87 steps 1 and 2, R63, R64). What the lower count brings the link, a move of STALLED or a timeout of the next oldest with its
report, comes after the write-back (DESIGN CHOICE, assumption 32). -/
def entrySent (e k : Nat) (s : State) : State := linkCompleted k (endEntry false e .sent (some k) (uncount e s))

/-- A LATE_COMPLETION or SPURIOUS_COMPLETION report (R86). -/
def completionFault (kind flags k slot : Nat) (d : List Byte) (s : State) : State :=
  event kindFault kind flags
    [(8, 1, k), (10, 2, slot), (12, 2, descAccount d), (14, 2, descGen d), (16, 2, (linkOf s k).gen.toNat)] s

/-- The entry that a completion matches (R86). -/
def matched (s : State) (k slot tag : Nat) : Bool :=
  let e := entryOf s tag
  e.st == .posted && e.link == some k && e.linkSlot == slot

/-- A matched completion with status OK (R87, R88). -/
def completeOk (e k : Nat) (s : State) : State × Verdict :=
  let en := entryOf s e
  if en.metered then
    let u := formEvent s .uplink en.account en.incarnation en.length (classOfLink s k)
    if queueFull s then
      (setEntry e { en with completionHeld := true }
        { s with gate := { s.gate with waiting := some { event := u, producer := .uplink e } } }, .hold)
    else (entrySent e k (enqueue u s), .pass)
  else (entrySent e k s, .pass)

/-- A matched completion with another status (R89). -/
def completeFail (e k : Nat) (s : State) : State :=
  let s := uncount e s
  linkCompleted k (if s.cmd.run = .running then failEntry e s else endEntry false e .aborted (some k) s)

/-- A completion handed over for slot `slot` of link k's ring (R86). -/
def judgeCompletion (k slot : Nat) (d : List Byte) (s : State) : State × Verdict :=
  let l := linkOf s k
  let tag := descAccount d
  if l.health = .disabled ∨ descGen d ≠ l.gen.toNat then (completionFault faultLate 0 k slot d s, .pass)
  else if matched s k slot tag = false then (completionFault faultSpurious 1 k slot d s, .pass)
  else if descByte13 d = 1 then completeOk tag k s
  else (completeFail tag k s, .pass)

/-! ### Takes -/

/-- The entry that a take's descriptor fills (R79). -/
def takenEntry (t : Take) (d : List Byte) : Entry :=
  { (default : Entry) with
    slot := t.slot, buffer := descBuffer d, length := descLength d, account := descAccount d, takeTime := t.time }

/-- The entry joins the wait list (R79). -/
def joinWait (e : Nat) (en : Entry) (s : State) : State :=
  let s := setEntry e { en with st := .waiting } s
  { s with relay := { s.relay with waitList := s.relay.waitList ++ [e] } }

/-- Judge a take's descriptor (R79); outside RUNNING the take ends ABORTED (R97). The take in progress has ended. An entry
that ends here is never metered, and R92 does not count it while its write-back waits (DESIGN CHOICE, assumption 33). The
BAD_ACCOUNT report is placed before the write-back (DESIGN CHOICE, assumption 32). -/
def judgeTake (t : Take) (d : List Byte) (s : State) : State :=
  let en := takenEntry t d
  let a := en.account
  let ended (f : Final) (s : State) : State := endEntry false t.entry f none (setEntry t.entry { en with st := .ending } s)
  if s.cmd.run ≠ .running then ended .aborted s
  else if en.length = 0 then ended .rejected s
  else if a = shipAccount then joinWait t.entry en s
  else if s.cfg.accounts ≤ a then ended .rejected (badAccount 4 255 t.slot a s)
  else if gateDecision s a = false then ended .gated s
  else joinWait t.entry { en with metered := true, incarnation := (look s.gate.map a).incarnation } s

end Sys2Proof.Machine
end

