-- ==== Sys2Proof/Machine/Monitor.lean ====
section
/-! DEFINITION. The Path Monitor's upstream side (03): the classification of passing transactions, hand-offs to the owning
blocks, holds and their release, and the responses in port order. -/

namespace Sys2Proof.Machine

/-! ### The control block's fields (R41) -/

/-- A write to the control block hands the field's value to its owner: the commands of the Command Engine and the Report
Writer. -/
inductive ControlField where
  | cmdBase | cmdSize | cmdProducer | cmdConsumer | repBase | repSize | repProducer | repConsumer
  deriving DecidableEq, Repr

/-- Offset and size (12, Control block). -/
def fieldPlace : ControlField → Nat × Nat
  | .cmdBase => (0, 8) | .cmdSize => (8, 4) | .cmdProducer => (12, 4) | .cmdConsumer => (16, 4)
  | .repBase => (24, 8) | .repSize => (32, 4) | .repProducer => (36, 4) | .repConsumer => (40, 4)

/-- All fields, by address. -/
def allFields : List ControlField :=
  [.cmdBase, .cmdSize, .cmdProducer, .cmdConsumer, .repBase, .repSize, .repProducer, .repConsumer]

/-- A field that the part writes. -/
def partField (f : ControlField) : Bool := f == .cmdConsumer || f == .repProducer

/-- A base or size field. -/
def ringField (f : ControlField) : Bool := f == .cmdBase || f == .cmdSize || f == .repBase || f == .repSize

/-- BAD_INDEX (12, FAULT forms). -/
def badIndex (index v size : Nat) (s : State) : State :=
  event kindFault faultBadIndex 0 [(8, 1, index), (12, 4, v), (16, 4, size)] s

/-- A latch of a command ring field; it waits for a command in progress (R178). -/
def latchCommand (l : Latch) (s : State) : State :=
  if s.cmd.job.isSome then
    { s with cmd := { s.cmd with latches := s.cmd.latches ++ [l] } }
  else applyLatch l s

/-- A full write of the command producer index (R179, R180). -/
def commandProducer (v : Nat) (s : State) : State :=
  match cmdRing s with
  | some (_, n) =>
    if v < n then tryFetch { s with cmd := { s.cmd with view := some v, blocked := false } }
    else badIndex 1 v n s
  | none => badIndex 1 v (s.cmd.size.getD 0) s

/-- What follows a latch of the report ring after which the geometry is valid (R184). -/
def restartReports (s : State) : State :=
  match repRing s with
  | none => s
  | some _ =>
    let s := runReports { s with rep := { s.rep with
      producer := 0, written := 0
      pend := s.rep.pend ++ [{ record := none, wordAddr := producerAddr s, value := 0, recordIn := false }] } }
    issueRead .reportWriter (ctrlBase s + 32) 1 (.consumerIndex s.rep.accepted) s

def latchReportBase (v : Nat) (s : State) : State :=
  restartReports { s with rep := { s.rep with base := some v, view := none } }

def latchReportSize (v : Nat) (s : State) : State :=
  restartReports { s with rep := { s.rep with size := some v, view := none } }

/-- A consumer value is taken: accepted where the geometry is valid and the value is below the size (R184); an accepted
value may give room to the billing waiters (R185). -/
def reportConsumer (v : Nat) (s : State) : State :=
  match repRing s with
  | some (_, n) =>
    if v < n then placeWaiters { s with rep := { s.rep with view := some v, accepted := s.rep.accepted + 1 } }
    else badIndex 2 v n s
  | none => badIndex 2 v (s.rep.size.getD 0) s

/-- A field handed to its owner (R41). -/
def handField (f : ControlField) (v : Nat) (s : State) : State :=
  match f with
  | .cmdBase => latchCommand (.base v) s
  | .cmdSize => latchCommand (.size v) s
  | .cmdProducer => commandProducer v s
  | .repBase => latchReportBase v s
  | .repSize => latchReportSize v s
  | .repConsumer => reportConsumer v s
  | .cmdConsumer => s
  | .repProducer => s

/-! ### Byte ranges of a transaction -/

/-- The bytes of a transaction, as (address, length). -/
def rangeOf (t : Txn) : Nat × Nat := (t.addr, 16 * t.beats)

/-- Byte `a` is in the transaction and takes part in the R48 comparison: every byte of a read, the enabled bytes of a
write. -/
def activeAt (t : Txn) (a : Nat) : Bool :=
  decide (t.addr ≤ a) && decide (a < t.addr + 16 * t.beats) && (!t.write || t.enables.getD (a - t.addr) false)

/-- Byte `a` is written by an own write. -/
def ownByteAt (w : OwnWrite) (a : Nat) : Bool :=
  decide (w.addr ≤ a) && decide (a < w.addr + 16 * w.beats) && w.enables.getD (a - w.addr) false

/-- The own writes that are queued or wait to be reissued (R48). -/
def queuedWrites (s : State) : List OwnWrite :=
  s.path.queue ++ s.path.reissue.filterMap fun t => match t with | .write w => some w | .read _ => none

/-- The transaction overlaps an own write that is queued or waits to be reissued (R48). -/
def overlapsOwn (s : State) (t : Txn) : Bool :=
  (queuedWrites s).any fun w => (List.range (16 * t.beats)).any fun i =>
    activeAt t (t.addr + i) && ownByteAt w (t.addr + i)

/-- The bytes of a write from offset `off` on that are enabled, among `n`. -/
def enabledIn (t : Txn) (off n : Nat) : Nat := (((t.enables.drop off).take n).filter id).length

/-- The lowest address of the transaction in a region. -/
def firstIn (t : Txn) (r : Nat × Nat) : Nat := max t.addr r.1

/-- The slots or records of `size` bytes that the transaction touches in a region. -/
def slotsIn (t : Txn) (r : Nat × Nat) (size : Nat) : List Nat :=
  let lo := (firstIn t r - r.1) / size
  let hi := (min (t.addr + 16 * t.beats) (r.1 + r.2) - r.1 + size - 1) / size
  List.range' lo (hi - lo)

/-- The write is a full-slot write (R38): one beat with every byte-enable set. Slots and transactions are both 16-byte
aligned. -/
def fullSlot (t : Txn) : Bool := t.beats == 1 && t.enables.all id

/-! ### Outcomes of one region -/

/-- The region number and link of a FAULT payload (12, after the FAULT forms). -/
def regionNumber : RegionKind → Nat × Nat
  | .control => (0, 255) | .commandRing => (1, 255) | .reportRing => (2, 255) | .accountTable => (3, 255)
  | .logicalRing => (4, 255) | .radioRing => (5, 255) | .linkRing k => (6, k)

/-- What a region's rule decides for a write: the address ranges it drops, the faults it raises with the bytes dropped
under each, and the hand-offs. -/
structure Outcome where
  drops : List (Nat × Nat)
  faults : List (Nat × Nat)
  fields : List (ControlField × Nat)
  ready : Option (Nat × Bool)
  descriptor : Option Nat
  completion : Option (Nat × Nat)
  deriving Repr, Inhabited

/-- Bytes of a region that a write drops. -/
def dropRange (t : Txn) (r : Nat × Nat) : Nat × Nat :=
  (firstIn t r, min (t.addr + 16 * t.beats) (r.1 + r.2) - firstIn t r)

/-- The enabled bytes of a write in an address range that lies within it. -/
def enabledCount (t : Txn) (r : Nat × Nat) : Nat := enabledIn t (r.1 - t.addr) r.2

/-- A control block field that a write touches with some enabled byte: its drops, faults and hand-off (R41, R54). A write of
part of a ring field that is protected too raises both faults (R41, R53). -/
def fieldOutcome (s : State) (t : Txn) (f : ControlField) : Outcome :=
  let p := (ctrlBase s + (fieldPlace f).1, (fieldPlace f).2)
  if !shareByte (rangeOf t) p then default
  else
    let on := enabledCount t (dropRange t p)
    if on = 0 then default
    else if partField f then { (default : Outcome) with drops := [p], faults := [(faultProtectedWrite, on)] }
    else
      let part := if on < p.2 then [(faultPartialSlot, 0)] else []
      let shut := if ringField f && s.cmd.run != .stopped then [(faultProtectedWrite, 0)] else []
      if !(part ++ shut).isEmpty then { (default : Outcome) with faults := part ++ shut }
      else { (default : Outcome) with fields := [(f, field t.data (p.1 - t.addr) p.2)] }

/-- One fault for each kind, with the bytes dropped under it, by kind number (R53). -/
def mergeFaults (l : List (Nat × Nat)) : List (Nat × Nat) :=
  (List.range 14).filterMap fun k =>
    if l.any (fun p => p.1 == k) then some (k, ((l.filter fun p => p.1 == k).map Prod.snd).sum) else none

/-- The control block (R41). -/
def controlOutcome (s : State) (t : Txn) : Outcome :=
  let os := allFields.map (fieldOutcome s t)
  { (default : Outcome) with
    drops := (os.map Outcome.drops).flatten, faults := mergeFaults (os.map Outcome.faults).flatten
    fields := (os.map Outcome.fields).flatten }

/-- The account table (R42, R54). -/
def accountOutcome (s : State) (t : Txn) (r : Nat × Nat) : Outcome :=
  if s.cmd.run = .stopped then default
  else
    { (default : Outcome) with
      drops := [dropRange t r], faults := [(faultProtectedWrite, enabledCount t (dropRange t r))] }

/-- The ready mark change of a full-slot write with this data. -/
def readyChange (t : Txn) (slots : List Nat) : Option (Nat × Bool) := slots.head?.map fun i => (i, descOwn t.data)

/-- The logical uplink ring (R43, R54). -/
def logicalOutcome (s : State) (t : Txn) (r : Nat × Nat) : Outcome :=
  let slots := slotsIn t r 16
  let handed := isSoftware s t.initiator && fullSlot t
  let heldSlots := slots.filter (look s.relay.held)
  if s.cmd.run = .stopped then
    { (default : Outcome) with ready := if handed then readyChange t slots else none }
  else if !heldSlots.isEmpty then
    let drops := heldSlots.map fun i => (r.1 + 16 * i, 16)
    { (default : Outcome) with
      drops := drops, faults := [(faultRingCollision, (drops.map (enabledCount t)).sum)] }
  else if !isSoftware s t.initiator then { (default : Outcome) with faults := [(faultForeignWrite, 0)] }
  else if !fullSlot t then { (default : Outcome) with faults := [(faultPartialSlot, 0)] }
  else { (default : Outcome) with ready := if s.cmd.run = .halted then none else readyChange t slots }

/-- The radio downlink ring (R44, R54). -/
def radioOutcome (s : State) (t : Txn) (r : Nat × Nat) : Outcome :=
  if s.cmd.run = .stopped || isRadio s t.initiator then default
  else if !isSoftware s t.initiator then { (default : Outcome) with faults := [(faultForeignWrite, 0)] }
  else if !fullSlot t then { (default : Outcome) with faults := [(faultPartialSlot, 0)] }
  else if !descOwn t.data then default
  else { (default : Outcome) with descriptor := (slotsIn t r 16).head? }

/-- The ring of link k (R45, R54). -/
def linkOutcome (s : State) (t : Txn) (k : Nat) (r : Nat × Nat) : Outcome :=
  if s.cmd.run = .stopped then default
  else if !isLinkInitiator s k t.initiator then
    { (default : Outcome) with
      drops := [dropRange t r], faults := [(faultForeignWrite, enabledCount t (dropRange t r))] }
  else if !fullSlot t then { (default : Outcome) with faults := [(faultPartialSlot, 0)] }
  else if descOwn t.data then { (default : Outcome) with faults := [(faultSpurious, 0)] }
  else
    { (default : Outcome) with
      completion := if s.cmd.run = .halted then none else (slotsIn t r 16).head?.map fun i => (k, i) }

/-- What the rule of a present region that the write touches decides (R38, R40). -/
def regionOutcome (s : State) (t : Txn) (g : RegionKind) : Outcome :=
  match regionOf s g with
  | none => default
  | some r =>
    if !shareByte (rangeOf t) r then default
    else match g with
      | .control => controlOutcome s t
      | .accountTable => accountOutcome s t r
      | .logicalRing => logicalOutcome s t r
      | .radioRing => radioOutcome s t r
      | .linkRing k => linkOutcome s t k r
      | .commandRing => default
      | .reportRing => default

/-- The path form of a FAULT report (R53). -/
def pathFault (t : Txn) (g : RegionKind) (kind dropped : Nat) (s : State) : State :=
  let first := ((regionOf s g).map (firstIn t)).getD t.addr
  event kindFault kind 0
    [(8, 1, (regionNumber g).1), (9, 1, (regionNumber g).2), (10, 1, t.initiator), (11, 1, t.beats), (12, 2, dropped),
     (16, 8, first)] s

/-- The write with the enables of the dropped bytes cleared (R40). -/
def dropBytes (t : Txn) (drops : List (Nat × Nat)) : Txn :=
  { t with enables := t.enables.mapIdx fun i on =>
      on && !drops.any fun r => decide (r.1 ≤ t.addr + i) && decide (t.addr + i < r.1 + r.2) }

/-! ### Responses -/

/-- Give upstream the responses that are known, in port order (R35). -/
def flushOwed (s : State) : State :=
  let given := (s.path.owed.takeWhile fun o => o.answer.isSome).filterMap Owed.answer
  { s with path := { s.path with
      owed := s.path.owed.dropWhile fun o => o.answer.isSome
      upOut := s.path.upOut ++ given } }

/-- The records answered from a line, as (address, bytes). -/
def lineRecords (s : State) (h : Head) : List (Nat × List Byte) :=
  h.recs.filterMap fun q => match q.answer with | .line b => some (recordAddr s q.account, b) | _ => none

/-- The byte that a record answered from a line supplies at an address. -/
def subByte (subs : List (Nat × List Byte)) (a : Nat) : Option Byte :=
  (subs.find? fun p => decide (p.1 ≤ a) && decide (a < p.1 + 64)).bind fun p => p.2[a - p.1]?

/-- The read data: record bytes answered from lines in place of memory's (R42, R163). -/
def composed (t : Txn) (subs : List (Nat × List Byte)) (mem : List Byte) : List Byte :=
  (List.range (16 * t.beats)).map fun i => (subByte subs (t.addr + i)).getD (mem.getD i 0)

/-- Every byte of the read lies in a record answered from a line (R42). -/
def whollyAnswered (t : Txn) (subs : List (Nat × List Byte)) : Bool :=
  !t.write && (List.range (16 * t.beats)).all fun i => (subByte subs (t.addr + i)).isSome

/-! ### The head of the port -/

/-- No account record and no verdict is awaited (R46, the first two reasons). -/
def headReady (h : Head) : Bool := h.verdict.isNone && h.recs.all fun q => q.answer != .waiting

/-- The Path Monitor completes the head itself (R35, R40, R42). -/
def answerHead (h : Head) (data : List Byte) (s : State) : State :=
  flushOwed { s with path := { s.path with
    head := none
    owed := s.path.owed ++
      [{ initiator := h.txn.initiator,
         answer := some { initiator := h.txn.initiator, ok := true, data := data } }] } }

/-- The head moves on where no hold reason is left (R35, R46, R48). -/
def moveHead (s : State) : State :=
  match s.path.head with
  | none => s
  | some h =>
    if !headReady h then s
    else if h.spent then answerHead h [] s
    else
      let subs := lineRecords s h
      if whollyAnswered h.txn subs then answerHead h (composed h.txn subs []) s
      else if overlapsOwn s h.txn then s
      else
        { s with path := { s.path with
            head := none
            stream := s.path.stream ++ [{ txn := h.txn, subs := subs }]
            owed := s.path.owed ++ [{ initiator := h.txn.initiator, answer := none }] } }

/-- Put a transaction at the head. -/
def setHead (h : Head) (s : State) : State := { s with path := { s.path with head := some h } }

/-- A passing read is taken: its account records are presented in address order (R42). -/
def takeRead (t : Txn) (s : State) : State :=
  let accounts := match regionOf s .accountTable with
    | some r => if shareByte (rangeOf t) r then slotsIn t r 64 else []
    | none => []
  accounts.foldl (fun s a => presentRead a s)
    (setHead { txn := t, recs := accounts.map fun a => { account := a, answer := .waiting }, verdict := none,
               spent := false } s)

/-- Apply a verdict on a descriptor or completion write at the head (R40, R46). -/
def applyVerdict (p : Producer) (r : State × Verdict) : State :=
  match r.2, r.1.path.head with
  | .pass, _ => r.1
  | _, none => r.1
  | .discard, some h => setHead { h with txn := { h.txn with data := withDiscard h.txn.data } } r.1
  | .hold, some h => setHead { h with verdict := some p } r.1

/-- Hand a write to the owning blocks as one region decided (R40, R43 to R45). A take that the hand-off makes possible begins
with it, before any dispatch pass of the event (DESIGN CHOICE, assumption 32). -/
def handOff (t : Txn) (o : Outcome) (s : State) : State :=
  let s := o.fields.foldl (fun s p => handField p.1 p.2 s) s
  let s := match o.ready with
    | some (i, own) => tryTake { s with relay := { s.relay with ready := put s.relay.ready i own } }
    | none => s
  let s := match o.descriptor with
    | some i => applyVerdict .downlink (judgeDownlink t.initiator i t.data s)
    | none => s
  match o.completion with
  | some (k, i) => applyVerdict (.uplink (descAccount t.data)) (judgeCompletion k i t.data s)
  | none => s

/-- A passing write is taken: classified against every present region, its faults reported, its bytes dropped, and handed
off (R38 to R45, R53, R54). -/
def takeWrite (t : Txn) (s : State) : State :=
  let os := allRegions.map fun g => (g, regionOutcome s t g)
  let drops := (os.map fun p => p.2.drops).flatten
  let t' := dropBytes t drops
  let spent := !drops.isEmpty && !t'.enables.any id
  let s := setHead { txn := t', recs := [], verdict := none, spent := spent } s
  let s := os.foldl (fun s p => p.2.faults.foldl (fun s f => pathFault t p.1 f.1 f.2 s) s) s
  os.foldl (fun s p => handOff t p.2 s) s

/-- The next transaction is taken (R35). -/
def takeTxn (t : Txn) (s : State) : State := if t.write then takeWrite t s else takeRead t s

/-- One transaction is dealt with at the head of the free port, and moves on where nothing holds it; all that follows
from it comes within its own event (R35, R78, R81). -/
def dealWith (t : Txn) (s : State) : State := settleEvent s (moveHead (takeTxn t s))

/-- Take the transactions that wait at the port, one after another, while its head is free (R35). -/
def pumpLoop : Nat → State → State
  | 0, s => s
  | n + 1, s =>
    match s.path.head, s.path.upstream with
    | none, t :: rest => pumpLoop n (dealWith t { s with path := { s.path with upstream := rest } })
    | _, _ => s

/-- Run the upstream port as far as it goes (R35). -/
def pumpUpstream (s : State) : State := pumpLoop s.path.upstream.length s

/-- The end of an event that may have released the head of the port: the head moves on, then what follows from the event,
then the transactions that waited behind the head (R46, R78, R81). `old` is the state before the event. -/
def portEvent (old s : State) : State := pumpUpstream (settleEvent old (moveHead s))

/-- A transaction arrives at the upstream port (R35). -/
def arrive (t : Txn) (s : State) : State :=
  pumpUpstream { s with path := { s.path with upstream := s.path.upstream ++ [t] } }

/-! ### The waiting event -/

/-- The head's verdict is released (R46, R109). -/
def releaseVerdict (v : Verdict) (s : State) : State :=
  match s.path.head with
  | none => s
  | some h =>
    setHead { h with
      verdict := none
      txn := if v = .discard then { h.txn with data := withDiscard h.txn.data } else h.txn } s

/-- The waiting event leaves its place. -/
def noWaiting (s : State) : State := { s with gate := { s.gate with waiting := none } }

/-- The gate is open for the event's account with the event's incarnation (R109). -/
def stillOpen (s : State) (e : UsageEvent) : Bool :=
  gateDecision s e.account && (look s.gate.map e.account).incarnation == e.incarnation

/-- The usage queue has room for the waiting event, which is dealt with as its producer requires (R88, R109). The rating
that waited for this then begins (R124), before a place that becomes ready is judged (R145; DESIGN CHOICE, assumption 32). -/
def dealWaiting (w : WaitingEvent) (s : State) : State :=
  let s := noWaiting s
  match w.producer with
  | .uplink e =>
    releaseVerdict .pass (entrySent e ((entryOf s e).link.getD 0) (enqueue w.event s))
  | .downlink =>
    if stillOpen s w.event then releaseVerdict .pass (enqueue w.event s) else tryRate (releaseVerdict .discard s)

/-- WAITING_EVENT_RELEASE: the waiting event, the hold it caused, and the port behind it. -/
def releaseWaiting (s : State) : State :=
  match s.gate.waiting with
  | some w => if waitingDue s then portEvent s (dealWaiting w s) else s
  | none => s

end Sys2Proof.Machine
end

