-- ==== Sys2Proof/Machine/Downstream.lean ====
section
/-! DEFINITION. The downstream port (03): the own side's offer, the arbiter, the own-write queue's entry, and the front of
the transactions in flight. -/

namespace Sys2Proof.Machine

/-! ### The own side's offer (R49) -/

/-- An own read overlaps an own write's enabled bytes. -/
def readMeetsOwn (r : OwnRead) (w : OwnWrite) : Bool :=
  (List.range (16 * r.beats)).any fun i => ownByteAt w (r.addr + i)

/-- An own read overlaps a passing write that has not been issued. -/
def readMeetsPassing (r : OwnRead) (p : Passing) : Bool :=
  p.txn.write && (List.range (16 * r.beats)).any fun i => activeAt p.txn (r.addr + i)

/-- The read of a take waits for the write at the head of the port that made its slot ready, so that it returns that
descriptor (R78). -/
def readMeetsHead (s : State) (r : OwnRead) : Bool :=
  match s.path.head, r.use with
  | some h, .take => h.txn.write && (List.range (16 * r.beats)).any fun i => activeAt h.txn (r.addr + i)
  | _, _ => false

/-- An own read is ready (R49; assumption 35). -/
def readReady (s : State) (r : OwnRead) : Bool :=
  !(queuedWrites s).any (readMeetsOwn r) && !s.path.stream.any (readMeetsPassing r) && !readMeetsHead s r

/-- The older of two offers. -/
def olderOffer (a b : Option (Nat × OwnTxn)) : Option (Nat × OwnTxn) :=
  match a, b with
  | some x, some y => if x.1 ≤ y.1 then some x else some y
  | some x, none => some x
  | none, y => y

/-- The own side's offer, with whether it is a second try: what waits to be reissued first (R52), then the oldest of the
queue's head and the ready reads (R49). -/
def ownOffer (s : State) : Option (OwnTxn × Bool) :=
  match s.path.reissue with
  | t :: _ => some (t, true)
  | [] =>
    let head := s.path.queue.head?.map fun w => (w.seq, OwnTxn.write w)
    let read := (s.path.reads.find? (readReady s)).map fun r => (r.seq, OwnTxn.read r)
    (olderOffer head read).map fun p => (p.2, false)

/-- The offered transaction leaves its place. -/
def removeOffer (t : OwnTxn) (again : Bool) (p : PathMonitor) : PathMonitor :=
  if again then { p with reissue := p.reissue.tail }
  else match t with
    | .write _ => { p with queue := p.queue.tail }
    | .read r => { p with reads := p.reads.filter fun q => q.seq != r.seq }

/-- The written producer follows a producer write that is issued (R185, R186). -/
def noteIssue (t : OwnTxn) (s : State) : State :=
  match t with
  | .write w =>
    match w.use with
    | .producerWord v => { s with rep := { s.rep with written := v } }
    | _ => s
  | .read _ => s

/-- Issue the own side's offer: the passing run count becomes 0 (R50). -/
def issueOwn (t : OwnTxn) (again : Bool) (s : State) : State :=
  noteIssue t { s with path :=
    { removeOffer t again s.path with
      inFlight := s.path.inFlight ++ [.own t (if again then 2 else 1)], runCount := 0 } }

/-- Issue the head of the passing stream, with this run count (R50). -/
def issuePassing (p : Passing) (count : Nat) (s : State) : State :=
  { s with path := { s.path with
      stream := s.path.stream.tail, inFlight := s.path.inFlight ++ [.passing p], runCount := count } }

/-- The downstream arbiter issues one transaction (R50). With nothing ready it issues none. -/
def arbiterIssue (s : State) : State :=
  match s.path.stream, ownOffer s with
  | [], none => s
  | p :: _, none => issuePassing p 0 s
  | [], some o => issueOwn o.1 o.2 s
  | p :: _, some o => if s.path.runCount < 8 then issuePassing p (s.path.runCount + 1) s else issueOwn o.1 o.2 s

/-! ### A waiting own write enters the queue (R47) -/

/-- What its block does once a write that waited has entered the queue (R82, R85, R91, R182, R185). A post is made then, in
RUNNING only, to the link its pass chose, also where that link has left UP, the entry's gate has closed or its max wait has
passed meanwhile (DESIGN CHOICE, assumption 12); in HALTED the relay acts on nothing (R98). -/
def writeEntered (w : OwnWrite) (s : State) : State :=
  let go (s : State) : State :=
    if w.resume then dispatchPass { s with relay := { s.relay with suspended := false } } else s
  match w.use with
  | .post e k => if s.cmd.run = .running then go (markPosted e k s) else s
  | .slotBack e => if s.cmd.run = .halted then s else go (freeEntry e s)
  | .lineBack _ => s
  | .results => writeStatus s
  | .status => writeConsumer s
  | .consumerWord => finishJob s
  | .consumerReset => s
  | .reportRecord =>
    match s.rep.pend with
    | p :: rest => runReports { s with rep := { s.rep with pend := { p with recordIn := true } :: rest } }
    | [] => s
  | .producerWord _ => runReports { s with rep := { s.rep with pend := s.rep.pend.tail } }

/-- The first own write that waits can enter the queue. -/
def entryDue (s : State) : Bool := !s.path.waiting.isEmpty && decide (s.path.queue.length < 16)

/-- OWN_WRITE_ENTERS_QUEUE: the first write that waits enters, and its operation goes on (R47). -/
def ownWriteEnters (s : State) : State :=
  match s.path.waiting with
  | [] => s
  | w :: rest =>
    if entryDue s then
      settleEvent s (writeEntered w { s with path := { s.path with
        waiting := rest, queue := s.path.queue ++ [{ w with seq := s.path.seq }], seq := s.path.seq + 1 } })
    else s

/-! ### The front of the transactions in flight -/

/-- An own write whose OK response no block waits for: every one but a line's write-back (R85, R91, R182, R185). -/
def silent (f : Flight) : Bool :=
  match f with
  | .own (.write w) _ => match w.use with | .lineBack _ => false | _ => true
  | .own (.read _) _ => false
  | .passing _ => false

/-- The transactions in flight behind the silent writes at the front, which are answered OK (assumption 6). -/
def heard (s : State) : List Flight := s.path.inFlight.dropWhile silent

/-- The front transaction is answered and leaves. -/
def answered (s : State) : State := { s with path := { s.path with inFlight := (heard s).tail } }

/-- The own read at the front, behind silent writes. -/
def frontRead (s : State) : Option OwnRead :=
  match heard s with
  | .own (.read r) _ :: _ => some r
  | _ => none

/-! ### Responses -/

/-- The response of a passing transaction, once memory's is known: an ERROR is returned as it came (R35, R42, R51). -/
def responseOf (p : Passing) (ok : Bool) (data : List Byte) : Response :=
  { initiator := p.txn.initiator, ok := ok
    data := if p.txn.write then [] else if ok then composed p.txn p.subs data else data }

/-- Fill the oldest owed response that is not yet known. -/
def fillOwed (r : Response) : List Owed → List Owed
  | [] => []
  | o :: rest => if o.answer.isNone then { o with answer := some r } :: rest else o :: fillOwed r rest

/-- The response to a passing transaction is returned upstream in its turn (R35, R51). -/
def passResponse (p : Passing) (ok : Bool) (data : List Byte) (s : State) : State :=
  let s := answered s
  flushOwed { s with path := { s.path with owed := fillOwed (responseOf p ok data) s.path.owed } }

/-- A response of memory to a read carries as many bytes as the read asked for. -/
def lengthOk (p : Passing) (ok : Bool) (data : List Byte) : Bool :=
  !ok || p.txn.write || data.length == 16 * p.txn.beats

/-- TAKE_READ_DONE: the descriptor of the take (R79). In HALTED it is not acted on (R98). -/
def takeReadDone (data : List Byte) (s : State) : State :=
  match frontRead s, s.relay.take with
  | some r, some t =>
    if r.use ≠ .take then s
    else if s.cmd.run = .halted then answered s
    else
      let s' := answered s
      settleEvent s (judgeTake t data { s' with relay := { s'.relay with take := none } })
  | _, _ => s

/-- The account of a fill's line has its record (R159). -/
def fillLine (i : Nat) (data : List Byte) (s : State) : State :=
  let l := lineOf s i
  if l.st = .filling then grantLine i (setLine i { l with st := .clean, contents := recOfBytes data } s) else s

/-- FILL_DONE: the line's record, its waiting requesters, and the head of the port (R159, R154, R46). -/
def fillDone (data : List Byte) (s : State) : State :=
  match frontRead s with
  | some r =>
    match r.use with
    | .fill i => portEvent s (fillLine i data (answered s))
    | _ => s
  | none => s

/-- LINE_GRANT of a line (R154), and the head of the port (R46). -/
def lineGrant (i : Nat) (s : State) : State :=
  if grantDue (lineOf s i) then portEvent s (grantLine i s) else s

/-- The number of lines whose flush mark is set. -/
def marked (s : State) : Nat := countLines s Line.flushMark

/-- A FLUSH completes when no flush mark is left (R164). -/
def serveFlush (s : State) : State :=
  match s.cache.flush with
  | some n => if marked s = 0 then complete .ok [(2, n)] [] { s with cache := { s.cache with flush := none } } else s
  | none => s

/-- In STOP's step 8 a line whose write-back has completed counts as written back; one that ends it re-dirtied is written
back again first (R166, R188, assumption 19). -/
def countAtStop (i : Nat) (s : State) : State :=
  if s.cmd.run = .stopping ∧ s.cmd.stopStep = 8 then
    if (lineOf s i).st = .dirty then beginWriteBack i s
    else { s with cmd := { s.cmd with counts := { s.cmd.counts with lines := s.cmd.counts.lines + 1 } } }
  else s

/-- WRITE_BACK_DONE: the line of the write-back at the front (R160). -/
def writeBackDone (s : State) : State :=
  match heard s with
  | .own (.write w) _ :: _ =>
    match w.use with
    | .lineBack i =>
      let s' := answered s
      if (lineOf s i).st = .writing then
        let s' := countAtStop i (setLine i (afterWriteBack (lineOf s i)) s')
        settleEvent s (serveFlush (serveMisses (endEviction i s')))
      else s'
    | _ => s
  | _ => s

/-- REPORT_CONSUMER_READ_DONE: the value read is taken as a write of it, unless a consumer value has been accepted since
the read was issued (R184). -/
def consumerReadDone (data : List Byte) (s : State) : State :=
  match frontRead s with
  | some r =>
    match r.use with
    | .consumerIndex n =>
      let s' := answered s
      if n = s.rep.accepted then settleEvent s (reportConsumer (field data 8 4) s') else s'
    | _ => s
  | none => s

end Sys2Proof.Machine
end

