-- ==== Sys2Proof/Machine/Runs.lean ====
section
/-! DEFINITION. The run states (11, Run states): entry to HALTED, an own transaction's ERROR, the steps of STOP, and STOP
from HALTED. -/

namespace Sys2Proof.Machine

/-! ### Entry to HALTED (R189) -/

/-- The waiting event is withdrawn and counted, and its hold released (R111). -/
def haltCapture (s : State) : State :=
  match s.gate.waiting with
  | none => s
  | some w =>
    let s := { s with gate := { s.gate with waiting := none, haltDiscards := s.gate.haltDiscards + 1 } }
    releaseVerdict (if w.producer = .downlink then .discard else .pass) s

/-- The Rating Engine stops: its request is withdrawn (R128). -/
def haltRating (s : State) : State :=
  let s := withdraw .rating s
  { s with rate := { s.rate with requested := none } }

/-- The START scan stops, and START ends with BAD_STATE and the counts reached (R150, R187). -/
def haltScan (s : State) : State :=
  match s.acct.scan with
  | none => s
  | some c =>
    let s := withdraw .scan (setAcct { s.acct with scan := none } s)
    complete .badState [(2, c.scanned), (2, c.repaired), (2, c.closed)] [] s

/-- The account command in progress ends with BAD_STATE (R134, R151). -/
def haltCommand (s : State) : State :=
  match s.acct.wait with
  | none => s
  | some _ => refuse .badState (withdraw .command (setAcct { s.acct with wait := none, reserved := false } s))

/-- A billing report whose block is cleared is still placed (R151, R190); the offer of a walk is withdrawn (R174). -/
def orphaned (scanToo finishToo : Bool) (l : List Billing) : List Billing :=
  l.map fun b => match b with
    | .scan r => if scanToo then .orphan r else b
    | .finish r => if finishToo then .orphan r else b
    | .cut => b
    | .orphan _ => b

/-- The walk stops: SETTLE ends with BAD_STATE and its counts, a STOP walk leaves its counts for STOP (R174, R176). -/
def haltWalk (s : State) : State :=
  match s.settle.walk with
  | none => s
  | some w =>
    let s := { s with
      settle := { s.settle with walk := none }
      rep := { s.rep with waiters := s.rep.waiters.filter (· != .cut) } }
    if w.stopCause then
      { s with cmd := { s.cmd with counts := { s.cmd.counts with records := w.records, charge := w.charge } } }
    else complete .badState [(2, w.records), (8, w.charge)] [] s

/-- A FLUSH ends with BAD_STATE and the lines already written, and its marks are cleared (R164). -/
def haltFlush (s : State) : State :=
  match s.cache.flush with
  | none => s
  | some n =>
    let done := n - marked s
    let s := mapLines (fun l => { l with flushMark := false }) s
    complete .badState [(2, done)] [] { s with cache := { s.cache with flush := none } }

/-- The HALT report (R189). A command counts as in progress until the last write of its completion has entered the queue
(DESIGN CHOICE, assumption 37). -/
def haltReport (s : State) : State :=
  event kindFault faultHalt 0
    [(8, 1, runCode s.cmd.run), (9, 1, if s.cmd.run = .stopping then s.cmd.stopStep else 0),
     (10, 1, (s.cmd.job.map Job.code).getD 0)] s

/-- Entry to HALTED: the HALT report, then every block as its chapter states (R189). The stop step is then none (DEDUCED,
assumption 19). -/
def enterHalted (s : State) : State :=
  let s := haltReport s
  let s := covLeaveRunning { s with cmd := { s.cmd with run := .halted, stopStep := 0 } }
  let s := haltRating (haltCapture s)
  let s := withdraw .finisher s
  let s := { s with rep := { s.rep with waiters := orphaned true false s.rep.waiters } }
  haltFlush (haltWalk (haltCommand (haltScan s)))

/-! ### An own transaction answered ERROR (R52) -/

/-- The MEMORY_ERROR report (R52). -/
def memoryError (t : OwnTxn) (s : State) : State :=
  let p : Nat × Nat × Nat := match t with
    | .read r => (blockCode r.block, 1, r.addr)
    | .write w => (blockCode w.block, 2, w.addr)
  event kindFault faultMemoryError 0 [(8, 1, p.1), (9, 1, p.2.1), (16, 8, p.2.2)] s

/-- A fill has failed: the line becomes INVALID at the least recently used end, and its waiting reads are answered from
memory (R165). -/
def fillFailed (i : Nat) (s : State) : State :=
  let l := lineOf s i
  let s := if l.waiting.contains .read then answerRead (l.account.getD 0) .memory s else s
  let s := setLine i default s
  { s with cache := { s.cache with lru := i :: s.cache.lru.filter (· != i) } }

/-- A write-back has failed: the line becomes DIRTY, its marks cleared (R165). -/
def writeBackFailed (i : Nat) (s : State) : State :=
  endEviction i <| setLine i { lineOf s i with st := .dirty, redirty := false, flushMark := false, evictMark := false } s

/-- The issuing block is told that its transaction failed (R79, R85, R91, R165, R180, R182, R184, R185). -/
def tellFailed (t : OwnTxn) (s : State) : State :=
  match t with
  | .read r =>
    match r.use with
    | .take => s
    | .fill i => fillFailed i s
    | .fetch n => if n = s.cmd.latched then { s with cmd := { s.cmd with fetching := none, blocked := true } } else s
    | .consumerIndex _ => s
  | .write w =>
    match w.use with
    | .lineBack i => writeBackFailed i s
    | _ => s

/-- An own transaction is abandoned: MEMORY_ERROR, entry to HALTED where the run state calls for it, and its block is told
(R52, R189). -/
def abandon (t : OwnTxn) (s : State) : State :=
  let s := memoryError t s
  let halts := s.cmd.run == .starting || s.cmd.run == .running || s.cmd.run == .stopping
  tellFailed t (if halts then enterHalted s else s)

/-- OWN_TRANSACTION_ERROR: `ahead` silent writes are answered OK, and the own transaction behind them ERROR (R52). -/
def ownError (ahead : Nat) (s : State) : State :=
  let front := s.path.inFlight.take ahead
  match s.path.inFlight.drop ahead with
  | .own t n :: rest =>
    if front.length = ahead ∧ front.all silent then
      let s := { s with path := { s.path with inFlight := rest } }
      if n = 1 ∧ s.cmd.run ≠ .halted then { s with path := { s.path with reissue := s.path.reissue ++ [t] } }
      else abandon t s
    else s
  | _ => s

/-! ### STOP from RUNNING (R188) -/

/-- STOP's results (R188). -/
def stopResults (s : State) (fromRun : RunState) (lost discarded : Nat) : List (Nat × Nat) :=
  let c := s.cmd.counts
  [(1, runCode fromRun), (2, c.aborted), (2, c.closes), (2, c.records), (2, c.lines), (2, lost), (2, discarded),
   (8, c.charge)]

/-- WAITING and RETRY entries end ABORTED, wait list first (R97). Where the own-write queue is full, all their write-backs wait
from this event on (DESIGN CHOICE, assumption 31). -/
def abortLists (s : State) : State :=
  (s.relay.waitList ++ s.relay.retryList).foldl (fun s e => endEntry false e .aborted (entryOf s e).link s) s

/-- Some relay entry is in this state. -/
def anyEntry (s : State) (st : EntryState) : Bool := s.relay.table.any fun p => p.2.st == st

/-- Every relay entry is FREE (R96). -/
def relayEmpty (s : State) : Bool := s.relay.table.all fun p => p.2.st == .free

/-- The present stop step has ended (R188). Step 9 lasts until the last entry's write-back has entered the queue, for in
STOPPED the relay table is empty and no slot is held (R96; assumption 19). -/
def stepEnded (s : State) : Bool :=
  match s.cmd.stopStep with
  | 3 => s.relay.waitList.isEmpty && s.relay.retryList.isEmpty && !anyEntry s .ending
  | 4 => !anyEntry s .posted && s.relay.take.isNone
  | 5 => s.gate.queue.isEmpty && s.gate.waiting.isNone
  | 6 => s.acct.places.isEmpty && s.acct.finisher == .idle
  | 7 => s.settle.walk.isNone
  | 8 => countLines s (fun l => l.st == .dirty || l.st == .writing || l.st == .filling) = 0
  | 9 => relayEmpty s
  | _ => true

/-- STOP from RUNNING ends: STOPPED, with status OK (R188 step 10). -/
def stopDone (s : State) : State :=
  complete .ok (stopResults s .running 0 0) []
    { s with cmd := { s.cmd with run := .stopped, stopStep := 0, counts := default } }

/-- A stop step begins (R188). -/
def beginStep (n : Nat) (s : State) : State :=
  let s := { s with cmd := { s.cmd with stopStep := n, stepSince := s.clock } }
  match n with
  | 3 => abortLists s
  | 6 => judgeFinisher s
  | 7 => beginWalk true s
  | 8 => writeBackAll s
  | 9 => disableAll (invalidateAll s)
  | 10 => stopDone s
  | _ => s

/-- Go on from a stop step that has ended, through each that ends at once (R188). -/
def advanceStop : Nat → State → State
  | 0, s => s
  | n + 1, s =>
    if s.cmd.run = .stopping ∧ stepEnded s then advanceStop n (beginStep (s.cmd.stopStep + 1) s) else s

/-- STOP advances as far as its steps have ended. -/
def stopAdvance (s : State) : State := advanceStop 10 s

/-- STOP taken in RUNNING (R188): coverage is forced DARK, no dispatch pass goes on, and the steps begin. -/
def stopRunning (s : State) : State :=
  let s := { s with cmd := { s.cmd with run := .stopping, stopStep := 1, stepSince := s.clock, counts := default } }
  stopAdvance (dropPosts (fun _ => true) (covLeaveRunning s))

/-- STOP can advance from its present step. -/
def stopAdvanceDue (s : State) : Bool := s.cmd.run == .stopping && stepEnded s

/-! ### The close wait limit of step 4 (R97, R75) -/

/-- A link still holds posted entries. -/
def holdsPosted (s : State) (k : Nat) : Bool := decide (0 < (linkOf s k).posted)

/-- The posted wait of step 4 has reached the close wait limit, and entries are still posted. -/
def postedWaitDue (s : State) : Bool :=
  s.cmd.run == .stopping && s.cmd.stopStep == 4 && decide (s.cfg.closeWait ≤ elapsed s s.cmd.stepSince) &&
    (s.relay.table.any (fun p => p.2.st == .posted && !p.2.completionHeld) || (List.range 4).any (holdsPosted s))

/-- Entries still POSTED end ABORTED in the order of their posts; those whose completion is held leave the count only. -/
def abortPosted (s : State) : State :=
  (byPost (s.relay.table.filter fun p => p.2.st == .posted)).foldl (fun s p =>
    if p.2.completionHeld then setEntry p.1 { entryOf s p.1 with offCount := true } s
    else endEntry false p.1 .aborted p.2.link s) s

/-- STOP_POSTED_WAIT_EXPIRY (R97, R75). -/
def postedWaitExpiry (s : State) : State :=
  if postedWaitDue s then
    let links := (List.range 4).filter (holdsPosted s)
    stopAdvance (disableLinks links (abortPosted s))
  else s

/-! ### STOP from HALTED (R190) -/

/-- STOP is in progress in HALTED, not yet completed. -/
def stopInHalted (s : State) : Bool :=
  s.cmd.run == .halted && (match s.cmd.job with
    | some j => j.request == some .stop && j.done.isNone
    | none => false)

/-- No own traffic is queued, waiting, in flight or waiting to be reissued (R55, R190). -/
def ownQuiet (s : State) : Bool :=
  s.path.queue.isEmpty && s.path.waiting.isEmpty && s.path.reads.isEmpty && s.path.reissue.isEmpty &&
    s.path.inFlight.all fun f => match f with | .own _ _ => false | .passing _ => true

/-- STOP from HALTED can be carried out. -/
def haltedClearDue (s : State) : Bool := stopInHalted s && ownQuiet s

/-- The relay is cleared without write-backs (R98). -/
def clearRelay (s : State) : State :=
  { s with relay := { s.relay with
      ready := [], held := [], takePtr := 0, take := none, table := [], waitList := [], retryList := [], round := 0
      suspended := false } }

/-- The finisher list is emptied; a report already handed over is still placed (R151, R190). -/
def clearFinisher (s : State) : State :=
  let s := setAcct { s.acct with
    wait := none, reserved := false, places := [], finisher := .idle, finishing := none } s
  { s with rep := { s.rep with waiters := orphaned true true s.rep.waiters } }

/-- Every link not UNCONFIGURED becomes DISABLED, its generation raised, by rising link id (R75; DESIGN CHOICE,
assumption 20). A change of the effective mode here installs no
staged schedule: both schedules are kept (R98 over R94, assumption 19). -/
def clearLinks (s : State) : State :=
  let s := (List.range 4).foldl (fun s k =>
    if (linkOf s k).health = .unconfigured then s else disableLink k s) s
  covBackhaul false { s with sup := { s.sup with
    eligible := [], mode := effectiveMode s, active := none, deferred := none, backhaul := false } }

/-- The clearing event of STOP from HALTED (R190). -/
def clearHalted (s : State) : State :=
  if haltedClearDue s then
    let lost := countLines s fun l => l.st == .dirty
    let discarded := s.gate.haltDiscards + s.gate.queue.length
    let s := { s with path := { s.path with runCount := 0 } }
    let s := invalidateAll s
    let s := { s with
      cache := { s.cache with misses := [], flush := none }
      gate := { s.gate with queue := [], haltDiscards := 0 }
      rate := { s.rate with requested := none } }
    let s := clearLinks (clearFinisher (clearRelay s))
    complete .ok (stopResults s .halted lost discarded) []
      { s with cmd := { s.cmd with run := .stopped, stopStep := 0, counts := default } }
  else s

end Sys2Proof.Machine
end

