-- ==== Sys2Proof/Machine/Commands.lean ====
section
/-! DEFINITION. The commands of the command ring (R181): what each block's owning rule makes of a command, from the moment
it is handed over. -/

namespace Sys2Proof.Machine

/-- The part is HALTED: most commands are refused with BAD_STATE (11, Commands by run state). -/
def halted (s : State) : Bool := s.cmd.run == .halted

/-- The run state is RUNNING. -/
def running (s : State) : Bool := s.cmd.run == .running

/-! ### CONFIGURE (R183) -/

/-- The twelve clamped values, in the order of R183's table: offset and size in the record, the given value, the adopted. -/
def clampedValues (p : ConfigureParams) : List (Nat × Nat × Nat × Nat) :=
  [(44, 4, p.fixLoss.toNat, clamp 1000 60000 p.fixLoss.toNat),
   (48, 4, p.lostGrace.toNat, clamp 0 600000 p.lostGrace.toNat),
   (52, 4, p.warmUp.toNat, clamp 0 120000 p.warmUp.toNat),
   (56, 4, p.drain.toNat, clamp 5000 600000 p.drain.toNat),
   (60, 4, p.darkMin.toNat, clamp 0 600000 p.darkMin.toNat),
   (64, 4, p.backhaulLimit.toNat, clamp 1000 600000 p.backhaulLimit.toNat),
   (68, 4, p.swapHold.toNat, clamp 0 600000 p.swapHold.toNat),
   (72, 4, p.maxWait.toNat, clamp 10 60000 p.maxWait.toNat),
   (76, 4, p.closeWait.toNat, clamp 1000 120000 p.closeWait.toNat),
   (80, 4, p.flushAge.toNat, clamp 100 60000 p.flushAge.toNat),
   (85, 1, p.minQuality.toNat, clamp 0 3 p.minQuality.toNat),
   (32, 8, p.packCeiling.toNat, clamp 0 max48 p.packCeiling.toNat)]

/-- The adopted value of the clamped parameter at an offset. -/
def adopted (p : ConfigureParams) (off : Nat) : Nat :=
  ((clampedValues p).find? fun v => v.1 == off).elim 0 fun v => v.2.2.2

/-- What CONFIGURE writes over its own parameters: every value it adopts, at the parameter's place (R183, R193). -/
def configureRewrites (p : ConfigureParams) : List (Nat × Nat × Nat) :=
  [(4, 2, p.softMask.toNat), (6, 2, p.accounts.toNat), (8, 8, p.acctBase.toNat), (16, 8, p.upBase.toNat),
   (24, 8, p.downBase.toNat), (40, 2, p.upSize.toNat), (42, 2, p.downSize.toNat), (84, 1, p.radioInitiator.toNat)] ++
  (clampedValues p).map fun v => (v.1, v.2.1, v.2.2.2)

/-- The clamped marks, the first value in the lowest mark (R183). -/
def clampedMarks (p : ConfigureParams) : Nat :=
  (clampedValues p).foldr (fun v acc => 2 * acc + (if v.2.2.1 = v.2.2.2 then 0 else 1)) 0

/-- CONFIGURE's parameters pass its checks (R183). -/
def configureOk (p : ConfigureParams) : Bool :=
  decide (1 ≤ p.accounts.toNat) && decide (p.accounts.toNat ≤ 16384) && p.acctBase.toNat % 4096 == 0 &&
    p.upBase.toNat % 4096 == 0 && p.downBase.toNat % 4096 == 0 && powerIn 64 4096 p.upSize.toNat &&
    powerIn 64 4096 p.downSize.toNat && decide (p.radioInitiator.toNat ≤ 15)

/-- Every block takes its values (R6, R32, R39, R73, R95, R152, R161, R183). -/
def adoptConfig (p : ConfigureParams) (s : State) : State :=
  { s with
    cfg :=
      { softMask := p.softMask, accounts := p.accounts.toNat, acctBase := p.acctBase.toNat, upBase := p.upBase.toNat
        downBase := p.downBase.toNat, packCeiling := adopted p 32, upSize := p.upSize.toNat
        downSize := p.downSize.toNat, lostGrace := adopted p 48, warmUp := adopted p 52, drain := adopted p 56
        darkMin := adopted p 60, backhaulLimit := adopted p 64, swapHold := adopted p 68, maxWait := adopted p 72
        closeWait := adopted p 76, flushAge := adopted p 80, radioInitiator := p.radioInitiator.toNat }
    pos := { s.pos with fixLoss := adopted p 44, minQuality := adopted p 85 }
    sup := { s.sup with deferred := s.sup.deferred.map fun _ => s.sup.lastSwap + BitVec.ofNat 32 (adopted p 68) }
    relay := { s.relay with ready := [], takePtr := 0 }
    cmd := { s.cmd with configured := true } }

/-- Expiries whose time has passed under the newly adopted values (R6, R32, R73). -/
def adoptionExpiries (s : State) : State :=
  deferredSwapExpiry (darkMinimumExpiry (drainExpiry (warmUpExpiry (backhaulLossExpiry (lostGraceExpiry
    (fixLossExpiry s))))))

/-- CONFIGURE (R183). -/
def doConfigure (p : ConfigureParams) (s : State) : State :=
  if s.cmd.run ≠ .stopped then refuse .badState s
  else if configureOk p = false then refuse .badParam s
  else complete .ok [(2, clampedMarks p)] (configureRewrites p) (adoptionExpiries (adoptConfig p s))

/-! ### START and STOP -/

/-- START is accepted: STARTING, the gate map cleared, and the scan of record 0 (R187, R100, R149). -/
def beginStart (s : State) : State :=
  requestLine .scan 0 { s with
    cmd := { s.cmd with run := .starting }
    gate := { s.gate with map := [] }
    acct := { s.acct with scan := some { next := 0, scanned := 0, repaired := 0, closed := 0, reporting := false } } }

/-- START (R187). -/
def doStart (s : State) : State :=
  if s.cmd.run ≠ .stopped then refuse .badState s
  else if s.cmd.configured = false ∨ zoneZeroReady s = false ∨ s.rate.loaded < 24 then refuse .notConfigured s
  else if repRing s = none then refuse .badParam s
  else if regionsOverlap s then refuse .overlap s
  else beginStart s

/-- STOP (R188, R190). In HALTED it waits for STOP_HALTED_CLEAR. -/
def doStop (s : State) : State :=
  match s.cmd.run with
  | .running => stopRunning s
  | .halted => s
  | .stopped => refuse .badState s
  | .starting => refuse .badState s
  | .stopping => refuse .badState s

/-! ### Positions, coverage -/

/-- LOAD_ZONE (R8). -/
def doLoadZone (p : LoadZoneParams) (s : State) : State :=
  if halted s then refuse .badState s
  else match zoneOf p with
    | none => refuse .badParam s
    | some z =>
      complete .ok [(4, z.dwell), (1, yesNo (s.pos.current == some p.index.toNat))] []
        (loadZone p.index.toNat z s)

/-- POSITION (R7). -/
def doPosition (p : PositionParams) (s : State) : State :=
  let lat := p.lat.toInt
  let lon := p.lon.toInt
  if halted s then refuse .badState s
  else if lineActive s then refuse .navActive s
  else if 3 < p.quality.toNat ∨ inRange lat lon = false then refuse .badParam s
  else
    let used := decide (s.pos.minQuality ≤ p.quality.toNat)
    let s := if used then takeFix p.quality.toNat lat lon .software s else discard s
    complete .ok [(1, yesNo used), (1, posCode s.pos.st), (1, orNone s.pos.current), (1, orNone s.pos.pendingZone),
      (2, s.pos.discards)] [] s

/-- The results of COVERAGE_HOLD and COVERAGE_RELEASE (R31). -/
def coverResults (before : Bool) (s : State) : List (Nat × Nat) := [(1, yesNo before), (1, covCode s.cov.st)]

/-- COVERAGE_HOLD (R31). -/
def doCoverageHold (s : State) : State :=
  if halted s then refuse .badState s
  else complete .ok (coverResults s.cov.hold (covHold s)) [] (covHold s)

/-- COVERAGE_RELEASE (R31). -/
def doCoverageRelease (s : State) : State :=
  if halted s then refuse .badState s
  else complete .ok (coverResults s.cov.hold (covRelease s)) [] (covRelease s)

/-! ### Links -/

/-- The record LOAD_LINK loads, where its fields pass R57 step 4, with the clamps of R58. -/
def linkRecOf (p : LoadLinkParams) : Option LinkRec :=
  match classOf p.cls.toNat, carrierUseOf p.carrierUse.toNat with
  | some cls, some use =>
    if p.initiator.toNat ≤ 15 ∧ p.ringBase.toNat % 4096 = 0 ∧ powerIn 16 1024 p.ringSize.toNat then
      some
        { cls := cls, initiator := p.initiator.toNat, carrierUse := use, retries := min 3 p.retries.toNat
          threshold := min 100 p.threshold.toNat, base := p.ringBase.toNat, size := p.ringSize.toNat
          timeout := clamp 10 60000 p.timeout.toNat, probation := clamp 0 600000 p.probation.toNat }
    else none
  | _, _ => none

/-- The ring overlaps another present region, its own earlier ring left out (R57 step 5). -/
def ringOverlaps (s : State) (k : Nat) (r : LinkRec) : Bool :=
  ((allRegions.filter (· != .linkRing k)).filterMap (regionOf s)).any (shareByte (r.base, 16 * r.size))

/-- The record of link k is loaded; an UNCONFIGURED link becomes DISABLED (R58). -/
def loadLink (k : Nat) (r : LinkRec) (s : State) : State :=
  let l := linkOf s k
  let s := setLink k { l with record := some r } s
  if l.health = .unconfigured then moveHealth k .disabled .command s else s

/-- LOAD_LINK (R57, R58). -/
def doLoadLink (p : LoadLinkParams) (s : State) : State :=
  let k := p.link.toNat
  if halted s then refuse .badState s
  else if 3 < k then refuse .badParam s
  else if (linkOf s k).health ≠ .unconfigured ∧ (linkOf s k).health ≠ .disabled then refuse .badState s
  else match linkRecOf p with
    | none => refuse .badParam s
    | some r =>
      if running s && ringOverlaps s k r then refuse .overlap s
      else complete .ok [(1, r.retries), (1, r.threshold), (4, r.timeout), (4, r.probation)] [] (loadLink k r s)

/-- LINK_ENABLE (R60). -/
def doLinkEnable (k : Nat) (s : State) : State :=
  if running s = false then refuse .badState s
  else if 3 < k then refuse .badParam s
  else if (linkOf s k).health ≠ .disabled then refuse .badState s
  else
    let s := enableLink k s
    complete .ok [(1, healthCode (linkOf s k).health), (2, (linkOf s k).gen.toNat)] [] s

/-- LINK_RESET (R65). -/
def doLinkReset (k : Nat) (s : State) : State :=
  if running s = false then refuse .badState s
  else if 3 < k then refuse .badParam s
  else if (linkOf s k).health = .unconfigured then refuse .badState s
  else
    let before := (linkOf s k).posted
    let s := resetLink k s
    complete .ok [(2, before), (2, (linkOf s k).gen.toNat)] [] s

/-- LINK_QUALITY (R62). -/
def doLinkQuality (k score : Nat) (s : State) : State :=
  if running s = false then refuse .badState s
  else if 3 < k then refuse .badParam s
  else if (linkOf s k).health = .unconfigured ∨ (linkOf s k).health = .disabled then refuse .badState s
  else
    let q := min 100 score
    let s := evaluateLink k .quality (setLink k { linkOf s k with quality := q } s)
    complete .ok [(1, q), (1, healthCode (linkOf s k).health)] [] s

/-- LINK_FORCE (R71). -/
def doLinkForce (v : Nat) (s : State) : State :=
  if running s = false then refuse .badState s
  else if 3 < v ∧ v ≠ 255 then refuse .badParam s
  else
    let s := selectorEval { s with sup := { s.sup with forced := if v = 255 then none else some v } }
    complete .ok [(1, orNone s.sup.forced), (1, orNone s.sup.active)] [] s

/-! ### The schedule -/

/-- A schedule slot: a link id, or 255 for NONE (12, Encodings). -/
def slotOf (v : Nat) : Option (Option Nat) := if v ≤ 3 then some (some v) else if v = 255 then some none else none

/-- The schedule SET_SCHEDULE gives, where it passes its checks (R93). -/
def scheduleOf (p : SetScheduleParams) : Option Schedule :=
  if 1 ≤ p.count.toNat ∧ p.count.toNat ≤ 32 then
    (((p.slots.toList.take p.count.toNat).map BitVec.toNat).mapM slotOf).map fun l => { slots := l }
  else none

/-- SET_SCHEDULE (R93, R94). -/
def doSetSchedule (p : SetScheduleParams) (s : State) : State :=
  if halted s then refuse .badState s
  else match scheduleOf p with
    | none => refuse .badParam s
    | some sch =>
      if s.sup.mode = .single ∨ s.relay.round = 0 then
        dispatchPass (complete .ok [(1, 1)] [] (installSchedule sch s))
      else complete .ok [(1, 0)] [] { s with relay := { s.relay with staged := some sch } }

/-! ### Tariffs and partners -/

/-- LOAD_TARIFF (R114). -/
def doLoadTariff (p : LoadTariffParams) (s : State) : State :=
  let g := p.region.toNat
  let cls := p.cls.toNat
  if halted s then refuse .badState s
  else if 7 < g ∨ knownClass cls = false then refuse .badParam s
  else
    let t := adoptedTariff p
    let was := (look s.rate.tariffs (tariffKey g cls)).isSome
    let s := loadTariff g cls t s
    complete .ok ([(1, yesNo was), (1, s.rate.loaded)] ++ t.mults.map (fun m => (2, m)) ++
      [(4, t.block), (4, t.upPrice), (4, t.downPrice)]) [] s

/-- The partner state of LOAD_PARTNER: ENABLED 1, BARRED 2. -/
def partnerState : Nat → Option Bool
  | 1 => some true
  | 2 => some false
  | _ => none

/-- LOAD_PARTNER (R169). -/
def doLoadPartner (p : LoadPartnerParams) (s : State) : State :=
  let n := p.partner.toNat
  if halted s then refuse .badState s
  else match partnerState p.state.toNat with
    | none => refuse .badParam s
    | some en =>
      if 63 < n then refuse .badParam s
      else
        let was := (look s.settle.partners n).isSome
        let r : Partner := { enabled := en, mask := p.mask, ceiling := min max48 p.ceiling.toNat }
        let s := recomputeFlag 2 n { s with settle := { s.settle with partners := put s.settle.partners n (some r) } }
        complete .ok [(1, yesNo was), (1, yesNo (look s.settle.admitted n)), (8, r.ceiling)] [] s

/-- SETTLE (R174). -/
def doSettle (s : State) : State := if running s then beginWalk false s else refuse .badState s

/-! ### Accounts -/

/-- The run state and account checks that the five account commands share (R134). -/
def accountCommand (a : Nat) (go : State → State) (s : State) : State :=
  if running s = false then refuse .badState s
  else if s.cfg.accounts ≤ a then refuse .badParam s
  else go s

/-- OPEN_ACCOUNT up to its request for the line (R135 steps 1 and 2). -/
def doOpenAccount (p : OpenAccountParams) (s : State) : State :=
  accountCommand p.account.toNat (fun s =>
    if knownClass p.cls.toNat = false ∨ (p.cls.toNat = clsRoamer ∧ 63 < p.partner.toNat) then refuse .badParam s
    else requestCommandLine p.account.toNat s) s

/-- GRANT up to its request for the line (R137). -/
def doGrant (p : GrantParams) (s : State) : State := accountCommand p.account.toNat (requestCommandLine p.account.toNat) s

/-- SUSPEND up to its request for the line (R140). -/
def doSuspend (a : Nat) (s : State) : State := accountCommand a (requestCommandLine a) s

/-- RESUME up to its request for the line (R141). -/
def doResume (a : Nat) (s : State) : State := accountCommand a (requestCommandLine a) s

/-- CLOSE_ACCOUNT up to its reserved place and its request for the line (R144). Where the place is ready at once, the line
that the command releases is granted to the finisher within the same event (R145, R154). -/
def doCloseAccount (a : Nat) (s : State) : State := accountCommand a (fun s => grantCalled s (closeTakesPlace a s)) s

/-! ### FLUSH -/

/-- Every line then WRITING has its flush mark set (R164). -/
def markWriting (s : State) : State := mapLines (fun l => { l with flushMark := l.flushMark || l.st == .writing }) s

/-- FLUSH (R164). In a run state where lines may be held it waits for the write-backs it marks. -/
def doFlush (s : State) : State :=
  if halted s then refuse .badState s
  else if s.cmd.run = .stopped then complete .ok [(2, 0)] [] s
  else
    let s := markWriting (writeBackAll s)
    serveFlush { s with cache := { s.cache with flush := some (marked s) } }

/-! ### The hand-over -/

/-- A command is handed to the block that owns it (R181). -/
def handCommand (r : Request) (s : State) : State :=
  match r with
  | .configure p => doConfigure p s
  | .start => doStart s
  | .stop => doStop s
  | .loadZone p => doLoadZone p s
  | .position p => doPosition p s
  | .coverageHold => doCoverageHold s
  | .coverageRelease => doCoverageRelease s
  | .loadLink p => doLoadLink p s
  | .linkEnable k => doLinkEnable k.toNat s
  | .linkReset k => doLinkReset k.toNat s
  | .linkQuality k q => doLinkQuality k.toNat q.toNat s
  | .linkForce v => doLinkForce v.toNat s
  | .setSchedule p => doSetSchedule p s
  | .loadTariff p => doLoadTariff p s
  | .openAccount p => doOpenAccount p s
  | .grant p => doGrant p s
  | .suspend a => doSuspend a.toNat s
  | .resume a => doResume a.toNat s
  | .closeAccount a => doCloseAccount a.toNat s
  | .loadPartner p => doLoadPartner p s
  | .settle => doSettle s
  | .flush => doFlush s

/-- The oldest transaction awaited is a fetch under an earlier geometry, which a latch has given up (R178, assumption 14). -/
def staleFetch (s : State) : Bool :=
  match (frontRead s).map OwnRead.use with
  | some (.fetch n) => n != s.cmd.latched
  | _ => false

/-- The command fetch is the oldest transaction awaited, and the engine is free: the record read becomes the command in
progress (R180). `r` is the command its code names, none for a code that names none. -/
def beginJob (r : Option Request) (code : Nat) (notify : Bool) (s : State) : Option State :=
  match (frontRead s).map OwnRead.use, s.cmd.fetching, s.cmd.job with
  | some (.fetch n), some (addr, index, size), none =>
    if n ≠ s.cmd.latched then none
    else
    let s := answered s
    some { s with cmd := { s.cmd with
      fetching := none
      job := some { request := r, code := code, notify := notify, addr := addr, index := index, size := size,
                    done := none } } }
  | _, _, _ => none

/-- The fetch returns with a record that holds this command (R180, R181). What a fetch given up at a latch returns is
dropped. -/
def commandFetched (r : Option Request) (code : Nat) (notify : Bool) (s : State) : State :=
  match beginJob r code notify s with
  | none => if staleFetch s then answered s else s
  | some s' =>
    settleEvent s (match r with
      | some q => handCommand q s'
      | none => refuse .badCode s')

/-- The fetch returns with this record (R180, R193). -/
def recordFetched (record : List Byte) (s : State) : State :=
  commandFetched (requestOf record) (field record 0 1) (field record 1 1 % 2 == 1) s

end Sys2Proof.Machine
end

