-- ==== Sys2Proof/Machine/LineRows.lean ====
section
/-! DEFINITION. The meanings of the rows that come from the part's lines and from the service clock: pin reset, the
navigation line, the carrier lines and the expiries. An expiry that is not due changes nothing. -/

namespace Sys2Proof.Machine


/-- PIN_RESET (R19, R34, R56, R76, R99, R112, R130, R152, R168, R177, R191): every block at its pin reset value, the straps
sampled. The carrier lines are inputs and keep their levels; the queue of commands is not the part's. -/
def execPinReset (sel : BitVec 4) (s : State) : Host.Outcome State Fault Refusal :=
  .next { State.resetWith sel ((List.range 4).map fun k => (k, (linkOf s k).carrierLine)) with pending := s.pending }

/-- NAV_BYTE (R1). -/
def execNavByte (b : Byte) (s : State) : Host.Outcome State Fault Refusal := .next (settleEvent s (navByte b s))

/-- NAV_FRAMING_ERROR (R2). -/
def execNavFramingError (s : State) : Host.Outcome State Fault Refusal := .next (navFramingError s)

/-- FIX_LOSS_EXPIRY (R5). -/
def execFixLossExpiry (s : State) : Host.Outcome State Fault Refusal := .next (fixLossExpiry s)

/-- LINK_CARRIER_CHANGE (R59). -/
def execLinkCarrierChange (k : Fin 4) (high : Bool) (s : State) : Host.Outcome State Fault Refusal :=
  .next (settleEvent s (carrierChange k high s))

/-- LOST_GRACE_EXPIRY (R22). -/
def execLostGraceExpiry (s : State) : Host.Outcome State Fault Refusal := .next (lostGraceExpiry s)

/-- BACKHAUL_LOSS_EXPIRY (R21). -/
def execBackhaulLossExpiry (s : State) : Host.Outcome State Fault Refusal := .next (backhaulLossExpiry s)

/-- WARM_UP_EXPIRY (R24). -/
def execWarmUpExpiry (s : State) : Host.Outcome State Fault Refusal := .next (warmUpExpiry s)

/-- DRAIN_EXPIRY (R26). -/
def execDrainExpiry (s : State) : Host.Outcome State Fault Refusal := .next (drainExpiry s)

/-- DARK_MINIMUM_EXPIRY (R23). -/
def execDarkMinimumExpiry (s : State) : Host.Outcome State Fault Refusal := .next (darkMinimumExpiry s)

/-- PROBATION_EXPIRY of a link (R61). -/
def execProbationExpiry (k : Fin 4) (s : State) : Host.Outcome State Fault Refusal :=
  .next (settleEvent s (probationExpiry k s))

/-- COMPLETION_TIMEOUT_EXPIRY of a link (R63). -/
def execCompletionTimeoutExpiry (k : Fin 4) (s : State) : Host.Outcome State Fault Refusal :=
  .next (settleEvent s (completionTimeoutExpiry k s))

/-- DEFERRED_SWAP_EXPIRY (R69). -/
def execDeferredSwapExpiry (s : State) : Host.Outcome State Fault Refusal :=
  .next (settleEvent s (deferredSwapExpiry s))

/-- HEAD_AGE_EXPIRY (R81): a dispatch pass. -/
def execHeadAgeExpiry (s : State) : Host.Outcome State Fault Refusal :=
  .next (if headAgeDue s then settleEvent s (dispatchPass s) else s)

/-- CLOSE_WAIT_LIMIT_EXPIRY of a place of the finisher list (R146). -/
def execCloseWaitLimitExpiry (place : Nat) (s : State) : Host.Outcome State Fault Refusal :=
  .next (closeWaitExpiry place s)

/-- AGE_EXPIRY of a cache line (R161). -/
def execAgeExpiry (line : Fin 64) (s : State) : Host.Outcome State Fault Refusal := .next (ageExpiry line s)

/-- STOP_POSTED_WAIT_EXPIRY (R97, R75). -/
def execStopPostedWaitExpiry (s : State) : Host.Outcome State Fault Refusal :=
  .next (settleEvent s (postedWaitExpiry s))

end Sys2Proof.Machine
end

