-- ==== Sys2Proof/WellFormed.lean ====
section
/-! DEFINITION. The form of a passing transaction (00_scope, Memory transactions), and of a command that carries one.
Every other operand of a command is well formed by its type. -/

namespace Sys2Proof

/-- An initiator from 0 to 15, 1 to 16 beats, aligned to 16 bytes, inside one 4 KiB block of a 64-bit address space; a
write carries one data byte and one byte-enable per byte, a read none. -/
def Txn.wellFormed (t : Txn) : Bool :=
  decide (t.initiator < 16) && decide (1 ≤ t.beats) && decide (t.beats ≤ 16) && t.addr % 16 == 0 &&
  decide (t.addr % 4096 + 16 * t.beats ≤ 4096) && decide (t.addr < 18446744073709551616) &&
  t.data.length == (if t.write then 16 * t.beats else 0) &&
  t.enables.length == (if t.write then 16 * t.beats else 0)

/-- The transaction a row brings to the upstream port, if it brings one. -/
def Instr.txn : Instr → Option Txn
  | .passingTransaction t | .controlBlockWrite t | .commandRingLatch t | .reportRingLatch t
  | .commandProducerIndexWrite t | .reportConsumerIndexWrite t | .accountTableRead t | .accountTableWrite t
  | .uplinkRingWrite t | .downlinkDescriptor t | .linkRingWrite t | .radioDownlinkRingWrite t => some t
  | _ => none

/-- A command whose operands are of the form the manual gives them. -/
def Instr.wellFormed (i : Instr) : Bool :=
  match i.txn with
  | some t => t.wellFormed
  | none => true

end Sys2Proof
end

