-- ==== Sys2Proof/Machine/PortRows.lean ====
section
/-! DEFINITION. The meanings of the rows at the two memory ports and of the rows inside the part. The rows that bring a
passing transaction are one event at the port, and the Path Monitor classifies it by the bytes it touches (R38): a row's
name says which region's rule it is about. A row whose condition does not hold changes nothing. -/

namespace Sys2Proof.Machine

/-- A transaction of the transaction form is taken by the port; any other is not a transaction (00_scope, Memory
transactions). -/
def atPort (t : Txn) (s : State) : Host.Outcome State Fault Refusal :=
  if t.wellFormed then .next (arrive t s) else .refused .malformedTransaction

/-- PASSING_TRANSACTION (R35). -/
def execPassingTransaction (t : Txn) (s : State) : Host.Outcome State Fault Refusal := atPort t s

/-- CONTROL_BLOCK_WRITE (R41). -/
def execControlBlockWrite (t : Txn) (s : State) : Host.Outcome State Fault Refusal := atPort t s

/-- COMMAND_RING_LATCH (R41, R178). -/
def execCommandRingLatch (t : Txn) (s : State) : Host.Outcome State Fault Refusal := atPort t s

/-- REPORT_RING_LATCH (R41, R184). -/
def execReportRingLatch (t : Txn) (s : State) : Host.Outcome State Fault Refusal := atPort t s

/-- COMMAND_PRODUCER_INDEX_WRITE (R41, R179). -/
def execCommandProducerIndexWrite (t : Txn) (s : State) : Host.Outcome State Fault Refusal := atPort t s

/-- REPORT_CONSUMER_INDEX_WRITE (R41, R184). -/
def execReportConsumerIndexWrite (t : Txn) (s : State) : Host.Outcome State Fault Refusal := atPort t s

/-- ACCOUNT_TABLE_READ (R42, R162). -/
def execAccountTableRead (t : Txn) (s : State) : Host.Outcome State Fault Refusal := atPort t s

/-- ACCOUNT_TABLE_WRITE (R42). -/
def execAccountTableWrite (t : Txn) (s : State) : Host.Outcome State Fault Refusal := atPort t s

/-- UPLINK_RING_WRITE (R43, R77). -/
def execUplinkRingWrite (t : Txn) (s : State) : Host.Outcome State Fault Refusal := atPort t s

/-- DOWNLINK_DESCRIPTOR (R44, R104). -/
def execDownlinkDescriptor (t : Txn) (s : State) : Host.Outcome State Fault Refusal := atPort t s

/-- LINK_RING_WRITE (R45, R86). -/
def execLinkRingWrite (t : Txn) (s : State) : Host.Outcome State Fault Refusal := atPort t s

/-- RADIO_DOWNLINK_RING_WRITE (R44). -/
def execRadioDownlinkRingWrite (t : Txn) (s : State) : Host.Outcome State Fault Refusal := atPort t s

/-- HOLD_RELEASE (R46). -/
def execHoldRelease (s : State) : Host.Outcome State Fault Refusal := .next (portEvent s s)

/-- ARBITER_ISSUE (R50). -/
def execArbiterIssue (s : State) : Host.Outcome State Fault Refusal := .next (arbiterIssue s)

/-- OWN_WRITE_ENTERS_QUEUE (R47). -/
def execOwnWriteEntersQueue (s : State) : Host.Outcome State Fault Refusal := .next (ownWriteEnters s)

/-- PASSING_RESPONSE (R35, R42, R51): the response to the passing transaction at the front of those in flight. -/
def execPassingResponse (ok : Bool) (data : List Byte) (s : State) : Host.Outcome State Fault Refusal :=
  match heard s with
  | .passing p :: _ => if lengthOk p ok data then .next (passResponse p ok data s) else .fault .responseLength
  | _ => .next s

/-- OWN_TRANSACTION_ERROR (R52). -/
def execOwnTransactionError (ahead : Nat) (s : State) : Host.Outcome State Fault Refusal := .next (ownError ahead s)

/-- TAKE_READ_DONE (R79). -/
def execTakeReadDone (data : Vector Byte 16) (s : State) : Host.Outcome State Fault Refusal :=
  .next (takeReadDone data.toList s)

/-- FILL_DONE (R159). -/
def execFillDone (data : Vector Byte 64) (s : State) : Host.Outcome State Fault Refusal := .next (fillDone data.toList s)

/-- WRITE_BACK_DONE (R160). -/
def execWriteBackDone (s : State) : Host.Outcome State Fault Refusal := .next (writeBackDone s)

/-- LINE_GRANT of a cache line (R154). -/
def execLineGrant (line : Fin 64) (s : State) : Host.Outcome State Fault Refusal := .next (lineGrant line s)

/-- WAITING_EVENT_RELEASE (R109). -/
def execWaitingEventRelease (s : State) : Host.Outcome State Fault Refusal := .next (releaseWaiting s)

/-- COMMAND_FETCH_DONE (R180). -/
def execCommandFetchDone (record : Vector Byte 128) (s : State) : Host.Outcome State Fault Refusal :=
  .next (recordFetched record.toList s)

/-- REPORT_CONSUMER_READ_DONE (R184). -/
def execReportConsumerReadDone (data : Vector Byte 16) (s : State) : Host.Outcome State Fault Refusal :=
  .next (consumerReadDone data.toList s)

/-- BILLING_REPORT_PLACED (R185). -/
def execBillingReportPlaced (s : State) : Host.Outcome State Fault Refusal := .next (settleEvent s (placeWaiters s))

/-- STOP_STEP_ADVANCE (R188). -/
def execStopStepAdvance (s : State) : Host.Outcome State Fault Refusal := .next (settleEvent s (stopAdvance s))

/-- STOP_HALTED_CLEAR (R190). -/
def execStopHaltedClear (s : State) : Host.Outcome State Fault Refusal := .next (settleEvent s (clearHalted s))

end Sys2Proof.Machine
end

