-- ==== Sys2Proof/Machine/CommandRows.lean ====
section
/-! DEFINITION. The meanings of the rows that are commands of the command ring: the command fetch returns with a record
that holds the command, which is handed to its block (R180, R181; assumption 10). Where no command fetch is the oldest
transaction awaited, or a command is in progress, such a record cannot come, and nothing changes. -/

namespace Sys2Proof.Machine

/-- The record fetched holds this command. -/
def ringCommand (r : Request) (notify : Bool) (s : State) : Host.Outcome State Fault Refusal :=
  .next (commandFetched (some r) (requestCode r) notify s)

/-- CONFIGURE (R183). -/
def execConfigure (notify : Bool) (p : ConfigureParams) (s : State) : Host.Outcome State Fault Refusal :=
  ringCommand (.configure p) notify s

/-- START (R187). -/
def execStart (notify : Bool) (s : State) : Host.Outcome State Fault Refusal := ringCommand .start notify s

/-- STOP (R188, R190). -/
def execStop (notify : Bool) (s : State) : Host.Outcome State Fault Refusal := ringCommand .stop notify s

/-- LOAD_ZONE (R8 to R10). -/
def execLoadZone (notify : Bool) (p : LoadZoneParams) (s : State) : Host.Outcome State Fault Refusal :=
  ringCommand (.loadZone p) notify s

/-- POSITION (R7). -/
def execPosition (notify : Bool) (p : PositionParams) (s : State) : Host.Outcome State Fault Refusal :=
  ringCommand (.position p) notify s

/-- COVERAGE_HOLD (R31). -/
def execCoverageHold (notify : Bool) (s : State) : Host.Outcome State Fault Refusal :=
  ringCommand .coverageHold notify s

/-- COVERAGE_RELEASE (R31). -/
def execCoverageRelease (notify : Bool) (s : State) : Host.Outcome State Fault Refusal :=
  ringCommand .coverageRelease notify s

/-- LOAD_LINK (R57, R58). -/
def execLoadLink (notify : Bool) (p : LoadLinkParams) (s : State) : Host.Outcome State Fault Refusal :=
  ringCommand (.loadLink p) notify s

/-- LINK_ENABLE (R60). -/
def execLinkEnable (notify : Bool) (link : BitVec 8) (s : State) : Host.Outcome State Fault Refusal :=
  ringCommand (.linkEnable link) notify s

/-- LINK_RESET (R65, R90). -/
def execLinkReset (notify : Bool) (link : BitVec 8) (s : State) : Host.Outcome State Fault Refusal :=
  ringCommand (.linkReset link) notify s

/-- LINK_QUALITY (R62). -/
def execLinkQuality (notify : Bool) (link score : BitVec 8) (s : State) : Host.Outcome State Fault Refusal :=
  ringCommand (.linkQuality link score) notify s

/-- LINK_FORCE (R71). -/
def execLinkForce (notify : Bool) (link : BitVec 8) (s : State) : Host.Outcome State Fault Refusal :=
  ringCommand (.linkForce link) notify s

/-- SET_SCHEDULE (R93, R94). -/
def execSetSchedule (notify : Bool) (p : SetScheduleParams) (s : State) : Host.Outcome State Fault Refusal :=
  ringCommand (.setSchedule p) notify s

/-- LOAD_TARIFF (R114). -/
def execLoadTariff (notify : Bool) (p : LoadTariffParams) (s : State) : Host.Outcome State Fault Refusal :=
  ringCommand (.loadTariff p) notify s

/-- OPEN_ACCOUNT (R135, R136). -/
def execOpenAccount (notify : Bool) (p : OpenAccountParams) (s : State) : Host.Outcome State Fault Refusal :=
  ringCommand (.openAccount p) notify s

/-- GRANT (R137, R138). -/
def execGrant (notify : Bool) (p : GrantParams) (s : State) : Host.Outcome State Fault Refusal :=
  ringCommand (.grant p) notify s

/-- SUSPEND (R140). -/
def execSuspend (notify : Bool) (account : BitVec 16) (s : State) : Host.Outcome State Fault Refusal :=
  ringCommand (.suspend account) notify s

/-- RESUME (R141). -/
def execResume (notify : Bool) (account : BitVec 16) (s : State) : Host.Outcome State Fault Refusal :=
  ringCommand (.resume account) notify s

/-- CLOSE_ACCOUNT (R144). -/
def execCloseAccount (notify : Bool) (account : BitVec 16) (s : State) : Host.Outcome State Fault Refusal :=
  ringCommand (.closeAccount account) notify s

/-- LOAD_PARTNER (R169). -/
def execLoadPartner (notify : Bool) (p : LoadPartnerParams) (s : State) : Host.Outcome State Fault Refusal :=
  ringCommand (.loadPartner p) notify s

/-- SETTLE (R174). -/
def execSettle (notify : Bool) (s : State) : Host.Outcome State Fault Refusal := ringCommand .settle notify s

/-- FLUSH (R164). -/
def execFlush (notify : Bool) (s : State) : Host.Outcome State Fault Refusal := ringCommand .flush notify s

end Sys2Proof.Machine
end

