-- ==== Sys2Proof/Machine/Dispatch.lean ====
section
/-! DEFINITION. One arm per row of spec/opcode_table.json. -/

namespace Sys2Proof.Machine

def exec (i : Instr) (s : State) : Host.Outcome State Fault Refusal :=
  match i with
  | .pinReset sel => Sys2Proof.Machine.execPinReset sel s
  | .navByte b => Sys2Proof.Machine.execNavByte b s
  | .navFramingError => Sys2Proof.Machine.execNavFramingError s
  | .fixLossExpiry => Sys2Proof.Machine.execFixLossExpiry s
  | .linkCarrierChange k high => Sys2Proof.Machine.execLinkCarrierChange k high s
  | .lostGraceExpiry => Sys2Proof.Machine.execLostGraceExpiry s
  | .backhaulLossExpiry => Sys2Proof.Machine.execBackhaulLossExpiry s
  | .warmUpExpiry => Sys2Proof.Machine.execWarmUpExpiry s
  | .drainExpiry => Sys2Proof.Machine.execDrainExpiry s
  | .darkMinimumExpiry => Sys2Proof.Machine.execDarkMinimumExpiry s
  | .probationExpiry k => Sys2Proof.Machine.execProbationExpiry k s
  | .completionTimeoutExpiry k => Sys2Proof.Machine.execCompletionTimeoutExpiry k s
  | .deferredSwapExpiry => Sys2Proof.Machine.execDeferredSwapExpiry s
  | .headAgeExpiry => Sys2Proof.Machine.execHeadAgeExpiry s
  | .closeWaitLimitExpiry place => Sys2Proof.Machine.execCloseWaitLimitExpiry place s
  | .ageExpiry line => Sys2Proof.Machine.execAgeExpiry line s
  | .stopPostedWaitExpiry => Sys2Proof.Machine.execStopPostedWaitExpiry s
  | .passingTransaction t => Sys2Proof.Machine.execPassingTransaction t s
  | .controlBlockWrite t => Sys2Proof.Machine.execControlBlockWrite t s
  | .commandRingLatch t => Sys2Proof.Machine.execCommandRingLatch t s
  | .reportRingLatch t => Sys2Proof.Machine.execReportRingLatch t s
  | .commandProducerIndexWrite t => Sys2Proof.Machine.execCommandProducerIndexWrite t s
  | .reportConsumerIndexWrite t => Sys2Proof.Machine.execReportConsumerIndexWrite t s
  | .accountTableRead t => Sys2Proof.Machine.execAccountTableRead t s
  | .accountTableWrite t => Sys2Proof.Machine.execAccountTableWrite t s
  | .uplinkRingWrite t => Sys2Proof.Machine.execUplinkRingWrite t s
  | .downlinkDescriptor t => Sys2Proof.Machine.execDownlinkDescriptor t s
  | .linkRingWrite t => Sys2Proof.Machine.execLinkRingWrite t s
  | .holdRelease => Sys2Proof.Machine.execHoldRelease s
  | .arbiterIssue => Sys2Proof.Machine.execArbiterIssue s
  | .ownWriteEntersQueue => Sys2Proof.Machine.execOwnWriteEntersQueue s
  | .passingResponse ok data => Sys2Proof.Machine.execPassingResponse ok data s
  | .ownTransactionError ahead => Sys2Proof.Machine.execOwnTransactionError ahead s
  | .takeReadDone data => Sys2Proof.Machine.execTakeReadDone data s
  | .fillDone data => Sys2Proof.Machine.execFillDone data s
  | .writeBackDone => Sys2Proof.Machine.execWriteBackDone s
  | .lineGrant line => Sys2Proof.Machine.execLineGrant line s
  | .waitingEventRelease => Sys2Proof.Machine.execWaitingEventRelease s
  | .commandFetchDone record => Sys2Proof.Machine.execCommandFetchDone record s
  | .reportConsumerReadDone data => Sys2Proof.Machine.execReportConsumerReadDone data s
  | .billingReportPlaced => Sys2Proof.Machine.execBillingReportPlaced s
  | .stopStepAdvance => Sys2Proof.Machine.execStopStepAdvance s
  | .stopHaltedClear => Sys2Proof.Machine.execStopHaltedClear s
  | .configure notify p => Sys2Proof.Machine.execConfigure notify p s
  | .start notify => Sys2Proof.Machine.execStart notify s
  | .stop notify => Sys2Proof.Machine.execStop notify s
  | .loadZone notify p => Sys2Proof.Machine.execLoadZone notify p s
  | .position notify p => Sys2Proof.Machine.execPosition notify p s
  | .coverageHold notify => Sys2Proof.Machine.execCoverageHold notify s
  | .coverageRelease notify => Sys2Proof.Machine.execCoverageRelease notify s
  | .loadLink notify p => Sys2Proof.Machine.execLoadLink notify p s
  | .linkEnable notify link => Sys2Proof.Machine.execLinkEnable notify link s
  | .linkReset notify link => Sys2Proof.Machine.execLinkReset notify link s
  | .linkQuality notify link score => Sys2Proof.Machine.execLinkQuality notify link score s
  | .linkForce notify link => Sys2Proof.Machine.execLinkForce notify link s
  | .setSchedule notify p => Sys2Proof.Machine.execSetSchedule notify p s
  | .loadTariff notify p => Sys2Proof.Machine.execLoadTariff notify p s
  | .openAccount notify p => Sys2Proof.Machine.execOpenAccount notify p s
  | .grant notify p => Sys2Proof.Machine.execGrant notify p s
  | .suspend notify account => Sys2Proof.Machine.execSuspend notify account s
  | .resume notify account => Sys2Proof.Machine.execResume notify account s
  | .closeAccount notify account => Sys2Proof.Machine.execCloseAccount notify account s
  | .loadPartner notify p => Sys2Proof.Machine.execLoadPartner notify p s
  | .settle notify => Sys2Proof.Machine.execSettle notify s
  | .flush notify => Sys2Proof.Machine.execFlush notify s
  | .radioDownlinkRingWrite t => Sys2Proof.Machine.execRadioDownlinkRingWrite t s

end Sys2Proof.Machine
end

