-- ==== Sys2Proof/Machine/Clock.lean ====
section
/-! DEFINITION. What the part does of itself when no command waits (assumption 9): the first of its own rows that is due, the OK
of an own write that no block waits for, or a tick of the service clock. -/

namespace Sys2Proof.Machine

/-- One millisecond of the service clock, which wraps (00_scope, The service clock). -/
def tick (s : State) : State := { s with clock := s.clock + 1 }

/-- The head of the upstream port can move on (R46). -/
def headDue (s : State) : Bool :=
  match s.path.head with
  | some h => headReady h &&
      (h.spent || whollyAnswered h.txn (lineRecords s h) || !overlapsOwn s h.txn)
  | none => !s.path.upstream.isEmpty

/-- A billing report that waits can be placed (R185). -/
def billingDue (s : State) : Bool := !s.rep.waiters.isEmpty && repRoom s

/-- The arbiter has something to issue (R50). -/
def issueDue (s : State) : Bool := !s.path.stream.isEmpty || (ownOffer s).isSome

/-- A lost grace or backhaul loss expiry would act (R24, R25). -/
def coverActs (s : State) : Bool := s.cov.st == .opening || s.cov.st == .serving

/-- The first of these rows whose condition holds. -/
def firstDue (l : List (Bool × Instr)) : Option Instr := (l.find? Prod.fst).map Prod.snd

/-- The rows that take no time. The waiting event is dealt with before any grant (R109, R124). -/
def innerRow (s : State) : Option Instr :=
  if waitingDue s then some .waitingEventRelease
  else match (List.finRange 64).find? fun i : Fin 64 => grantDue (lineOf s i) with
  | some i => some (.lineGrant i)
  | none => firstDue
      [(headDue s, .holdRelease), (entryDue s, .ownWriteEntersQueue),
       (billingDue s, .billingReportPlaced), (stopAdvanceDue s, .stopStepAdvance), (haltedClearDue s, .stopHaltedClear),
       (issueDue s, .arbiterIssue)]

/-- The expiries of single timers. -/
def timerRow (s : State) : Option Instr := firstDue
  [(fixLossDue s, .fixLossExpiry), (lostGraceDue s && coverActs s, .lostGraceExpiry),
   (backhaulLossDue s && coverActs s, .backhaulLossExpiry), (warmUpDue s && openingStands s, .warmUpExpiry),
   (drainDue s, .drainExpiry), (openingTestPasses s, .darkMinimumExpiry), (deferredSwapDue s, .deferredSwapExpiry),
   (headAgeDue s, .headAgeExpiry), (postedWaitDue s, .stopPostedWaitExpiry)]

/-- The expiries of numbered timers. -/
def numberedRow (s : State) : Option Instr :=
  (((List.finRange 4).find? fun k : Fin 4 => probationDue s k).map Instr.probationExpiry).or
  ((((List.finRange 4).find? fun k : Fin 4 => completionTimeoutDue s k).map Instr.completionTimeoutExpiry).or
  ((((List.range s.acct.places.length).find? (closeWaitDue s)).map Instr.closeWaitLimitExpiry).or
   (((List.finRange 64).find? fun i : Fin 64 => ageDue s i).map Instr.ageExpiry)))

/-- The part's own row that is due first, if one is due. -/
def ownRow (s : State) : Option Instr := (innerRow s).or ((timerRow s).or (numberedRow s))

/-- The own write at the front of those in flight, for whose OK no block waits, is answered OK: the table has no row for
that response (assumption 6). -/
def silentAnswer (s : State) : Option State :=
  match s.path.inFlight with
  | f :: rest => if silent f then some { s with path := { s.path with inFlight := rest } } else none
  | [] => none

/-- What happens while no command waits: a row of the part's own, else an own write's OK, else a tick. -/
def idle (s : State) : Host.Outcome State Fault Refusal :=
  match ownRow s with
  | some i => exec i s
  | none => .next ((silentAnswer s).getD (tick s))

end Sys2Proof.Machine
end

