-- ==== Sys2Proof/Safety.lean ====
section
/-! DEFINITION. The terms that the statements use: the laws that every step keeps, which parts of the machine a row leaves
alone, and how an own write, a completion and a command fetch are recognised in a state. -/

namespace Sys2Proof.Machine

/-! ### Laws of every state -/

/-- The RF law: the cells radiate only while the run state is RUNNING (R29). -/
def rfLaw (s : State) : Bool := s.cov.st == .dark || s.cmd.run == .running

/-- The capacities the manual gives: the own-write queue (R47), the usage queue (R108), the passing run count (R50), the
discard count (R4) and the dropped count (R185). -/
def bounded (s : State) : Bool :=
  decide (s.path.queue.length ≤ 16) && decide (s.gate.queue.length ≤ 128) && decide (s.path.runCount ≤ 8) &&
    decide (s.pos.discards ≤ 65535) && decide (s.rep.dropped ≤ 255)

/-- Every sparse table is in its one canonical form, so that equal contents are equal data. -/
def tablesWf (s : State) : Bool :=
  tabWf s.pos.zones && tabWf s.sup.links && tabWf s.relay.ready && tabWf s.relay.held && tabWf s.relay.table &&
    tabWf s.gate.map && tabWf s.rate.tariffs && tabWf s.cache.lines && tabWf s.settle.partners &&
    tabWf s.settle.admitted && tabWf s.settle.accums

/-! ### Parts of the machine -/

/-- The blocks of the machine, with its clock and the settings that CONFIGURE gives. -/
inductive Part where
  | clock | settings | position | coverage | path | links | relay | capture | rating | accounts | cache | settlement
  | engine | reports
  deriving DecidableEq, Repr

/-- A part is the same in two states. -/
def Part.same (p : Part) (s t : State) : Prop :=
  match p with
  | .clock => t.clock = s.clock
  | .settings => t.cfg = s.cfg
  | .position => t.pos = s.pos
  | .coverage => t.cov = s.cov
  | .path => t.path = s.path
  | .links => t.sup = s.sup
  | .relay => t.relay = s.relay
  | .capture => t.gate = s.gate
  | .rating => t.rate = s.rate
  | .accounts => t.acct = s.acct
  | .cache => t.cache = s.cache
  | .settlement => t.settle = s.settle
  | .engine => t.cmd = s.cmd
  | .reports => t.rep = s.rep

/-- These parts, and the queue of waiting commands, are the same in two states. -/
def keeps (l : List Part) (s t : State) : Prop := t.pending = s.pending ∧ ∀ p ∈ l, p.same s t

/-- The parts that a row leaves alone, whatever the state. -/
def keptBy : Instr → List Part
  | .pinReset _ => []
  | .navByte _ => [.clock, .settings, .capture, .rating]
  | .navFramingError => [.clock, .settings, .coverage, .path, .links, .relay, .capture, .rating, .accounts, .cache,
      .settlement, .engine, .reports]
  | .fixLossExpiry => [.clock, .settings, .links, .relay, .capture, .rating, .accounts, .cache, .settlement, .engine]
  | .lostGraceExpiry | .backhaulLossExpiry | .warmUpExpiry | .drainExpiry | .darkMinimumExpiry =>
      [.clock, .settings, .position, .links, .relay, .capture, .rating, .accounts, .cache, .settlement, .engine]
  | .linkCarrierChange _ _ | .probationExpiry _ | .completionTimeoutExpiry _ | .deferredSwapExpiry =>
      [.clock, .settings, .position, .capture, .rating, .settlement]
  | .headAgeExpiry => [.clock, .settings, .position, .coverage, .capture, .rating, .settlement, .reports]
  | .closeWaitLimitExpiry _ =>
      [.clock, .settings, .position, .coverage, .links, .capture, .rating, .settlement, .engine, .reports]
  | .ageExpiry _ => [.clock, .settings, .position, .coverage, .links, .relay, .capture, .rating, .accounts, .settlement,
      .engine, .reports]
  | .stopPostedWaitExpiry | .stopStepAdvance => [.clock, .settings, .position, .capture, .rating]
  | .arbiterIssue => [.clock, .settings, .position, .coverage, .links, .relay, .capture, .rating, .accounts, .cache,
      .settlement, .engine]
  | .ownWriteEntersQueue | .takeReadDone _ | .writeBackDone =>
      [.clock, .settings, .position, .coverage, .capture, .rating, .settlement]
  | .passingResponse _ _ => [.clock, .settings, .position, .coverage, .links, .relay, .capture, .rating, .accounts,
      .cache, .settlement, .engine, .reports]
  | .ownTransactionError _ => [.clock, .settings, .position, .links, .relay]
  | .stopHaltedClear => [.clock, .settings, .position, .settlement]
  | .commandFetchDone _ => [.clock]
  | .configure _ _ => [.clock, .capture, .rating, .settlement]
  | .start _ => [.clock, .settings, .position, .coverage, .rating, .settlement]
  | .stop _ => [.clock, .settings, .position, .capture, .rating]
  | .loadZone _ _ | .position _ _ => [.clock, .settings, .capture, .rating]
  | .coverageHold _ | .coverageRelease _ | .loadLink _ _ | .linkEnable _ _ | .linkReset _ _ | .linkQuality _ _ _
  | .linkForce _ _ => [.clock, .settings, .position, .capture, .rating, .settlement]
  | .setSchedule _ _ | .flush _ => [.clock, .settings, .position, .coverage, .capture, .rating, .settlement]
  | .loadTariff _ _ => [.clock, .settings, .position, .coverage, .capture, .settlement]
  | .loadPartner _ _ | .settle _ => [.clock, .settings, .position, .coverage, .capture, .rating]
  | .openAccount _ _ | .grant _ _ | .suspend _ _ | .resume _ _ =>
      [.clock, .settings, .position, .coverage, .rating, .settlement]
  | .passingTransaction _ | .controlBlockWrite _ | .commandRingLatch _ | .reportRingLatch _
  | .commandProducerIndexWrite _ | .reportConsumerIndexWrite _ | .accountTableRead _ | .accountTableWrite _
  | .uplinkRingWrite _ | .downlinkDescriptor _ | .linkRingWrite _ | .radioDownlinkRingWrite _ | .holdRelease
  | .closeAccount _ _ | .fillDone _ | .lineGrant _ | .waitingEventRelease | .reportConsumerReadDone _ | .billingReportPlaced =>
      [.clock, .settings, .position]

/-! ### Own writes and completions -/

/-- An own write has been placed: it is queued or waits for room, whatever its place in the order (R47). -/
def placed (s : State) (w : OwnWrite) : Prop :=
  ∃ v ∈ s.path.queue ++ s.path.waiting, { v with seq := w.seq, resume := w.resume } = w

/-- An own read has been issued: it waits for the arbiter, whatever its place in the order (R47). -/
def issued (s : State) (b : Block) (addr beats : Nat) (use : ReadUse) : Prop :=
  ∃ r ∈ s.path.reads, { r with seq := 0 } = { block := b, addr := addr, beats := beats, use := use, seq := 0 }

/-- The producer word is on its way with this value: its write is placed, or the Report Writer holds it pending (R185). -/
def wordOwed (s : State) (v : Nat) : Prop :=
  (∃ p ∈ s.rep.pend, p.wordAddr = producerAddr s ∧ p.value = v) ∨
    placed s (fieldWrite .reportWriter (producerAddr s / 16 * 16) [(producerAddr s % 16, 4, v)] (.producerWord v))

/-- A report is on its way to its slot at `addr`, with the producer value `v` behind it: the Report Writer holds both
pending, or the report's own write is placed and the word is pending or placed (R185). -/
def reportOwed (s : State) (addr : Nat) (bytes : List Byte) (v : Nat) : Prop :=
  (∃ p ∈ s.rep.pend, p.record = some (addr, bytes) ∧ p.recordIn = false ∧ p.wordAddr = producerAddr s ∧ p.value = v) ∨
    (placed s (fullWrite .reportWriter addr bytes .reportRecord) ∧ wordOwed s v)

/-- A report placed in state `s` takes the slot at the producer position, with the dropped count as it stands there, and the
producer position after it (R185). -/
def placedReport (s t : State) (r : Report) : Prop :=
  ∀ base size, repRing s = some (base, size) →
    reportOwed t (base + 64 * s.rep.producer) (reportBytes r s.rep.dropped) ((s.rep.producer + 1) % size)

/-- The status write of a completion: the status byte and the done byte (R182). -/
def statusWrite (addr : Nat) (st : Status) : OwnWrite :=
  fieldWrite .commandEngine addr [(2, 1, statusCode st), (3, 1, 1)] .status

/-- The command whose record is at `addr` has completed: its results are placed, and its status write is placed too or
waits, with the command in progress, until the results have entered the queue (R182). -/
def completed (t : State) (addr : Nat) (d : Completion) : Prop :=
  placed t (resultsWrite addr d) ∧
    (placed t (statusWrite addr d.status) ∨ ∃ j, t.cmd.job = some j ∧ j.addr = addr ∧ j.done = some d)

/-- A completion at time `now` with these results, each a (size, value) in order, and nothing rewritten. -/
def completion (st : Status) (vals : List (Nat × Nat)) (now : Time) : Completion :=
  { status := st, results := resultBytes vals, rewrites := [], time := now }

/-- The oldest transaction awaited is the fetch of the command record at `addr`, and the Command Engine is free for it
(R180). -/
def fetchReturns (s : State) (addr index size : Nat) : Prop :=
  (frontRead s).map OwnRead.use = some (.fetch s.cmd.latched) ∧ s.cmd.fetching = some (addr, index, size) ∧ s.cmd.job = none

/-- The row of a command of the ring, with its NOTIFY mark. -/
def ringRow (notify : Bool) : Request → Instr
  | .configure p => .configure notify p
  | .start => .start notify
  | .stop => .stop notify
  | .loadZone p => .loadZone notify p
  | .position p => .position notify p
  | .coverageHold => .coverageHold notify
  | .coverageRelease => .coverageRelease notify
  | .loadLink p => .loadLink notify p
  | .linkEnable k => .linkEnable notify k
  | .linkReset k => .linkReset notify k
  | .linkQuality k q => .linkQuality notify k q
  | .linkForce k => .linkForce notify k
  | .setSchedule p => .setSchedule notify p
  | .loadTariff p => .loadTariff notify p
  | .openAccount p => .openAccount notify p
  | .grant p => .grant notify p
  | .suspend a => .suspend notify a
  | .resume a => .resume notify a
  | .closeAccount a => .closeAccount notify a
  | .loadPartner p => .loadPartner notify p
  | .settle => .settle notify
  | .flush => .flush notify

/-! ### The upstream port -/

/-- The upstream port is free: nothing at its head and nothing behind it (R35). -/
def portFree (s : State) : Prop := s.path.head = none ∧ s.path.upstream = []

/-- A present region shares a byte with the transaction. -/
def touches (s : State) (t : Txn) (g : RegionKind) : Bool :=
  match regionOf s g with
  | some r => shareByte (rangeOf t) r
  | none => false

/-- The transaction touches region `g` and no other present region. -/
def touchesOnly (s : State) (t : Txn) (g : RegionKind) : Prop :=
  touches s t g = true ∧ ∀ h ∈ allRegions, h ≠ g → touches s t h = false

/-- A transaction joins the passing stream with its response owed, and the head is free again (R35). -/
def joinsStream (s t : State) (p : Passing) : Prop :=
  t.path.head = none ∧ t.path.stream = s.path.stream ++ [p] ∧
    t.path.owed = s.path.owed ++ [{ initiator := p.txn.initiator, answer := none }]

/-! ### Links -/

/-- The health a link has after an evaluation (R61): a fit link in DOWN begins probation, which a probation time of 0 ends
at once, and a link in PROBATION or UP that is not fit goes DOWN. -/
def judgedHealth (l : Link) : Health :=
  match l.health, fit l with
  | .down, true => if (l.record.map LinkRec.probation).getD 0 = 0 then .up else .probation
  | .probation, false => .down
  | .up, false => .down
  | h, _ => h

/-- The loaded record, the line, the score and the ring generation of a link are the same. -/
def sameFace (l m : Link) : Prop :=
  m.record = l.record ∧ m.carrierLine = l.carrierLine ∧ m.quality = l.quality ∧ m.gen = l.gen

/-- The links other than `k` keep their health and their face. -/
def othersKept (k : Nat) (s t : State) : Prop :=
  ∀ j, j ≠ k → (linkOf t j).health = (linkOf s j).health ∧ sameFace (linkOf s j) (linkOf t j)

/-- The oldest post time of link `k` once entry `e` has left its count (R63, R87 step 1). -/
def oldestBut (s : State) (k e : Nat) : Option Time :=
  (byPost ((postedOn s k).filter fun p => p.1 ≠ e)).head?.map fun p => p.2.postTime

/-- The posted count and the oldest post time of link `k` are those it has once entry `e` has left its count; an entry that a
release took off the count lowers nothing (R87 step 1, R88). -/
def leavesCount (s t : State) (k e : Nat) : Prop :=
  (linkOf t k).posted = (if (entryOf s e).offCount then (linkOf s k).posted else (linkOf s k).posted - 1) ∧
    (linkOf t k).oldest = (if (entryOf s e).offCount then (linkOf s k).oldest else oldestBut s k e)

/-! ### Accounts -/

/-- The gate map is that of `s`, with the gate of account `a` CLOSED. -/
def gateShut (s t : State) (a : Nat) : Prop :=
  ∀ b, look t.gate.map b = if b = a then { look s.gate.map b with opened := false } else look s.gate.map b

/-- The close round-up of a record at the current region (R126, R127): the record after it and the closing charge. -/
def closing (s : State) (r : AcctRec) : AcctRec × Nat := roundUp (tariffFor s (currentRegion s) r.cls) r

/-- No place of the list `l` is ready with this usage queue (R145). -/
def noneReady (s : State) (l : List Place) (q : List UsageEvent) : Prop :=
  firstReady { s with acct := { s.acct with places := l }, gate := { s.gate with queue := q } } = none

/-- The record the START scan leaves of the one it found, before any finish (R149). -/
def repaired (r : AcctRec) : AcctRec := (scanRepair r).elim r fun f => f.2.2

/-- The counts of the START scan after a record: scanned, and repaired where it was repaired (R149). -/
def scanCounted (c : Scan) (r : AcctRec) : Scan :=
  { c with scanned := c.scanned + 1, repaired := c.repaired + (if (scanRepair r).isSome then 1 else 0) }

/-! ### Refusals -/

/-- The run states in which a command is refused with BAD_STATE (11, Commands by run state). In STARTING and STOPPING the
Command Engine is busy and no record is fetched. -/
def refusedIn (r : Request) (run : RunState) : Bool :=
  match r, run with
  | .stop, .stopped => true
  | .stop, _ => false
  | _, .halted => true
  | .configure _, .running => true
  | .start, .running => true
  | .linkEnable _, .stopped => true
  | .linkReset _, .stopped => true
  | .linkQuality _ _, .stopped => true
  | .linkForce _, .stopped => true
  | .openAccount _, .stopped => true
  | .grant _, .stopped => true
  | .suspend _, .stopped => true
  | .resume _, .stopped => true
  | .closeAccount _, .stopped => true
  | .settle, .stopped => true
  | _, _ => false

/-- The parts that a refusal leaves alone: all but own traffic, the Command Engine and the Report Writer. -/
def notEngine : List Part :=
  [.clock, .settings, .position, .coverage, .links, .relay, .capture, .rating, .accounts, .cache, .settlement]

/-! ### Zones -/

/-- Where the zone tracker stands: current zone, pending zone, pending-since and the re-zone flag. -/
structure Tracker where
  current : Option Nat
  pending : Option Nat
  since : Time
  rezone : Bool
  deriving DecidableEq, Repr

def trackerOf (s : State) : Tracker :=
  { current := s.pos.current, pending := s.pos.pendingZone, since := s.pos.pendingSince, rezone := s.pos.rezone }

/-- The entry dwell of a loaded zone. -/
def dwellOf (s : State) (z : Nat) : Nat := ((look s.pos.zones z).map Zone.dwell).getD 0

/-- Where a usable fix whose candidate is `c` moves the tracker (R12, R13). -/
def trackerAfter (s : State) (c : Option Nat) : Tracker :=
  let k := trackerOf s
  match k.current, c with
  | none, _ => k
  | some _, none => { k with pending := none }
  | some cur, some z =>
    if k.rezone then { k with current := some z, pending := none, rezone := false }
    else if z = cur then { k with pending := none }
    else
      let since := if k.pending = some z then k.since else s.clock
      if dwellOf s z ≤ elapsed s since then { k with current := some z, pending := none, since := since }
      else { k with pending := some z, since := since }

/-! ### The navigation line -/

/-- The checksum of a buffered frame matches (R3). -/
def frameSumOk (f : List Byte) : Bool := (((f.drop 1).take 10).map BitVec.toNat).sum % 65536 == field f 11 2

/-- The latitude and the longitude in a buffered frame. -/
def frameLat (f : List Byte) : Int := (BitVec.ofNat 32 (field f 3 4)).toInt
def frameLon (f : List Byte) : Int := (BitVec.ofNat 32 (field f 7 4)).toInt

/-- A buffered frame is a fix that is used (R3, R4). -/
def frameUsed (s : State) (f : List Byte) : Bool :=
  frameSumOk f && field f 1 1 == 1 && usableFix s (field f 2 1) (frameLat f) (frameLon f)

/-! ### The control block -/

/-- A one-beat write that enables the bytes of one control block field only, and writes `v` there. -/
def fieldTxn (s : State) (f : ControlField) (v : Nat) (t : Txn) : Prop :=
  t.wellFormed = true ∧ t.write = true ∧ t.beats = 1 ∧ t.addr = ctrlBase s + (fieldPlace f).1 / 16 * 16 ∧
    t.enables = enablesOf 16 [((fieldPlace f).1 % 16, (fieldPlace f).2)] ∧
    field t.data ((fieldPlace f).1 % 16) (fieldPlace f).2 = v

end Sys2Proof.Machine
end

