-- ==== Sys2Proof/Certificates/Slice0/Obligations.lean ====
section
/-! DEFINITION. The statements about this model, by the spec's numbered rules. A statement whose conclusion is
`∃ t, exec … s = .next t ∧ …` says where a row completes with its own effect. `keeps` lists the parts a row leaves
alone. -/

open Sys2Proof Sys2Proof.Machine

/-! ### The step, the clock and pin reset -/

/-- One step takes the command at the front of the queue and runs it on the state with the queue's rest. -/
def Obligations.StepRunsFront : Prop :=
  ∀ (c : Instr) (rest : List Instr) (s : State),
    s.pending = c :: rest → step s = exec c { s with pending := rest }

/-- Pin reset: the values of R19, R34, R56, R76, R99, R112, R130, R152, R168, R177 and R191, block by block, every mark
clear, and the service clock 0 (00_scope); the straps are sampled. That the carrier lines keep their levels and the queue of
waiting commands stays is the model's choice (assumption 1), and so is what an empty line holds (assumption 3). -/
def Obligations.PinResetValues : Prop :=
  ∀ (sel : BitVec 4) (s : State), ∃ t, exec (.pinReset sel) s = .next t ∧
    t.pending = s.pending ∧ t.clock = 0 ∧
    (t.pos.rx = .hunt ∧ t.pos.buf = [] ∧ t.pos.fix = none ∧ t.pos.st = .noFix ∧ t.pos.lostSince = 0 ∧
      t.pos.lineSeen = false ∧ t.pos.lineTime = 0 ∧ t.pos.discards = 0 ∧ t.pos.fixLoss = 10000 ∧
      t.pos.minQuality = 1 ∧ (∀ i, look t.pos.zones i = none) ∧ t.pos.current = none ∧ t.pos.pendingZone = none ∧
      t.pos.pendingSince = 0 ∧ t.pos.rezone = false) ∧
    (t.cov.st = .dark ∧ t.cov.hold = false ∧ t.cov.darkSince = 0 ∧ t.cov.openingSince = 0 ∧ t.cov.closingSince = 0 ∧
      t.cov.view = false ∧ t.cov.absentSince = 0 ∧ rfEnable t = false ∧ admission t = false ∧ gateTerm t = false) ∧
    (ctrlBase t = sel.toNat * 268435456 ∧ (∀ g ∈ allRegions, g ≠ .control → regionOf t g = none) ∧
      t.path.head = none ∧ t.path.queue = [] ∧ t.path.waiting = [] ∧ t.path.reads = [] ∧ t.path.reissue = [] ∧
      t.path.inFlight = [] ∧ t.path.runCount = 0 ∧ (∀ i, isSoftware t i = false ∧ isRadio t i = false) ∧
      ∀ k i, isLinkInitiator t k i = false) ∧
    (∀ k, linkOf t k = { (default : Link) with carrierLine := decide (k < 4) && (linkOf s k).carrierLine }) ∧
    (t.sup.mode = .single ∧ t.sup.active = none ∧ t.sup.eligible = [] ∧ t.sup.forced = none ∧ t.sup.lastSwap = 0 ∧
      t.sup.deferred = none ∧ t.sup.backhaul = false) ∧
    ((∀ i, look t.relay.ready i = false ∧ look t.relay.held i = false ∧ (entryOf t i).st = .free ∧
        (entryOf t i).completionHeld = false ∧ (entryOf t i).offCount = false ∧ (entryOf t i).detached = false) ∧
      t.relay.takePtr = 0 ∧ t.relay.take = none ∧ t.relay.waitList = [] ∧ t.relay.retryList = [] ∧
      t.relay.running = { slots := [none] } ∧ t.relay.staged = none ∧ t.relay.round = 0) ∧
    ((∀ a, look t.gate.map a = { opened := false, partner := none, incarnation := 0 }) ∧ t.gate.queue = [] ∧
      t.gate.waiting = none ∧ t.gate.haltDiscards = 0) ∧
    ((∀ i, look t.rate.tariffs i = none) ∧ t.rate.loaded = 0 ∧ t.rate.requested = none) ∧
    (t.acct.wait = none ∧ t.acct.reserved = false ∧ t.acct.places = [] ∧ t.acct.finisher = .idle ∧
      t.acct.finishing = none ∧ t.acct.scan = none) ∧
    ((∀ i, (lineOf t i).st = .invalid ∧ (lineOf t i).account = none ∧ (lineOf t i).waiting = [] ∧
        (lineOf t i).redirty = false ∧ (lineOf t i).flushMark = false ∧ (lineOf t i).evictMark = false) ∧
      t.cache.lru = List.range 64 ∧ t.cache.misses = [] ∧ t.cache.flush = none) ∧
    ((∀ p, look t.settle.partners p = none ∧ look t.settle.admitted p = false) ∧ t.settle.region = none ∧
      (∀ p, look t.settle.accums p = { charge := 0, bytesUp := 0, bytesDown := 0, events := 0, saturated := false,
                                       lastCut := 0 }) ∧
      t.settle.walk = none ∧ t.settle.walkCount = 0) ∧
    (t.cmd.run = .stopped ∧ t.cmd.base = none ∧ t.cmd.size = none ∧ t.cmd.view = none ∧ t.cmd.consumer = 0 ∧
      t.cmd.job = none ∧ t.cmd.configured = false ∧ t.cmd.stopStep = 0) ∧
    (t.rep.base = none ∧ t.rep.size = none ∧ t.rep.producer = 0 ∧ t.rep.written = 0 ∧ t.rep.view = none ∧
      t.rep.waiters = [] ∧ t.rep.pend = [] ∧ t.rep.dropped = 0 ∧ irq t = false)

/-- The state after reset is the one pin reset gives with the straps at the level the model takes (assumption 1), and it
meets the laws that every step keeps. -/
def Obligations.ResetIsPinReset : Prop :=
  exec (.pinReset Config.baseSel) State.reset = .next State.reset ∧
    rfLaw State.reset = true ∧ bounded State.reset = true ∧ tablesWf State.reset = true

/-! ### Laws of every step -/

/-- Every step keeps the RF law: coverage is OPENING, SERVING or CLOSING only while the run state is RUNNING (R29). -/
def Obligations.EveryStepKeepsRfLaw : Prop :=
  ∀ s t : State, rfLaw s = true → step s = .next t → rfLaw t = true

/-- Every step keeps the capacities: 16 queued own writes (R47), 128 usage events (R108), a passing run count of 8 (R50),
65,535 discards (R4) and a dropped count of 255 (R185). -/
def Obligations.EveryStepKeepsBounds : Prop :=
  ∀ s t : State, bounded s = true → step s = .next t → bounded t = true

/-- Every step keeps every sparse table in its one canonical form. -/
def Obligations.EveryStepKeepsTables : Prop :=
  ∀ s t : State, tablesWf s = true → step s = .next t → tablesWf t = true

/-- The frame of every row: where it answers a next state, the queue of waiting commands and the parts `keptBy` lists for it
are unchanged. -/
def Obligations.RowFrames : Prop :=
  ∀ (i : Instr) (s t : State), exec i s = .next t → keeps (keptBy i) s t

/-- What is loaded stays until its own command or pin reset: the zone table moves by LOAD_ZONE only (R8), the tariff table by
LOAD_TARIFF (R114), the partner table by LOAD_PARTNER (R169), the settings and the configured mark by CONFIGURE (R183), the
straps are sampled at pin reset only (R37), and the forced link moves by LINK_FORCE (R71). -/
def Obligations.LoadedTablesMoveByTheirCommand : Prop :=
  ∀ (i : Instr) (s t : State), exec i s = .next t → (∀ sel, i ≠ .pinReset sel) → (∀ r, i ≠ .commandFetchDone r) →
    ((∀ n p, i ≠ .loadZone n p) → t.pos.zones = s.pos.zones) ∧
    ((∀ n p, i ≠ .loadTariff n p) → t.rate.tariffs = s.rate.tariffs ∧ t.rate.loaded = s.rate.loaded) ∧
    ((∀ n p, i ≠ .loadPartner n p) → t.settle.partners = s.settle.partners) ∧
    ((∀ n p, i ≠ .configure n p) → t.cfg = s.cfg ∧ t.cmd.configured = s.cmd.configured ∧
      t.pos.fixLoss = s.pos.fixLoss ∧ t.pos.minQuality = s.pos.minQuality) ∧
    ((∀ n v, i ≠ .linkForce n v) → t.sup.forced = s.sup.forced) ∧
    t.path.baseSel = s.path.baseSel

/-- The model's choice (assumption 7): a transaction that is not of the transaction form of 00_scope is refused by each row that
brings one, no row refuses anything else, and no row but PASSING_RESPONSE faults. -/
def Obligations.OnlyMalformedIsRefused : Prop :=
  ∀ (i : Instr) (s : State),
    ((∃ r, exec i s = .refused r) ↔ ∃ t, i.txn = some t ∧ t.wellFormed = false) ∧
    ((∃ f, exec i s = .fault f) → ∃ ok data, i = .passingResponse ok data)

/-! ### Positions and zones -/

/-- R2: a byte with a framing error ends any frame in progress. -/
def Obligations.FramingErrorEndsFrame : Prop :=
  ∀ s : State, exec .navFramingError s = .next (match s.pos.rx with
    | .hunt => s
    | .sync => { s with pos := { s.pos with rx := .hunt, buf := [] } }
    | .body => { s with pos :=
        { s.pos with rx := .hunt, buf := [], discards := min 65535 (s.pos.discards + 1) } })

/-- R1: what each byte does to the receiver while no frame completes. -/
def Obligations.NavByteMovesReceiver : Prop :=
  ∀ (b : Byte) (s : State), ¬(s.pos.rx = .body ∧ s.pos.buf.length = 12) →
    ∃ t, exec (.navByte b) s = .next t ∧
      t.pos = { s.pos with
        rx := match s.pos.rx with
          | .hunt => if b = 165 then .sync else .hunt
          | .sync => if b = 195 then .body else if b = 165 then .sync else .hunt
          | .body => .body
        buf := match s.pos.rx with
          | .hunt => []
          | .sync => if b = 195 then [b] else []
          | .body => s.pos.buf ++ [b] } ∧
      keeps [.clock, .settings, .coverage, .links, .capture, .rating, .settlement, .engine, .reports] s t

/-- R3, R4, R5: a complete frame whose checksum matches, of type fix, and usable, becomes the current fix; the
position state is VALID, the discard count 0 and the line fix seen, and the zone tracker moves as R12 and R13 state.
R3, R4: any other complete frame raises the discard count by one, up to 65,535, and changes nothing else but the
receiver, which takes the 13 buffered bytes again where the checksum does not match. -/
def Obligations.CompleteFrameIsJudged : Prop :=
  (∀ (b : Byte) (s : State), s.pos.rx = .body → s.pos.buf.length = 12 → frameUsed s (s.pos.buf ++ [b]) = true →
     ∃ t, exec (.navByte b) s = .next t ∧
       t.pos.fix = some { quality := field (s.pos.buf ++ [b]) 2 1, lat := frameLat (s.pos.buf ++ [b]),
                          lon := frameLon (s.pos.buf ++ [b]), source := .line, time := s.clock } ∧
       t.pos.st = .valid ∧ t.pos.discards = 0 ∧ t.pos.lineSeen = true ∧ t.pos.lineTime = s.clock ∧
       t.pos.rx = .hunt ∧ t.pos.buf = [] ∧
       trackerOf t = trackerAfter s (candidate s (frameLat (s.pos.buf ++ [b])) (frameLon (s.pos.buf ++ [b]))) ∧
       t.pos.zones = s.pos.zones ∧ keeps [.clock, .settings, .capture, .rating] s t) ∧
  ∀ (b : Byte) (s : State), s.pos.rx = .body → s.pos.buf.length = 12 → frameUsed s (s.pos.buf ++ [b]) = false →
    ∃ t, exec (.navByte b) s = .next t ∧
      t.pos = { s.pos with
        discards := min 65535 (s.pos.discards + 1)
        rx := if frameSumOk (s.pos.buf ++ [b]) then .hunt else ((s.pos.buf ++ [b]).foldl rxByte (.hunt, [])).1
        buf := if frameSumOk (s.pos.buf ++ [b]) then [] else ((s.pos.buf ++ [b]).foldl rxByte (.hunt, [])).2 } ∧
      keeps [.clock, .settings, .coverage, .links, .capture, .rating, .settlement, .engine, .reports] s t

/-- R5, R14: the fix loss expiry of a VALID position enters LOST, and the pending zone becomes none; before its time, and
in NO_FIX and LOST, with a current fix or without one, nothing happens. -/
def Obligations.FixLossEntersLost : Prop :=
  (∀ s : State, s.pos.st ≠ .valid → exec .fixLossExpiry s = .next s) ∧
  ∀ (f : Fix) (s : State), s.pos.fix = some f →
    (s.pos.st = .valid → s.pos.fixLoss ≤ elapsed s f.time →
      ∃ t, exec .fixLossExpiry s = .next t ∧
        t.pos = { s.pos with st := .lost, lostSince := s.clock, pendingZone := none } ∧
        keeps [.clock, .settings, .links, .relay, .capture, .rating, .accounts, .cache, .settlement, .engine] s t) ∧
    (s.pos.st ≠ .valid ∨ elapsed s f.time < s.pos.fixLoss → exec .fixLossExpiry s = .next s)

/-- R11: the candidate for a fix is the enabled box of highest priority that contains it, the lowest index among equals; zone
0 where no box does and zone 0 is loaded and enabled; otherwise none. -/
def Obligations.CandidateIsBestBox : Prop :=
  ∀ (s : State) (lat lon : Int),
    (∀ i, matchesBox s lat lon i = true ↔ ∃ z b, look s.pos.zones i = some z ∧ z.enabled = true ∧ z.box = some b ∧
      b.latMin ≤ lat ∧ lat ≤ b.latMax ∧ b.lonMin ≤ lon ∧ lon ≤ b.lonMax) ∧
    (zoneZeroReady s = true ↔ ∃ z, look s.pos.zones 0 = some z ∧ z.enabled = true) ∧
    (∀ i, 1 ≤ i → i ≤ 31 →
      (candidate s lat lon = some i ↔
        matchesBox s lat lon i = true ∧ ∀ j, 1 ≤ j → j ≤ 31 → matchesBox s lat lon j = true →
          priorityOf s j < priorityOf s i ∨ (priorityOf s j = priorityOf s i ∧ i ≤ j))) ∧
    (candidate s lat lon = some 0 ↔
      (∀ j, 1 ≤ j → j ≤ 31 → matchesBox s lat lon j = false) ∧ zoneZeroReady s = true) ∧
    (candidate s lat lon = none ↔
      (∀ j, 1 ≤ j → j ≤ 31 → matchesBox s lat lon j = false) ∧ zoneZeroReady s = false)

/-- R7, R4, R12, R13: POSITION with the line not active takes a usable fix with source SOFTWARE, and counts an unusable one
as a discard; its results are the values after the command. -/
def Obligations.PositionTakesFix : Prop :=
  ∀ (n : Bool) (p : PositionParams) (s : State) (addr index size : Nat), fetchReturns s addr index size →
    s.cmd.run ≠ .halted → lineActive s = false → p.quality.toNat ≤ 3 → inRange p.lat.toInt p.lon.toInt = true →
    ∃ t, exec (.position n p) s = .next t ∧
      (s.pos.minQuality ≤ p.quality.toNat →
        t.pos.fix = some { quality := p.quality.toNat, lat := p.lat.toInt, lon := p.lon.toInt, source := .software,
                           time := s.clock } ∧
        t.pos.st = .valid ∧ t.pos.discards = 0 ∧
        trackerOf t = trackerAfter s (candidate s p.lat.toInt p.lon.toInt)) ∧
      (p.quality.toNat < s.pos.minQuality →
        t.pos = { s.pos with discards := min 65535 (s.pos.discards + 1) }) ∧
      t.pos.lineSeen = s.pos.lineSeen ∧ t.pos.lineTime = s.pos.lineTime ∧ t.pos.zones = s.pos.zones ∧
      completed t addr (completion .ok
        [(1, yesNo (decide (s.pos.minQuality ≤ p.quality.toNat))), (1, posCode t.pos.st), (1, orNone t.pos.current),
         (1, orNone t.pos.pendingZone), (2, t.pos.discards)] s.clock) ∧
      keeps [.clock, .settings, .capture, .rating] s t

/-- R8, R9, R10: LOAD_ZONE with parameters that pass its checks loads that record and no other. Zone 0 loaded enabled while
there is no current zone becomes current; a load of the current zone is published, clears the pending zone, and sets the
re-zone flag when the record is disabled. R27: the cover attribute so published acts in every coverage state: SERVE leaves all
but DARK as they are; CLOSE darkens OPENING and turns SERVING to CLOSING; QUIET darkens all three at once. -/
def Obligations.LoadZoneLoadsAndPublishes : Prop :=
  ∀ (n : Bool) (p : LoadZoneParams) (z : Zone) (s : State) (addr index size : Nat), fetchReturns s addr index size →
    s.cmd.run ≠ .halted → zoneOf p = some z →
    ∃ t, exec (.loadZone n p) s = .next t ∧
      (∀ i, look t.pos.zones i = if i = p.index.toNat then some z else look s.pos.zones i) ∧
      t.pos.current =
        (if s.pos.current = none ∧ p.index.toNat = 0 ∧ z.enabled then some 0 else s.pos.current) ∧
      (s.pos.current = some p.index.toNat →
        t.pos.pendingZone = none ∧ t.pos.rezone = !z.enabled ∧ t.settle.region = some z.region) ∧
      (s.pos.current = none → p.index.toNat = 0 → z.enabled = true →
        t.pos.pendingZone = none ∧ t.settle.region = some z.region) ∧
      (s.pos.current = some p.index.toNat ∨ (s.pos.current = none ∧ p.index.toNat = 0 ∧ z.enabled = true) →
        t.cov.hold = s.cov.hold ∧
        (z.cover = .serve → s.cov.st ≠ .dark → t.cov.st = s.cov.st) ∧
        (z.cover = .close →
          t.cov.st = (match s.cov.st with
            | .opening => .dark
            | .serving => .closing
            | .dark => .dark
            | .closing => .closing) ∧
          t.cov.darkSince = (if s.cov.st = .opening then s.clock else s.cov.darkSince) ∧
          t.cov.closingSince = (if s.cov.st = .serving then s.clock else s.cov.closingSince)) ∧
        (z.cover = .quiet →
          t.cov.st = .dark ∧ t.cov.darkSince = (if s.cov.st = .dark then s.cov.darkSince else s.clock) ∧
          t.cov.closingSince = s.cov.closingSince)) ∧
      t.pos.fix = s.pos.fix ∧ t.pos.st = s.pos.st ∧ t.pos.discards = s.pos.discards ∧
      completed t addr (completion .ok [(4, z.dwell), (1, yesNo (s.pos.current == some p.index.toNat))] s.clock) ∧
      keeps [.clock, .settings, .capture, .rating] s t

/-! ### Coverage -/

/-- R21, R22, R24, R25: the lost grace expiry and the backhaul loss expiry put OPENING into DARK and SERVING into
CLOSING, and leave DARK and CLOSING as they are. R23, R24, R26: the warm-up expiry enters SERVING while RUNNING, the hold
flag clear and the published attribute SERVE keep OPENING standing (a lost grace expiry due at the same time acts
after it, as R25 states), the drain expiry enters DARK, and the opening test, where it passes, enters OPENING, or SERVING at once with
a warm-up of 0. -/
def Obligations.CoverageExpiries : Prop :=
  (∀ (i : Instr) (s : State),
     (i = .lostGraceExpiry ∧ s.pos.st = .lost ∧ s.cfg.lostGrace ≤ elapsed s s.pos.lostSince) ∨
       (i = .backhaulLossExpiry ∧ s.cov.view = false ∧ s.cfg.backhaulLimit ≤ elapsed s s.cov.absentSince) →
     ∃ t, exec i s = .next t ∧
       t.cov = (match s.cov.st with
         | .opening => { s.cov with st := .dark, darkSince := s.clock }
         | .serving => { s.cov with st := .closing, closingSince := s.clock }
         | .dark => s.cov
         | .closing => s.cov) ∧
       keeps [.clock, .settings, .position, .links, .relay, .capture, .rating, .accounts, .cache, .settlement, .engine]
         s t) ∧
  ∀ s : State,
    (s.cov.st = .opening → s.cfg.warmUp ≤ elapsed s s.cov.openingSince →
      ∃ t, exec .warmUpExpiry s = .next t ∧
        t.cov = (if openingStands s then { s.cov with st := .serving } else s.cov)) ∧
    (s.cov.st = .closing → s.cfg.drain ≤ elapsed s s.cov.closingSince → s.cfg.darkMin ≠ 0 →
      ∃ t, exec .drainExpiry s = .next t ∧ t.cov = { s.cov with st := .dark, darkSince := s.clock }) ∧
    (s.cov.st = .dark → allowed s = true → s.cov.view = true → s.cfg.darkMin ≤ elapsed s s.cov.darkSince →
      ∃ t, exec .darkMinimumExpiry s = .next t ∧
        t.cov = { s.cov with st := if s.cfg.warmUp = 0 then .serving else .opening, openingSince := s.clock }) ∧
    (s.cov.st = .dark → (allowed s = false ∨ s.cov.view = false ∨ elapsed s s.cov.darkSince < s.cfg.darkMin) →
      exec .darkMinimumExpiry s = .next s)

/-- R31, R24, R25: COVERAGE_HOLD sets the hold flag, puts OPENING into DARK and SERVING into CLOSING, and changes
nothing when the flag was set already. R31, R23: COVERAGE_RELEASE clears the hold flag, and where that makes the
opening test of DARK pass, coverage opens; otherwise nothing but the flag changes. Both give the flag as it was before and
the coverage state after. In HALTED both are refused with BAD_STATE. -/
def Obligations.CoverageCommands : Prop :=
  (∀ (n : Bool) (s : State) (addr index size : Nat), fetchReturns s addr index size → s.cmd.run ≠ .halted →
     ∃ t, exec (.coverageHold n) s = .next t ∧
       t.cov = (if s.cov.hold then s.cov else match s.cov.st with
         | .opening => { s.cov with hold := true, st := .dark, darkSince := s.clock }
         | .serving => { s.cov with hold := true, st := .closing, closingSince := s.clock }
         | .dark => { s.cov with hold := true }
         | .closing => { s.cov with hold := true }) ∧
       completed t addr (completion .ok [(1, yesNo s.cov.hold), (1, covCode t.cov.st)] s.clock) ∧
       keeps [.clock, .settings, .position, .links, .capture, .rating, .settlement] s t) ∧
  (∀ (n : Bool) (s : State) (addr index size : Nat), fetchReturns s addr index size → s.cmd.run = .halted →
     ∃ t u, exec (.coverageHold n) s = .next t ∧ exec (.coverageRelease n) s = .next u ∧ t.cov = s.cov ∧ u.cov = s.cov ∧
       completed t addr (completion .badState [] s.clock) ∧ completed u addr (completion .badState [] s.clock)) ∧
  ∀ (n : Bool) (s : State) (addr index size : Nat), fetchReturns s addr index size → s.cmd.run ≠ .halted →
    ∃ t, exec (.coverageRelease n) s = .next t ∧
      t.cov = (if s.cov.hold && openingTestPasses { s with cov := { s.cov with hold := false } }
        then { s.cov with hold := false, st := if s.cfg.warmUp = 0 then .serving else .opening, openingSince := s.clock }
        else { s.cov with hold := false }) ∧
      completed t addr (completion .ok [(1, yesNo s.cov.hold), (1, covCode t.cov.st)] s.clock) ∧
      keeps [.clock, .settings, .position, .links, .capture, .rating, .settlement] s t

/-! ### The memory path -/

/-- R35, R38: a transaction that touches no present region and overlaps no own write goes from the free port into the
passing stream as it came. R44: a write to the radio downlink ring by the radio initiator passes unjudged. R46, R48: a
head with no hold reason left goes into the passing stream. -/
def Obligations.UnjudgedTrafficPasses : Prop :=
  (∀ (x : Txn) (s : State), x.wellFormed = true → portFree s → (∀ g ∈ allRegions, touches s x g = false) →
     overlapsOwn s x = false →
     ∃ t, exec (.passingTransaction x) s = .next t ∧ joinsStream s t { txn := x, subs := [] } ∧
       t.path.upOut = s.path.upOut ∧
       keeps [.clock, .settings, .position, .coverage, .links, .capture, .rating, .settlement, .engine, .reports] s t) ∧
  (∀ (x : Txn) (s : State), x.wellFormed = true → x.write = true → portFree s → touchesOnly s x .radioRing →
     isRadio s x.initiator = true → overlapsOwn s x = false →
     ∃ t, exec (.radioDownlinkRingWrite x) s = .next t ∧ joinsStream s t { txn := x, subs := [] } ∧
       keeps [.clock, .settings, .position, .coverage, .links, .capture, .rating, .settlement, .engine, .reports] s t) ∧
  ∀ (h : Head) (s : State), s.path.head = some h → s.path.upstream = [] → headReady h = true → h.spent = false →
    whollyAnswered h.txn (lineRecords s h) = false → overlapsOwn s h.txn = false →
    ∃ t, exec .holdRelease s = .next t ∧ joinsStream s t { txn := h.txn, subs := lineRecords s h } ∧
      keeps [.clock, .settings, .position, .coverage, .links, .capture, .rating, .settlement, .engine, .reports] s t

/-- R41, R53: a write that enables only bytes of the command consumer index or of the report producer index is dropped
whole and answered at once, with a PROTECTED_WRITE report that gives its four dropped bytes; neither word moves. R43, R53:
so is a one-beat write to a held slot of the logical uplink ring, whoever sends it, with RING_COLLISION. R45, R53: so is a
write in the ring of link k by any other than its initiator, with FOREIGN_WRITE. In STOPPED neither ring is judged (R54). -/
def Obligations.PartWrittenWordsAreDropped : Prop :=
  (∀ (slot : Nat) (x : Txn) (s : State), x.wellFormed = true → x.write = true → x.beats = 1 → portFree s →
     touchesOnly s x .logicalRing → x.addr = s.cfg.upBase + 16 * slot → look s.relay.held slot = true →
     s.cmd.run ≠ .stopped → s.path.owed = [] →
     ∃ t, exec (.uplinkRingWrite x) s = .next t ∧ t.path.head = none ∧ t.path.stream = s.path.stream ∧
       t.path.upOut = s.path.upOut ++ [{ initiator := x.initiator, ok := true, data := [] }] ∧
       t.rep = (pathFault x .logicalRing faultRingCollision (x.enables.filter id).length s).rep ∧
       look t.relay.held slot = true ∧ t.relay.table = s.relay.table ∧
       keeps [.clock, .settings, .position, .coverage, .links, .capture, .rating, .settlement, .engine] s t) ∧
  (∀ (k : Nat) (r : LinkRec) (x : Txn) (s : State), x.wellFormed = true → x.write = true → k < 4 → portFree s →
     touchesOnly s x (.linkRing k) → (linkOf s k).record = some r → r.base ≤ x.addr →
     x.addr + 16 * x.beats ≤ r.base + 16 * r.size → isLinkInitiator s k x.initiator = false → s.cmd.run ≠ .stopped →
     s.path.owed = [] →
     ∃ t, exec (.linkRingWrite x) s = .next t ∧ t.path.head = none ∧ t.path.stream = s.path.stream ∧
       t.path.upOut = s.path.upOut ++ [{ initiator := x.initiator, ok := true, data := [] }] ∧
       t.rep = (pathFault x (.linkRing k) faultForeignWrite (x.enables.filter id).length s).rep ∧
       t.relay.table = s.relay.table ∧
       keeps [.clock, .settings, .position, .coverage, .links, .capture, .rating, .settlement, .engine] s t) ∧
  ∀ (f : ControlField) (v : Nat) (x : Txn) (s : State), f = .cmdConsumer ∨ f = .repProducer → fieldTxn s f v x →
    portFree s → touchesOnly s x .control → s.path.owed = [] →
    ∃ t, exec (.controlBlockWrite x) s = .next t ∧ t.path.head = none ∧ t.path.stream = s.path.stream ∧
      t.path.upOut = s.path.upOut ++ [{ initiator := x.initiator, ok := true, data := [] }] ∧
      t.rep = (pathFault x .control faultProtectedWrite 4 s).rep ∧
      keeps [.clock, .settings, .position, .coverage, .links, .capture, .rating, .settlement, .engine] s t

/-- R178, R41: in STOPPED, with no command in progress, a full write of the command ring base or size latches it: the view
becomes unknown, a fetch under the earlier geometry is given up (assumption 14), and where the geometry is now valid the
consumer position is 0 and its word is written 0. R184, R41: in STOPPED a full write of the report ring base or size
latches it: the view becomes unknown, and where the geometry is now valid the producer positions are 0, the producer word is
written 0 and the consumer index is read. Outside STOPPED nothing is latched. -/
def Obligations.RingGeometryLatches : Prop :=
  (∀ (f : ControlField) (v : Nat) (x : Txn) (s : State), f = .cmdBase ∨ f = .cmdSize → fieldTxn s f v x →
     portFree s → touchesOnly s x .control →
     ∃ t, exec (.commandRingLatch x) s = .next t ∧
       (s.cmd.run = .stopped → s.cmd.job = none →
         t.cmd.base = (if f = .cmdBase then some v else s.cmd.base) ∧
         t.cmd.size = (if f = .cmdSize then some v else s.cmd.size) ∧ t.cmd.view = none ∧ t.cmd.fetching = none ∧
         t.cmd.consumer = (if (cmdRing t).isSome then 0 else s.cmd.consumer) ∧
         ((cmdRing t).isSome = true →
           placed t (fieldWrite .commandEngine (consumerAddr s) [(0, 4, 0)] .consumerReset))) ∧
       (s.cmd.run ≠ .stopped → keeps [.engine] s t) ∧
       keeps [.clock, .settings, .position, .coverage, .links, .capture, .rating, .settlement] s t) ∧
  ∀ (f : ControlField) (v : Nat) (x : Txn) (s : State), f = .repBase ∨ f = .repSize → fieldTxn s f v x →
    portFree s → touchesOnly s x .control →
    ∃ t, exec (.reportRingLatch x) s = .next t ∧
      (s.cmd.run = .stopped →
        t.rep.base = (if f = .repBase then some v else s.rep.base) ∧
        t.rep.size = (if f = .repSize then some v else s.rep.size) ∧ t.rep.view = none ∧
        t.rep.producer = (if (repRing t).isSome then 0 else s.rep.producer) ∧
        t.rep.written = (if (repRing t).isSome then 0 else s.rep.written) ∧
        ((repRing t).isSome = true →
          wordOwed t 0 ∧ issued t .reportWriter (ctrlBase s + 32) 1 (.consumerIndex s.rep.accepted))) ∧
      (s.cmd.run ≠ .stopped → t.rep.base = s.rep.base ∧ t.rep.size = s.rep.size ∧ t.rep.view = s.rep.view) ∧
      keeps [.clock, .settings, .position, .coverage, .links, .capture, .rating, .settlement, .engine] s t

/-- R179, R180: a full write of the command producer index with a valid geometry and a value below the ring size
becomes the view, and an idle engine whose consumer position differs issues the read of that record; any other value
changes nothing but the BAD_INDEX report. R184: a full write of the report consumer index with a valid geometry and a
value below the ring size becomes the view, counts as accepted, and R186: IRQ is then low exactly where it equals the written producer; any other value
leaves the view. With no billing report waiting nothing else follows. R184: the read of the consumer index that follows a latch of the report ring is
taken as a write of the value read, unless a consumer value has been accepted since the read was issued. -/
def Obligations.RingIndexesAreTaken : Prop :=
  (∀ (v : Nat) (x : Txn) (s : State), fieldTxn s .cmdProducer v x → portFree s → touchesOnly s x .control →
     ∃ t, exec (.commandProducerIndexWrite x) s = .next t ∧
       (∀ base size, cmdRing s = some (base, size) → v < size →
         t.cmd = { s.cmd with
           view := some v, blocked := false
           fetching := if v ≠ s.cmd.consumer ∧ s.cmd.job = none ∧ s.cmd.fetching = none
             then some (base + 128 * s.cmd.consumer, s.cmd.consumer, size) else s.cmd.fetching } ∧
         (v ≠ s.cmd.consumer → s.cmd.job = none → s.cmd.fetching = none →
           issued t .commandEngine (base + 128 * s.cmd.consumer) 8 (.fetch s.cmd.latched))) ∧
       ((∀ base size, cmdRing s = some (base, size) → size ≤ v) → t.cmd = s.cmd) ∧
       keeps [.clock, .settings, .position, .coverage, .links, .capture, .rating, .settlement] s t) ∧
  (∀ (v : Nat) (x : Txn) (s : State), fieldTxn s .repConsumer v x → portFree s → touchesOnly s x .control →
     s.rep.waiters = [] →
     ∃ t, exec (.reportConsumerIndexWrite x) s = .next t ∧
       (∀ base size, repRing s = some (base, size) → v < size →
         t.rep = { s.rep with view := some v, accepted := s.rep.accepted + 1 } ∧
           irq t = decide (s.rep.written ≠ v)) ∧
       ((∀ base size, repRing s = some (base, size) → size ≤ v) →
         t.rep.view = s.rep.view ∧ t.rep.accepted = s.rep.accepted) ∧
       keeps [.clock, .settings, .position, .coverage, .links, .capture, .rating, .settlement, .engine] s t) ∧
  ∀ (data : Vector Byte 16) (k base size : Nat) (r : OwnRead) (s : State), frontRead s = some r →
    r.use = .consumerIndex k → repRing s = some (base, size) → s.rep.waiters = [] →
    ∃ t, exec (.reportConsumerReadDone data) s = .next t ∧
      (k = s.rep.accepted → field data.toList 8 4 < size →
        t.rep.view = some (field data.toList 8 4) ∧ t.rep.accepted = s.rep.accepted + 1) ∧
      (k ≠ s.rep.accepted → t.rep = s.rep) ∧
      keeps [.clock, .settings, .position, .coverage, .links, .capture, .rating, .settlement, .engine] s t

/-- R42, R162: a passing read inside one account record. Where no line holds the record it goes downstream; where an
idle line holds it DIRTY, outside HALTED, it is answered from the line and the line's write-back begins. R42, R53: a
write that lies inside the account table passes in STOPPED. In every other run state its bytes are dropped with a
PROTECTED_WRITE report that counts them, and it is answered at once. -/
def Obligations.AccountTableTraffic : Prop :=
  (∀ (a : Nat) (x : Txn) (s : State), x.wellFormed = true → x.write = false → portFree s →
     touchesOnly s x .accountTable → recordAddr s a ≤ x.addr → x.addr + 16 * x.beats ≤ recordAddr s a + 64 →
     (findLine s a = none → overlapsOwn s x = false →
       ∃ t, exec (.accountTableRead x) s = .next t ∧ joinsStream s t { txn := x, subs := [] } ∧
         keeps [.clock, .settings, .position, .coverage, .links, .capture, .rating, .settlement, .engine, .reports]
           s t) ∧
     (∀ i, findLine s a = some i → (lineOf s i).st = .dirty → (lineOf s i).waiting = [] →
       (lineOf s i).account = some a → s.cmd.run ≠ .halted → s.path.owed = [] →
       ∃ t, exec (.accountTableRead x) s = .next t ∧ t.path.head = none ∧ t.path.stream = s.path.stream ∧
         t.path.upOut = s.path.upOut ++ [{ initiator := x.initiator, ok := true
                                           data := ((bytesOfRec (lineOf s i).contents).drop
                                             (x.addr - recordAddr s a)).take (16 * x.beats) }] ∧
         placed t (fullWrite .accountCache (recordAddr s a) (bytesOfRec (lineOf s i).contents) (.lineBack i)) ∧
         (lineOf t i).st = .writing ∧ (lineOf t i).contents = (lineOf s i).contents ∧
         keeps [.clock, .settings, .position, .coverage, .links, .capture, .rating, .settlement, .engine, .reports]
           s t)) ∧
  ∀ (x : Txn) (s : State), x.wellFormed = true → x.write = true → portFree s → touchesOnly s x .accountTable →
    s.cfg.acctBase ≤ x.addr → x.addr + 16 * x.beats ≤ s.cfg.acctBase + 64 * s.cfg.accounts →
    (s.cmd.run = .stopped → overlapsOwn s x = false →
      ∃ t, exec (.accountTableWrite x) s = .next t ∧ joinsStream s t { txn := x, subs := [] } ∧
        keeps [.clock, .settings, .position, .coverage, .links, .capture, .rating, .settlement, .engine, .reports]
          s t) ∧
    (s.cmd.run ≠ .stopped → s.path.owed = [] →
      ∃ t, exec (.accountTableWrite x) s = .next t ∧ t.path.head = none ∧ t.path.stream = s.path.stream ∧
        t.path.upOut = s.path.upOut ++ [{ initiator := x.initiator, ok := true, data := [] }] ∧
        t.rep = (pathFault x .accountTable faultProtectedWrite (x.enables.filter id).length s).rep ∧
        keeps [.clock, .settings, .position, .coverage, .links, .capture, .rating, .settlement, .engine] s t)

/-- R43, R77, R78: in RUNNING a full-slot write by software to a slot that is not held sets the slot's ready mark to its OWN
bit and passes. Where the slot is the one at the take pointer, its OWN bit is set, no take is in progress and entry `e` is
the lowest FREE one, its take begins within the event, and its read of the slot is issued. -/
def Obligations.UplinkSlotBecomesReady : Prop :=
  ∀ (slot : Nat) (x : Txn) (s : State), x.wellFormed = true → x.write = true → portFree s →
    touchesOnly s x .logicalRing → isSoftware s x.initiator = true → fullSlot x = true →
    x.addr = s.cfg.upBase + 16 * slot → look s.relay.held slot = false → s.cmd.run = .running →
    overlapsOwn s x = false →
    ∃ t, exec (.uplinkRingWrite x) s = .next t ∧ joinsStream s t { txn := x, subs := [] } ∧
      (s.relay.takePtr ≠ slot ∨ s.relay.take.isSome = true ∨ descOwn x.data = false →
        look t.relay.ready slot = descOwn x.data) ∧
      (∀ e, s.relay.takePtr = slot → s.relay.take = none → descOwn x.data = true → freeEntryNo s = some e →
        t.relay.take = some { slot := slot, entry := e, time := s.clock } ∧ look t.relay.ready slot = false ∧
          look t.relay.held slot = true ∧ t.relay.takePtr = (slot + 1) % s.cfg.upSize ∧
          issued t .uplinkRelay (s.cfg.upBase + 16 * slot) 1 .take) ∧
      keeps [.clock, .settings, .position, .coverage, .links, .capture, .rating, .settlement, .engine, .reports] s t

/-- R104, R105, R107: a radio downlink descriptor that software hands over for a metered account. With the gate open, a
length above 0 and room in the queue, its usage event is formed and it passes; with the gate closed it is rewritten with
DISCARD and no event is formed. R116, R153: where the Rating Engine is idle with an empty queue and no line holds the
account, the engine takes the event up, and a line is filled for the account or a pending miss waits for one. -/
def Obligations.DownlinkDescriptorIsJudged : Prop :=
  ∀ (x : Txn) (s : State), x.wellFormed = true → x.write = true → portFree s → touchesOnly s x .radioRing →
    isRadio s x.initiator = false → isSoftware s x.initiator = true → fullSlot x = true → descOwn x.data = true →
    s.cmd.run ≠ .stopped → descAccount x.data ≠ shipAccount → descAccount x.data < s.cfg.accounts →
    overlapsOwn s x = false →
    (gateDecision s (descAccount x.data) = true → 0 < descLength x.data → s.gate.queue.length < 128 →
      s.rate.requested.isSome = true ∨ (findLine s (descAccount x.data)).isSome = true ∨
        (∀ k a, (lineOf s k).st = .dirty → (lineOf s k).account = some a → a < s.cfg.accounts) →
      ∃ t, exec (.downlinkDescriptor x) s = .next t ∧ joinsStream s t { txn := x, subs := [] } ∧
        t.gate = { s.gate with queue := s.gate.queue ++
          [{ dir := .downlink, account := descAccount x.data
             incarnation := (look s.gate.map (descAccount x.data)).incarnation, bytes := descLength x.data
             cls := sourceClass s (descByte13 x.data), region := orNone (currentRegion s), tag := s.clock }] } ∧
        (s.rate.requested = none → s.gate.queue = [] → s.gate.waiting = none → findLine s (descAccount x.data) = none →
          t.rate.requested = some (descAccount x.data) ∧
          ((∃ i, findLine t (descAccount x.data) = some i ∧ (lineOf t i).st = .filling ∧ .rating ∈ (lineOf t i).waiting) ∨
            ∃ m ∈ t.cache.misses, m.account = descAccount x.data ∧ .rating ∈ m.requesters)) ∧
        keeps [.clock, .settings, .position, .coverage, .links, .settlement, .engine, .reports] s t) ∧
    (gateDecision s (descAccount x.data) = false →
      ∃ t, exec (.downlinkDescriptor x) s = .next t ∧
        joinsStream s t { txn := { x with data := x.data.modify 12 (· ||| 2) }, subs := [] } ∧
        keeps [.clock, .settings, .position, .coverage, .links, .capture, .rating, .settlement, .engine, .reports] s t)

/-- R86, R87, R91: in RUNNING a completion with status OK that matches entry `e` ends it SENT: its slot is written back, it
is FREE, or ENDING while that write waits for room, a metered entry's usage event is formed where the queue has room, and
the link's posted count and oldest post time move on. R89: a completion with any other status forms no event: below 4
attempts the entry is RETRY at the tail of the retry list, at 4 it ends FAILED and is written back. `u` is the state before
what R81 starts and ends the event. -/
def Obligations.CompletionEndsEntrySent : Prop :=
  (∀ (k slot e : Nat) (x : Txn) (s : State), x.wellFormed = true → x.write = true → portFree s → k < 4 →
    touchesOnly s x (.linkRing k) → isLinkInitiator s k x.initiator = true → fullSlot x = true →
    descOwn x.data = false → s.cmd.run = .running → (linkOf s k).health ≠ .disabled →
    x.addr = ((linkOf s k).record.map LinkRec.base).getD 0 + 16 * slot →
    descGen x.data = (linkOf s k).gen.toNat → descAccount x.data = e → matched s k slot e = true →
    descByte13 x.data ≠ 1 →
    ∃ t u, exec (.linkRingWrite x) s = .next t ∧ t = settleEvent s u ∧ u.gate = s.gate ∧ leavesCount s u k e ∧
      ((entryOf s e).attempts < 4 →
        (entryOf u e).st = .retry ∧ u.relay.retryList = s.relay.retryList ++ [e] ∧
          u.relay.waitList = s.relay.waitList) ∧
      (4 ≤ (entryOf s e).attempts →
        placed u (slotWrite s e .failed (some k)) ∧ (entryOf u e).st = (if canEnter s then .free else .ending)) ∧
      keeps [.clock, .settings, .position, .settlement] s t) ∧
  ∀ (k slot e : Nat) (x : Txn) (s : State), x.wellFormed = true → x.write = true → portFree s → k < 4 →
    touchesOnly s x (.linkRing k) → isLinkInitiator s k x.initiator = true → fullSlot x = true →
    descOwn x.data = false → s.cmd.run = .running → (linkOf s k).health ≠ .disabled →
    x.addr = ((linkOf s k).record.map LinkRec.base).getD 0 + 16 * slot →
    descGen x.data = (linkOf s k).gen.toNat → descAccount x.data = e → matched s k slot e = true →
    descByte13 x.data = 1 → s.gate.queue.length < 128 →
    ∃ t, exec (.linkRingWrite x) s = .next t ∧
      placed t (slotWrite s e .sent (some k)) ∧
      ((entryOf t e).st = .free ∨ (entryOf t e).st = .ending) ∧
      (canEnter s = false → (entryOf t e).st = .ending) ∧
      (canEnter s = true → (entryOf s e).metered = false ∨ s.rate.requested.isSome = true →
        (entryOf t e).st = .free) ∧
      (s.relay.waitList = [] → s.relay.retryList = [] → leavesCount s t k e) ∧
      t.gate.queue = s.gate.queue ++ (if (entryOf s e).metered then
        [{ dir := .uplink, account := (entryOf s e).account, incarnation := (entryOf s e).incarnation
           bytes := (entryOf s e).length, cls := classOfLink s k, region := orNone (currentRegion s)
           tag := s.clock }] else []) ∧
      keeps [.clock, .settings, .position, .settlement] s t

/-- R50: with nothing ready on the own side, or with both sides ready and a count below 8, the passing transaction is issued and
the count is set to 0 or rises by one; with a count of 8, or with only the own side ready, the own side's offer is issued and
the count is set to 0. R186: an issued producer write gives the written producer its value, and no other issue moves it. -/
def Obligations.ArbiterAlternates : Prop :=
  ∀ s : State,
    (∀ p rest, s.path.stream = p :: rest → ownOffer s = none →
      exec .arbiterIssue s = .next { s with path := { s.path with
        stream := rest, inFlight := s.path.inFlight ++ [.passing p], runCount := 0 } }) ∧
    (∀ p rest o, s.path.stream = p :: rest → ownOffer s = some o → s.path.runCount < 8 →
      exec .arbiterIssue s = .next { s with path := { s.path with
        stream := rest, inFlight := s.path.inFlight ++ [.passing p], runCount := s.path.runCount + 1 } }) ∧
    (∀ o again, ownOffer s = some (o, again) → s.path.stream = [] ∨ 8 ≤ s.path.runCount →
      ∃ t, exec .arbiterIssue s = .next t ∧ t.path.stream = s.path.stream ∧ t.path.runCount = 0 ∧
        t.path.inFlight = s.path.inFlight ++ [.own o (if again then 2 else 1)] ∧
        (∀ w v, o = .write w → w.use = .producerWord v → t.rep = { s.rep with written := v }) ∧
        ((∀ w v, o = .write w → w.use ≠ .producerWord v) → t.rep = s.rep) ∧
        keeps [.clock, .settings, .position, .coverage, .links, .relay, .capture, .rating, .accounts, .cache,
          .settlement, .engine] s t) ∧
    (s.path.stream = [] → ownOffer s = none → exec .arbiterIssue s = .next s)

/-- R47: the first own write that waits enters the queue at its tail when an entry has left. -/
def Obligations.WaitingWriteEnters : Prop :=
  ∀ (w : OwnWrite) (rest : List OwnWrite) (s : State), s.path.waiting = w :: rest → s.path.queue.length < 16 →
    ∃ t, exec .ownWriteEntersQueue s = .next t ∧
      (∃ later, t.path.queue = s.path.queue ++ { w with seq := s.path.seq } :: later) ∧
      (∃ later, t.path.waiting = rest ++ later) ∧
      keeps [.clock, .settings, .position, .coverage, .capture, .rating, .settlement] s t

/-- R35, R51: the response to the oldest passing transaction in flight is given upstream in its turn; an ERROR is given
unchanged, with the data that came with it. A read's OK data of another length is no response of the transaction form (the model's fault, assumption 7). -/
def Obligations.PassingResponseIsReturned : Prop :=
  ∀ (ok : Bool) (data : List Byte) (p : Passing) (rest : List Flight) (o : Owed) (owed : List Owed) (s : State),
    heard s = .passing p :: rest → s.path.owed = o :: owed → o.answer = none →
    (lengthOk p ok data = true →
      ∃ t, exec (.passingResponse ok data) s = .next t ∧ t.path.inFlight = rest ∧
        (∃ later, t.path.upOut = s.path.upOut ++ { initiator := p.txn.initiator, ok := ok
                                                   data := if p.txn.write then []
                                                     else if ok then composed p.txn p.subs data else data } :: later) ∧
        keeps [.clock, .settings, .position, .coverage, .links, .relay, .capture, .rating, .accounts, .cache,
          .settlement, .engine, .reports] s t) ∧
    (lengthOk p ok data = false → exec (.passingResponse ok data) s = .fault .responseLength)

/-- R52, R189: the first ERROR on an own transaction outside HALTED makes it wait to be reissued and changes nothing else.
A second ERROR halts a part that is STARTING, RUNNING or STOPPING, with coverage DARK; in STOPPED the part stays
STOPPED. -/
def Obligations.OwnErrorIsRetriedOnce : Prop :=
  ∀ (x : OwnTxn) (rest : List Flight) (s : State),
    (s.path.inFlight = .own x 1 :: rest → s.cmd.run ≠ .halted →
      exec (.ownTransactionError 0) s =
        .next { s with path := { s.path with inFlight := rest, reissue := s.path.reissue ++ [x] } }) ∧
    (s.path.inFlight = .own x 2 :: rest →
      ∃ t, exec (.ownTransactionError 0) s = .next t ∧ t.path.inFlight = rest ∧
        t.path.reissue = s.path.reissue ∧
        t.cmd.run = (if s.cmd.run = .stopped then .stopped else .halted) ∧
        (s.cmd.run = .starting ∨ s.cmd.run = .running ∨ s.cmd.run = .stopping →
          t.cov.st = .dark ∧ t.rate.requested = none ∧ t.acct.scan = none ∧ t.acct.wait = none ∧
            t.settle.walk = none ∧ t.cache.flush = none ∧ t.gate.waiting = none) ∧
        keeps [.clock, .settings, .position, .links, .relay] s t)

/-! ### Shore links -/

/-- R59, R61: a change of a LINK_CARRIER line outside HALTED moves the link's health as the evaluation states, and touches
no other link; in HALTED the level is recorded and no health moves (R75). -/
def Obligations.CarrierChangeEvaluatesLink : Prop :=
  ∀ (k : Fin 4) (high : Bool) (s : State), (linkOf s k).carrierLine ≠ high →
    ∃ t, exec (.linkCarrierChange k high) s = .next t ∧ (linkOf t k).carrierLine = high ∧
      (linkOf t k).health = (if s.cmd.run = .halted then (linkOf s k).health
        else judgedHealth { linkOf s k with carrierLine := high }) ∧
      (linkOf t k).record = (linkOf s k).record ∧ (linkOf t k).quality = (linkOf s k).quality ∧
      (linkOf t k).gen = (linkOf s k).gen ∧ othersKept k s t ∧
      keeps [.clock, .settings, .position, .capture, .rating, .settlement] s t

/-- R61, R63: the probation expiry brings a link in PROBATION UP, and the completion timeout expiry makes a link in DOWN,
PROBATION or UP whose oldest post is past its timeout STALLED. -/
def Obligations.LinkExpiriesMoveHealth : Prop :=
  ∀ (k : Fin 4) (r : LinkRec) (s : State), s.cmd.run ≠ .halted → (linkOf s k).record = some r →
    ((linkOf s k).health = .probation → r.probation ≤ elapsed s (linkOf s k).probationSince →
      ∃ t, exec (.probationExpiry k) s = .next t ∧ (linkOf t k).health = .up ∧
        sameFace (linkOf s k) (linkOf t k) ∧ othersKept k s t ∧
        keeps [.clock, .settings, .position, .capture, .rating, .settlement] s t) ∧
    (∀ old, (linkOf s k).health = .down ∨ (linkOf s k).health = .probation ∨ (linkOf s k).health = .up →
      (linkOf s k).oldest = some old → r.timeout ≤ elapsed s old →
      ∃ t, exec (.completionTimeoutExpiry k) s = .next t ∧ (linkOf t k).health = .stalled ∧
        sameFace (linkOf s k) (linkOf t k) ∧ othersKept k s t ∧
        keeps [.clock, .settings, .position, .capture, .rating, .settlement] s t)

/-- R69: once the swap hold has passed, the deferred swap expiry brings the active link to the target in effective mode
SINGLE, and no swap is deferred any more. -/
def Obligations.DeferredSwapIsMade : Prop :=
  ∀ (due : Time) (s : State), s.cmd.run ≠ .halted → s.sup.deferred = some due → reached s due = true →
    effectiveMode s = .single → s.cfg.swapHold ≤ elapsed s s.sup.lastSwap →
    ∃ t, exec .deferredSwapExpiry s = .next t ∧ t.sup.active = selectorTarget s ∧ t.sup.deferred = none ∧
      t.sup.mode = .single ∧ t.sup.eligible = eligibleSet s ∧
      (∀ j, (linkOf t j).health = (linkOf s j).health ∧ sameFace (linkOf s j) (linkOf t j)) ∧
      keeps [.clock, .settings, .position, .capture, .rating, .settlement] s t

/-- R57, R58: LOAD_LINK of an UNCONFIGURED or DISABLED link with fields that pass and, in RUNNING, a ring that
overlaps no present region loads the clamped record; the link is then DISABLED. R65: LINK_RESET of a configured link
in RUNNING makes it DISABLED, raises its ring generation and leaves nothing posted; the results give the posted count it
had and the new generation. R65, R90, R88: the entries posted on it are released in the order of their posts: below 4
attempts RETRY at the tail of the retry list, at 4 ended FAILED and written back; one whose completion is held only leaves
the count. That several write-backs which find the own-write queue full all wait at once, and the command completes within the
event, is the model's choice (assumption 31). `u` is the state before the dispatch pass that follows. -/
def Obligations.LoadLinkAndResetDisable : Prop :=
  (∀ (n : Bool) (p : LoadLinkParams) (r : LinkRec) (s : State) (addr index size : Nat), fetchReturns s addr index size →
     s.cmd.run ≠ .halted → p.link.toNat ≤ 3 →
     (linkOf s p.link.toNat).health = .unconfigured ∨ (linkOf s p.link.toNat).health = .disabled →
     linkRecOf p = some r → (s.cmd.run = .running → ringOverlaps s p.link.toNat r = false) →
     ∃ t, exec (.loadLink n p) s = .next t ∧ (linkOf t p.link.toNat).record = some r ∧
       (linkOf t p.link.toNat).health = .disabled ∧ (linkOf t p.link.toNat).gen = (linkOf s p.link.toNat).gen ∧
       (linkOf t p.link.toNat).quality = (linkOf s p.link.toNat).quality ∧ othersKept p.link.toNat s t ∧
       completed t addr
         (completion .ok [(1, r.retries), (1, r.threshold), (4, r.timeout), (4, r.probation)] s.clock) ∧
       keeps [.clock, .settings, .position, .capture, .rating, .settlement] s t) ∧
  ∀ (n : Bool) (v : BitVec 8) (s : State) (addr index size : Nat), fetchReturns s addr index size →
    s.cmd.run = .running → v.toNat ≤ 3 → (linkOf s v.toNat).health ≠ .unconfigured →
    ∃ t u, exec (.linkReset n v) s = .next t ∧ t = settleEvent s u ∧ (linkOf t v.toNat).health = .disabled ∧
      (linkOf t v.toNat).posted = 0 ∧ (linkOf t v.toNat).oldest = none ∧
      (tabWf s.relay.table = true →
        (∀ p ∈ postedOn s v.toNat,
          (p.2.completionHeld = true → (entryOf u p.1).st = .posted ∧ (entryOf u p.1).offCount = true) ∧
          (p.2.completionHeld = false → p.2.attempts < 4 → (entryOf u p.1).st = .retry) ∧
          (p.2.completionHeld = false → 4 ≤ p.2.attempts → placed u (slotWrite s p.1 .failed (some v.toNat)))) ∧
        ((∀ e ∈ s.relay.retryList, (entryOf s e).st ≠ .posted) →
          u.relay.retryList = s.relay.retryList ++ ((byPost (postedOn s v.toNat)).filter fun p =>
            !p.2.completionHeld && decide (p.2.attempts < 4)).map Prod.fst)) ∧
      (linkOf t v.toNat).gen = (linkOf s v.toNat).gen + 1 ∧
      (linkOf t v.toNat).record = (linkOf s v.toNat).record ∧
      (linkOf t v.toNat).quality = (linkOf s v.toNat).quality ∧ othersKept v.toNat s t ∧
      completed t addr (completion .ok
        [(2, (linkOf s v.toNat).posted), (2, ((linkOf s v.toNat).gen + 1).toNat)] s.clock) ∧
      keeps [.clock, .settings, .position, .capture, .rating, .settlement] s t

/-- R60, R61: LINK_ENABLE of a DISABLED link in RUNNING raises its ring generation, sets its quality score to 0, makes
it DOWN and evaluates it; the results give the health after it and the new generation. R62, R61: LINK_QUALITY of a
link in use in RUNNING adopts the score, clamped to 100, and evaluates the link; the results give the score adopted
and the health after it. -/
def Obligations.LinkEnableAndQualityEvaluate : Prop :=
  (∀ (n : Bool) (v : BitVec 8) (s : State) (addr index size : Nat), fetchReturns s addr index size →
     s.cmd.run = .running → v.toNat ≤ 3 → (linkOf s v.toNat).health = .disabled →
     ∃ t, exec (.linkEnable n v) s = .next t ∧ (linkOf t v.toNat).gen = (linkOf s v.toNat).gen + 1 ∧
       (linkOf t v.toNat).quality = 0 ∧ (linkOf t v.toNat).record = (linkOf s v.toNat).record ∧
       (linkOf t v.toNat).health = judgedHealth { linkOf s v.toNat with health := .down, quality := 0 } ∧
       othersKept v.toNat s t ∧
       completed t addr (completion .ok
         [(1, healthCode (linkOf t v.toNat).health), (2, ((linkOf s v.toNat).gen + 1).toNat)] s.clock) ∧
       keeps [.clock, .settings, .position, .capture, .rating, .settlement] s t) ∧
  ∀ (n : Bool) (v score : BitVec 8) (s : State) (addr index size : Nat), fetchReturns s addr index size →
    s.cmd.run = .running → v.toNat ≤ 3 → (linkOf s v.toNat).health ≠ .unconfigured →
    (linkOf s v.toNat).health ≠ .disabled →
    ∃ t, exec (.linkQuality n v score) s = .next t ∧ (linkOf t v.toNat).quality = min 100 score.toNat ∧
      (linkOf t v.toNat).health = judgedHealth { linkOf s v.toNat with quality := min 100 score.toNat } ∧
      (linkOf t v.toNat).record = (linkOf s v.toNat).record ∧ (linkOf t v.toNat).gen = (linkOf s v.toNat).gen ∧
      othersKept v.toNat s t ∧
      completed t addr (completion .ok
        [(1, min 100 score.toNat), (1, healthCode (linkOf t v.toNat).health)] s.clock) ∧
      keeps [.clock, .settings, .position, .capture, .rating, .settlement] s t

/-- R71, R68, R69: LINK_FORCE in RUNNING with a link id or 255 sets or clears the forced link and evaluates the selector: a
forced link that is UP becomes the active link at once. -/
def Obligations.LinkForceSetsForcedLink : Prop :=
  ∀ (n : Bool) (v : BitVec 8) (s : State) (addr index size : Nat), fetchReturns s addr index size →
    s.cmd.run = .running → v.toNat ≤ 3 ∨ v.toNat = 255 →
    ∃ t, exec (.linkForce n v) s = .next t ∧
      t.sup.forced = (if v.toNat = 255 then none else some v.toNat) ∧
      (v.toNat ≠ 255 → t.sup.mode = .single) ∧
      (v.toNat ≠ 255 → (linkOf s v.toNat).health = .up → t.sup.active = some v.toNat) ∧
      (∀ j, (linkOf t j).health = (linkOf s j).health ∧ sameFace (linkOf s j) (linkOf t j)) ∧
      completed t addr (completion .ok [(1, orNone t.sup.forced), (1, orNone t.sup.active)] s.clock) ∧
      keeps [.clock, .settings, .position, .capture, .rating, .settlement] s t

/-! ### Uplink relay -/

/-- R81, R82, R91: at the head age expiry, the head of the wait list that has waited beyond the dispatch max wait ends
EXPIRED and its slot is written back; it is FREE, or ENDING while the write waits for room. -/
def Obligations.HeadAgeExpiresHead : Prop :=
  ∀ (e : Nat) (rest : List Nat) (s : State), s.cmd.run = .running → s.relay.suspended = false →
    s.relay.retryList = [] → s.relay.waitList = e :: rest → entryGated s (entryOf s e) = false →
    s.cfg.maxWait < elapsed s (entryOf s e).takeTime →
    ∃ t, exec .headAgeExpiry s = .next t ∧ placed t (slotWrite s e .expired (entryOf s e).link) ∧
      e ∉ t.relay.waitList ∧ (entryOf t e).st = (if canEnter s then .free else .ending) ∧
      keeps [.clock, .settings, .position, .coverage, .capture, .rating, .settlement, .reports] s t

/-- R79: the take's read returns in RUNNING. A length of 0 ends the take REJECTED; an account at or above N ends it
REJECTED with a BAD_ACCOUNT report; a closed gate ends it GATED; each is written back with no link and no attempt. Any
other joins the wait list. `u` is the state before what ends the event (R81, R78): the next state is `settleEvent s u`. -/
def Obligations.TakeIsJudged : Prop :=
  ∀ (data : Vector Byte 16) (k : Take) (r : OwnRead) (s : State), frontRead s = some r → r.use = .take →
    s.relay.take = some k → s.cmd.run = .running →
    ∃ t u, exec (.takeReadDone data) s = .next (settleEvent s u) ∧ settleEvent s u = t ∧ u.relay.take = none ∧
      (descLength data.toList = 0 ∨
        (descAccount data.toList ≠ shipAccount ∧ s.cfg.accounts ≤ descAccount data.toList) →
        placed u (fullWrite .uplinkRelay (s.cfg.upBase + 16 * k.slot)
          (recordOf 16 [(0, 8, descBuffer data.toList), (8, 2, descLength data.toList),
            (10, 2, descAccount data.toList), (12, 1, 0), (13, 1, finalCode .rejected), (14, 1, 255), (15, 1, 0)])
          (.slotBack k.entry))) ∧
      (descLength data.toList ≠ 0 → descAccount data.toList ≠ shipAccount →
        descAccount data.toList < s.cfg.accounts → gateDecision s (descAccount data.toList) = false →
        placed u (fullWrite .uplinkRelay (s.cfg.upBase + 16 * k.slot)
          (recordOf 16 [(0, 8, descBuffer data.toList), (8, 2, descLength data.toList),
            (10, 2, descAccount data.toList), (12, 1, 0), (13, 1, finalCode .gated), (14, 1, 255), (15, 1, 0)])
          (.slotBack k.entry))) ∧
      (descLength data.toList ≠ 0 →
        (descAccount data.toList = shipAccount ∨
          (descAccount data.toList < s.cfg.accounts ∧ gateDecision s (descAccount data.toList) = true)) →
        u.relay.waitList = s.relay.waitList ++ [k.entry] ∧
          entryOf u k.entry = { (default : Entry) with
            st := .waiting, slot := k.slot, buffer := descBuffer data.toList, length := descLength data.toList
            account := descAccount data.toList, metered := decide (descAccount data.toList ≠ shipAccount)
            incarnation := if descAccount data.toList = shipAccount then 0
              else (look s.gate.map (descAccount data.toList)).incarnation
            takeTime := k.time }) ∧
      u.rep = (if descLength data.toList ≠ 0 ∧ descAccount data.toList ≠ shipAccount ∧
          s.cfg.accounts ≤ descAccount data.toList
        then (badAccount 4 255 k.slot (descAccount data.toList) s).rep else s.rep) ∧
      keeps [.clock, .settings, .position, .coverage, .capture, .rating, .settlement] s t

/-- R93, R94: SET_SCHEDULE with a schedule that passes its checks installs it at once, the staged one gone, when the
effective mode is SINGLE or the round pointer is 0, and stages it otherwise; the result says which. -/
def Obligations.SetScheduleInstallsOrStages : Prop :=
  ∀ (n : Bool) (p : SetScheduleParams) (sch : Schedule) (s : State) (addr index size : Nat),
    fetchReturns s addr index size → s.cmd.run ≠ .halted → scheduleOf p = some sch →
    ∃ t, exec (.setSchedule n p) s = .next t ∧
      (s.sup.mode = .single ∨ s.relay.round = 0 → t.relay.running = sch ∧ t.relay.staged = none) ∧
      (s.sup.mode = .shared → s.relay.round ≠ 0 → t.relay.running = s.relay.running ∧ t.relay.staged = some sch) ∧
      completed t addr (completion .ok
        [(1, yesNo (decide (s.sup.mode = .single ∨ s.relay.round = 0)))] s.clock) ∧
      keeps [.clock, .settings, .position, .coverage, .capture, .rating, .settlement] s t

/-! ### Usage capture -/

/-- R88, R109: with room in the usage queue, a waiting UPLINK event enters it; a waiting DOWNLINK event enters it if the
gate is still open with its incarnation, and is withdrawn otherwise. -/
def Obligations.WaitingEventIsDealtWith : Prop :=
  ∀ (w : WaitingEvent) (s : State), s.gate.waiting = some w → s.gate.queue.length < 128 → s.cmd.run ≠ .halted →
    s.path.upstream = [] →
    ∃ t, exec .waitingEventRelease s = .next t ∧ t.gate.waiting = none ∧
      t.gate.queue = s.gate.queue ++ (if w.producer = .downlink ∧ stillOpen s w.event = false then [] else [w.event]) ∧
      t.gate.map = s.gate.map ∧ t.gate.haltDiscards = s.gate.haltDiscards ∧
      keeps [.clock, .settings, .position, .settlement] s t

/-! ### Rating -/

/-- R118, R119, R120: one rating loses no byte and no fraction of a cu. The carry left is below the block size; the blocks
account for the rest of the sum; with at least one block the raw charge is the charge before saturation and the residue
left; with none nothing is charged. The other direction's carry and the grant are unchanged. -/
def Obligations.RatingLosesNothing : Prop :=
  ∀ (k : Tariff) (r : AcctRec) (e : UsageEvent), 0 < k.block →
    carryOf e.dir (rate k r e).record < k.block ∧
    carryOf e.dir r + e.bytes = (rate k r e).blocks * k.block + carryOf e.dir (rate k r e).record ∧
    ((rate k r e).blocks = 0 → (rate k r e).charge = 0 ∧ (rate k r e).record.residue = r.residue ∧
      (rate k r e).record.used = min max48 r.used ∧ (rate k r e).record.lastRegion = r.lastRegion ∧
      (rate k r e).record.lastClass = r.lastClass) ∧
    ((rate k r e).blocks ≠ 0 →
      (rate k r e).blocks * priceOf e.dir k * k.mults.getD (classCode e.cls) 0 + r.residue =
        256 * (rate k r e).full + (rate k r e).record.residue ∧
      (rate k r e).record.residue < 256 ∧ (rate k r e).charge = min max32 (rate k r e).full ∧
      (rate k r e).record.used = min max48 (r.used + (rate k r e).charge) ∧
      (rate k r e).record.total = min max48 (r.total + (rate k r e).charge) ∧
      (rate k r e).record.lastRegion = e.region ∧ (rate k r e).record.lastClass = classCode e.cls) ∧
    (e.dir = .uplink → (rate k r e).record.carryDown = r.carryDown ∧ (rate k r e).record.bytesDown = r.bytesDown ∧
      (rate k r e).record.bytesUp = min max48 (r.bytesUp + e.bytes)) ∧
    (e.dir = .downlink → (rate k r e).record.carryUp = r.carryUp ∧ (rate k r e).record.bytesUp = r.bytesUp ∧
      (rate k r e).record.bytesDown = min max48 (r.bytesDown + e.bytes)) ∧
    (rate k r e).record.grant = r.grant ∧ (rate k r e).record.st = r.st ∧
    (rate k r e).record.incarnation = r.incarnation

/-- R126, R127: the close round-up charges one block for each carry that is not 0, at the direction's price and the
multiplier of the last charged link class, PORT_FIXED where it names none, and one cu for a residue then left: `up` and
`down` are the parts, `r1` and `r2` the residues after them. Both carries and the residue are then 0, nothing is charged where
all three were, at the highest tariff at most 7,992,189 cu, and the credit state follows the new used. -/
def Obligations.RoundUpChargesOneBlock : Prop :=
  ∀ (k : Tariff) (r : AcctRec), k.upPrice ≤ 1000000 → k.downPrice ≤ 1000000 → (∀ m ∈ k.mults, m ≤ 1023) →
    r.residue < 256 →
    (roundUp k r).1.carryUp = 0 ∧ (roundUp k r).1.carryDown = 0 ∧ (roundUp k r).1.residue = 0 ∧
    (∃ mult up r1 down r2,
      mult = (if r.lastClass < 4 then k.mults.getD r.lastClass 0 else k.mults.getD 3 0) ∧
      (r.carryUp = 0 → up = 0 ∧ r1 = r.residue) ∧
      (r.carryUp ≠ 0 → k.upPrice * mult + r.residue = 256 * up + r1 ∧ r1 < 256) ∧
      (r.carryDown = 0 → down = 0 ∧ r2 = r1) ∧
      (r.carryDown ≠ 0 → k.downPrice * mult + r1 = 256 * down + r2 ∧ r2 < 256) ∧
      (roundUp k r).2 = up + down + (if r2 = 0 then 0 else 1)) ∧
    (r.carryUp = 0 → r.carryDown = 0 → r.residue = 0 → (roundUp k r).2 = 0) ∧
    (roundUp k r).2 ≤ 7992189 ∧
    (roundUp k r).1.used = min max48 (r.used + (roundUp k r).2) ∧
    (roundUp k r).1.total = min max48 (r.total + (roundUp k r).2) ∧
    (roundUp k r).1.credit = (if r.cls = clsRoamer ∨ r.cls = clsPack
      then creditOf r.cls r.grant (roundUp k r).1.used r.low else r.credit) ∧
    (roundUp k r).1.st = r.st ∧ (roundUp k r).1.grant = r.grant ∧ (roundUp k r).1.incarnation = r.incarnation ∧
    (roundUp k r).1.bytesUp = r.bytesUp ∧ (roundUp k r).1.bytesDown = r.bytesDown ∧
    (roundUp k r).1.lastRegion = r.lastRegion ∧ (roundUp k r).1.lastClass = r.lastClass

/-- R114: LOAD_TARIFF outside HALTED with a region to 7 and a named class loads that entry, clamped, and no other; the
loaded count rises at an entry's first load. R169, R170: LOAD_PARTNER outside HALTED with a partner to 63 and a named
state loads that record, its ceiling clamped, and recomputes that partner's admitted flag and no other. -/
def Obligations.TariffsAndPartnersLoad : Prop :=
  (∀ (n : Bool) (p : LoadTariffParams) (s : State) (addr index size : Nat), fetchReturns s addr index size →
     s.cmd.run ≠ .halted → p.region.toNat ≤ 7 → 1 ≤ p.cls.toNat → p.cls.toNat ≤ 3 →
     ∃ t k, exec (.loadTariff n p) s = .next t ∧
       k = { block := min 16777216 (max 1 p.block.toNat), upPrice := min 1000000 p.upPrice.toNat
             downPrice := min 1000000 p.downPrice.toNat
             mults := p.mults.toList.map fun m => min 1023 m.toNat : Tariff } ∧
       (∀ i, look t.rate.tariffs i =
         if i = 3 * p.region.toNat + (p.cls.toNat - 1) then some k else look s.rate.tariffs i) ∧
       t.rate.loaded = s.rate.loaded +
         (if look s.rate.tariffs (3 * p.region.toNat + (p.cls.toNat - 1)) = none then 1 else 0) ∧
       t.rate.requested = s.rate.requested ∧
       completed t addr (completion .ok
         ([(1, yesNo (look s.rate.tariffs (3 * p.region.toNat + (p.cls.toNat - 1))).isSome), (1, t.rate.loaded)] ++
           k.mults.map (fun m => (2, m)) ++ [(4, k.block), (4, k.upPrice), (4, k.downPrice)]) s.clock) ∧
       keeps [.clock, .settings, .position, .coverage, .capture, .settlement] s t) ∧
  ∀ (n : Bool) (p : LoadPartnerParams) (s : State) (addr index size : Nat), fetchReturns s addr index size →
    s.cmd.run ≠ .halted → p.partner.toNat ≤ 63 → p.state.toNat = 1 ∨ p.state.toNat = 2 →
    ∃ t r, exec (.loadPartner n p) s = .next t ∧
      r = { enabled := decide (p.state.toNat = 1), mask := p.mask, ceiling := min max48 p.ceiling.toNat : Partner } ∧
      (∀ i, look t.settle.partners i = if i = p.partner.toNat then some r else look s.settle.partners i) ∧
      (∀ i, look t.settle.admitted i = if i = p.partner.toNat then
          decide (p.state.toNat = 1) && (s.settle.region.map p.mask.getLsbD).getD false
        else look s.settle.admitted i) ∧
      t.settle.region = s.settle.region ∧ t.settle.accums = s.settle.accums ∧
      completed t addr (completion .ok
        [(1, yesNo (look s.settle.partners p.partner.toNat).isSome), (1, yesNo (look t.settle.admitted p.partner.toNat)),
         (8, r.ceiling)] s.clock) ∧
      keeps [.clock, .settings, .position, .coverage, .capture, .rating] s t

/-! ### Accounts -/

/-- R135, R136, R139, R142: OPEN_ACCOUNT of a FREE account in RUNNING with admission open, for a ROAMER with its partner
ENABLED and admitted, granted an idle line: the record, the gate map entry and the results are those of the new holder. -/
def Obligations.OpenAccountOpensRecord : Prop :=
  ∀ (n : Bool) (p : OpenAccountParams) (i : Nat) (s : State) (addr index size : Nat), fetchReturns s addr index size →
    s.cmd.run = .running → p.account.toNat < s.cfg.accounts → 1 ≤ p.cls.toNat → p.cls.toNat ≤ 3 →
    findLine s p.account.toNat = some i → grantableNow (lineOf s i) = true → (lineOf s i).contents.st = acctFree →
    s.cov.st = .serving →
    (p.cls.toNat = clsRoamer → p.partner.toNat ≤ 63 ∧ look s.settle.admitted p.partner.toNat = true ∧
      ((look s.settle.partners p.partner.toNat).map Partner.enabled).getD false = true) →
    ∃ t r, exec (.openAccount n p) s = .next t ∧ (lineOf t i).contents = r ∧
      r = { st := acctOpen, cls := p.cls.toNat
            credit := creditOf p.cls.toNat r.grant 0 r.low
            incarnation := ((lineOf s i).contents.incarnation + 1) % 256
            partner := if p.cls.toNat = clsRoamer then p.partner.toNat else 255
            marks := 0, gen := 0, subscriber := p.subscriber.toNat
            grant := if p.cls.toNat = clsCrew then 0
              else min max48 (min (ceilingOf s p.cls.toNat p.partner.toNat) p.grant.toNat)
            used := 0, low := if p.cls.toNat = clsCrew then 0 else p.threshold.toNat
            bytesUp := 0, bytesDown := 0, total := 0, carryUp := 0, carryDown := 0, residue := 0, cause := 0
            openTime := s.clock.toNat, lastRegion := 255, lastClass := 255 } ∧
      (∀ a, look t.gate.map a = if a = p.account.toNat then
          { opened := decide (r.credit ≠ creditExhausted)
            partner := if p.cls.toNat = clsRoamer then some p.partner.toNat else none, incarnation := r.incarnation }
        else look s.gate.map a) ∧
      completed t addr (completion .ok
        [(1, r.incarnation), (1, r.credit), (2, 0), (1, acctOpen), (8, r.grant)] s.clock) ∧
      keeps [.clock, .settings, .position, .coverage, .rating, .settlement] s t

/-- R137, R138, R139, R142: GRANT of an OPEN or SUSPENDED account that is not CREW, with the record's own generation, granted
an idle line: used becomes the overdraw, the clamped grant, threshold and credit state are installed, and the generation
rises. -/
def Obligations.GrantInstallsCredit : Prop :=
  ∀ (n : Bool) (p : GrantParams) (i : Nat) (s : State) (addr index size : Nat), fetchReturns s addr index size →
    s.cmd.run = .running → p.account.toNat < s.cfg.accounts → findLine s p.account.toNat = some i →
    grantableNow (lineOf s i) = true →
    (lineOf s i).contents.st = acctOpen ∨ (lineOf s i).contents.st = acctSuspended →
    (lineOf s i).contents.cls ≠ clsCrew → p.generation.toNat = (lineOf s i).contents.gen →
    ∃ t r, exec (.grant n p) s = .next t ∧ (lineOf t i).contents = r ∧
      r = { (lineOf s i).contents with
            used := (lineOf s i).contents.used - (lineOf s i).contents.grant
            grant := min max48
              (min (ceilingOf s (lineOf s i).contents.cls (lineOf s i).contents.partner) p.amount.toNat)
            low := p.threshold.toNat, gen := ((lineOf s i).contents.gen + 1) % 65536
            marks := (lineOf s i).contents.marks / 2 * 2
            credit := creditOf (lineOf s i).contents.cls r.grant r.used r.low } ∧
      (∀ a, look t.gate.map a = if a = p.account.toNat then
          { look s.gate.map a with opened := decide (r.st = acctOpen ∧ r.credit ≠ creditExhausted) }
        else look s.gate.map a) ∧
      completed t addr (completion .ok
        [(2, r.gen), (1, r.credit), (1, r.st), (8, r.grant), (8, r.used), (8, (lineOf s i).contents.used)] s.clock) ∧
      keeps [.clock, .settings, .position, .coverage, .rating, .settlement] s t

/-- R140, R142: SUSPEND granted an idle line. An OPEN account becomes SUSPENDED with cause ADMIN and its gate entry
CLOSED; a SUSPENDED one completes OK, any other NOT_OPEN, with no effect. R141, R142: RESUME granted an idle line. A
SUSPENDED account becomes OPEN with no suspend cause, its gate entry OPEN unless its credit is EXHAUSTED; an OPEN one
completes OK, any other NOT_OPEN, with no effect. (A ready close, which no event leaves behind, would take the line.) -/
def Obligations.SuspendAndResume : Prop :=
  (∀ (n : Bool) (a : BitVec 16) (i : Nat) (s : State) (addr index size : Nat), fetchReturns s addr index size →
     s.cmd.run = .running → a.toNat < s.cfg.accounts → findLine s a.toNat = some i →
     grantableNow (lineOf s i) = true →
     ∃ t, exec (.suspend n a) s = .next t ∧
       ((lineOf s i).contents.st = acctOpen →
         (lineOf t i).contents = { (lineOf s i).contents with st := acctSuspended, cause := 1 } ∧
         (∀ b, look t.gate.map b = if b = a.toNat then { look s.gate.map b with opened := false }
           else look s.gate.map b) ∧
         completed t addr (completion .ok
           [(1, acctOpen), (1, acctSuspended), (1, (lineOf s i).contents.credit)] s.clock)) ∧
       ((lineOf s i).contents.st ≠ acctOpen → t.gate = s.gate ∧
         (firstReady s = none → (lineOf t i).contents = (lineOf s i).contents) ∧
         completed t addr (completion (if (lineOf s i).contents.st = acctSuspended then .ok else .notOpen)
           [(1, (lineOf s i).contents.st), (1, (lineOf s i).contents.st), (1, (lineOf s i).contents.credit)] s.clock)) ∧
       keeps [.clock, .settings, .position, .coverage, .rating, .settlement] s t) ∧
  ∀ (n : Bool) (a : BitVec 16) (i : Nat) (s : State) (addr index size : Nat), fetchReturns s addr index size →
    s.cmd.run = .running → a.toNat < s.cfg.accounts → findLine s a.toNat = some i →
    grantableNow (lineOf s i) = true →
    ∃ t, exec (.resume n a) s = .next t ∧
      ((lineOf s i).contents.st = acctSuspended →
        (lineOf t i).contents = { (lineOf s i).contents with st := acctOpen, cause := 0 } ∧
        (∀ b, look t.gate.map b = if b = a.toNat then
            { look s.gate.map b with opened := decide ((lineOf s i).contents.credit ≠ creditExhausted) }
          else look s.gate.map b) ∧
        completed t addr (completion .ok
          [(1, acctSuspended), (1, acctOpen), (1, (lineOf s i).contents.credit)] s.clock)) ∧
      ((lineOf s i).contents.st ≠ acctSuspended → t.gate = s.gate ∧
        (firstReady s = none → (lineOf t i).contents = (lineOf s i).contents) ∧
        completed t addr (completion (if (lineOf s i).contents.st = acctOpen then .ok else .notOpen)
          [(1, (lineOf s i).contents.st), (1, (lineOf s i).contents.st), (1, (lineOf s i).contents.credit)] s.clock)) ∧
      keeps [.clock, .settings, .position, .coverage, .rating, .settlement] s t

/-- R144, R142: CLOSE_ACCOUNT with a place to take, granted an idle line. An OPEN or SUSPENDED account becomes
CLOSING, its gate entry CLOSED, and takes the tail place, and the command completes ACCEPTED; with an idle finisher and
nothing counted for it, the close is finished within the same event (R145, R147, R154). Any other record completes NOT_OPEN
with no effect. R146, R92: the
close wait limit expiry of a place that is not being finished sets its mark, detaches every relay entry counted for
it, and keeps their number; no entry is counted for it afterwards. -/
def Obligations.CloseTakesPlaceAndDetaches : Prop :=
  (∀ (n : Bool) (a : BitVec 16) (i : Nat) (s : State) (addr index size : Nat), fetchReturns s addr index size →
     s.cmd.run = .running → a.toNat < s.cfg.accounts → s.acct.places.length < 64 → findLine s a.toNat = some i →
     grantableNow (lineOf s i) = true →
     ∃ t, exec (.closeAccount n a) s = .next t ∧ t.acct.reserved = false ∧
       ((lineOf s i).contents.st = acctOpen ∨ (lineOf s i).contents.st = acctSuspended →
         (s.acct.finisher ≠ .idle ∨ (firstReady s = none ∧
             (hasEvent s a.toNat (lineOf s i).contents.incarnation = true ∨
               countedEntries s a.toNat (lineOf s i).contents.incarnation ≠ [])) →
           (lineOf t i).contents = { (lineOf s i).contents with st := acctClosing } ∧
           t.acct.places = s.acct.places ++ [{ account := a.toNat, incarnation := (lineOf s i).contents.incarnation
                                               closeTime := s.clock, expired := false, detached := 0 }] ∧
           gateShut s t a.toNat ∧ keeps [.coverage, .rating, .settlement] s t) ∧
         (s.acct.finisher = .idle → firstReady s = none →
           hasEvent s a.toNat (lineOf s i).contents.incarnation = false →
           countedEntries s a.toNat (lineOf s i).contents.incarnation = [] →
           (lineOf t i).contents.st = acctFree ∧ gateShut s t a.toNat ∧
           (t.acct.places = s.acct.places ∨ t.acct.finisher = .reporting)) ∧
         completed t addr (completion .accepted
           [(1, (lineOf s i).contents.st), (1, (lineOf s i).contents.incarnation), (1, s.acct.places.length + 1)]
           s.clock)) ∧
       ((lineOf s i).contents.st ≠ acctOpen → (lineOf s i).contents.st ≠ acctSuspended →
         t.gate = s.gate ∧ t.acct.places = s.acct.places ∧ keeps [.coverage, .rating, .settlement] s t ∧
         (firstReady s = none → (lineOf t i).contents = (lineOf s i).contents) ∧
         completed t addr (completion .notOpen
           [(1, (lineOf s i).contents.st), (1, (lineOf s i).contents.incarnation), (1, s.acct.places.length)]
           s.clock)) ∧
       keeps [.clock, .settings, .position] s t) ∧
  ∀ (k : Nat) (p : Place) (s : State), s.acct.places[k]? = some p → s.cmd.run = .running ∨ s.cmd.run = .stopping →
    p.expired = false → s.acct.finishing ≠ some k → s.cfg.closeWait ≤ elapsed s p.closeTime →
    tabWf s.relay.table = true →
    ∃ t, exec (.closeWaitLimitExpiry k) s = .next t ∧
      t.acct.places = s.acct.places.set k
        { p with expired := true, detached := (countedEntries s p.account p.incarnation).length } ∧
      countedEntries t p.account p.incarnation = [] ∧ t.relay.waitList = s.relay.waitList ∧
      t.relay.retryList = s.relay.retryList ∧
      keeps [.clock, .settings, .position, .coverage, .links, .capture, .rating, .settlement, .engine, .reports] s t

/-! ### The account cache -/

/-- R160, R161: at its age expiry a DIRTY line begins its write-back, and no other line moves. R159: a fill that
returns for a FILLING line that no requester waits for, with no miss pending, makes it CLEAN with the record read; R154,
R124: where the Rating Engine waits for it, the same event rates the only event of the queue on the record read. R160: a write-back that is answered makes its line CLEAN, or DIRTY where it was changed meanwhile, and clears its
marks; where no miss is pending, no FLUSH and no STOP step waits, and no close is ready, no other line moves. -/
def Obligations.CacheLineTransfers : Prop :=
  (∀ (k : Fin 64) (a : Nat) (s : State),
     s.cmd.run = .starting ∨ s.cmd.run = .running ∨ s.cmd.run = .stopping → (lineOf s k).st = .dirty →
     (lineOf s k).account = some a → s.cfg.flushAge ≤ elapsed s (lineOf s k).dirtySince →
     ∃ t, exec (.ageExpiry k) s = .next t ∧
       placed t (fullWrite .accountCache (recordAddr s a) (bytesOfRec (lineOf s k).contents) (.lineBack k)) ∧
       (∀ j, lineOf t j = if j = (k : Nat) then { lineOf s k with st := .writing, redirty := false } else lineOf s j) ∧
       keeps [.clock, .settings, .position, .coverage, .links, .relay, .capture, .rating, .accounts, .settlement, .engine,
         .reports] s t) ∧
  (∀ (data : Vector Byte 64) (k : Nat) (r : OwnRead) (s : State), frontRead s = some r → r.use = .fill k →
     (lineOf s k).st = .filling → (lineOf s k).waiting = [] → s.cache.misses = [] → firstReady s = none →
     s.path.upstream = [] → s.path.head = none →
     ∃ t, exec (.fillDone data) s = .next t ∧
       (∀ j, lineOf t j = if j = k then { lineOf s k with st := .clean, contents := recOfBytes data.toList }
         else lineOf s j) ∧
       keeps [.clock, .settings, .position, .coverage, .links, .capture, .rating, .accounts, .settlement, .engine,
         .reports] s t) ∧
  (∀ (data : Vector Byte 64) (k : Nat) (r : OwnRead) (e : UsageEvent) (s : State), frontRead s = some r →
     r.use = .fill k → (lineOf s k).st = .filling → (lineOf s k).waiting = [.rating] → s.gate.queue = [e] →
     s.cache.misses = [] → noneReady s s.acct.places [] → s.path.upstream = [] → s.path.head = none →
     ∃ t, exec (.fillDone data) s = .next t ∧ t.gate.queue = [] ∧ t.rate.requested = none ∧
       (lineOf t k).waiting = [] ∧
       (lineOf t k).contents = (if stale (recOfBytes data.toList) e then recOfBytes data.toList
         else settleCredit (rate (tariffFor s (some e.region) (recOfBytes data.toList).cls) (recOfBytes data.toList)
           e).record) ∧
       keeps [.clock, .settings, .position, .coverage] s t) ∧
  ∀ (k att : Nat) (w : OwnWrite) (rest : List Flight) (s : State), heard s = .own (.write w) att :: rest →
    w.use = .lineBack k → (lineOf s k).st = .writing → s.cache.misses = [] → s.cache.flush = none →
    s.cmd.run = .running → firstReady s = none →
    ∃ t, exec .writeBackDone s = .next t ∧ t.path.inFlight = rest ∧
      (∀ j, lineOf t j = if j = k then
          { lineOf s k with st := if (lineOf s k).redirty then .dirty else .clean, redirty := false, evictMark := false
                            flushMark := false }
        else lineOf s j) ∧
      keeps [.clock, .settings, .position, .coverage, .links, .capture, .rating, .accounts, .settlement, .engine,
        .reports] s t

/-- R154: what a line granted to its only waiting requester does, where no requester behind it (the next rating, a ready
close) is granted a line within the same event. R117, R124: the Rating Engine rates the head of the usage queue, which then
leaves; a stale event leaves the record, any other leaves the record of R118 to R122 (a CLEAN line whose record is as before
may go to the next miss). R123, R172: the rating of a ROAMER event that is not stale adds its charge, its bytes and one event
to the accumulator of the record's partner and the event's region; any other rating adds nothing. R147, R148: the finisher, with room
for its report, rounds the record up and leaves it FREE, its ACCOUNT_CLOSED report is placed and the place is removed. R149,
R187: the START scan repairs the record, finishes a CLOSING one, writes the gate entry of an OPEN or SUSPENDED one, and goes
on to the next record, whose line is then requested, or, after record N - 1, completes START in RUNNING. -/
def Obligations.LineGrantRatesHead : Prop :=
  (∀ (k : Fin 64) (e : UsageEvent) (rest : List UsageEvent) (r w : AcctRec) (s : State),
     holdsRecord (lineOf s k) = true → (lineOf s k).waiting = [.rating] → (lineOf s k).contents = r →
     w = (if stale r e then r else settleCredit (rate (tariffFor s (some e.region) r.cls) r e).record) →
     s.gate.queue = e :: rest → s.path.upstream = [] →
     (∀ e' ∈ rest.head?, findLine s e'.account = none) → s.acct.finisher ≠ .idle ∨ noneReady s s.acct.places rest →
     ∃ t, exec (.lineGrant k) s = .next t ∧ t.gate.queue = rest ∧
       (w ≠ r ∨ (lineOf s k).st ≠ .clean → (lineOf t k).contents = w) ∧
       (w = r → (lineOf s k).st = .clean → (lineOf t k).contents = r ∨ (lineOf t k).st = .filling) ∧
       t.settle = (if stale r e = true ∨ r.cls ≠ clsRoamer then s
         else addAccum (pairOf r.partner e.region) (rate (tariffFor s (some e.region) r.cls) r e).charge
           (if e.dir = .uplink then e.bytes else 0) (if e.dir = .downlink then e.bytes else 0) 1 s).settle ∧
       keeps [.clock, .settings, .position] s t) ∧
  (∀ (k : Fin 64) (n : Nat) (p : Place) (r : AcctRec) (s : State), holdsRecord (lineOf s k) = true →
     (lineOf s k).waiting = [.finisher] → (lineOf s k).contents = r → s.acct.finisher = .requesting →
     s.acct.finishing = some n → s.acct.places[n]? = some p → canPlace s = true → s.cmd.run = .running →
     s.acct.wait = none → s.cache.misses = [] → noneReady s (s.acct.places.eraseIdx n) s.gate.queue →
     s.path.upstream = [] →
     ∃ t, exec (.lineGrant k) s = .next t ∧ (lineOf t k).contents = { (closing s r).1 with st := acctFree } ∧
       t.acct.places = s.acct.places.eraseIdx n ∧ t.acct.finisher = .idle ∧ t.acct.finishing = none ∧
       t.settle = (settleRoundUp r (closing s r).2 s).settle ∧
       placedReport s t (closedReport false p.account p (closing s r).1 (closing s r).2 s) ∧
       keeps [.clock, .settings, .position, .coverage, .capture, .rating] s t) ∧
  ∀ (k : Fin 64) (c : Scan) (r : AcctRec) (s : State), holdsRecord (lineOf s k) = true → (lineOf s k).waiting = [.scan] →
    (lineOf s k).contents = r → s.cmd.run = .starting → s.acct.scan = some c → c.reporting = false →
    s.cache.misses = [] → findLine s (c.next + 1) = none → s.acct.places = [] → s.gate.queue = [] →
    s.path.upstream = [] →
    ∃ t, exec (.lineGrant k) s = .next t ∧
      ((scanRepair r).isSome = true → (lineOf t k).contents = repaired r) ∧
      (∀ a, look t.gate.map a =
        if a = c.next ∧ ((repaired r).st = acctOpen ∨ (repaired r).st = acctSuspended) then
          { opened := decide ((repaired r).st = acctOpen ∧ (repaired r).credit ≠ creditExhausted)
            partner := if (repaired r).cls = clsRoamer then some (repaired r).partner else none
            incarnation := (repaired r).incarnation }
        else look s.gate.map a) ∧
      (r.st ≠ acctClosing ∨ (scanRepair r).isSome = true → c.next + 1 < s.cfg.accounts →
        t.acct.scan = some { scanCounted c r with next := c.next + 1 } ∧
        t.rep = (match scanRepair r with
          | some f => (event kindFault faultRecordRepaired 0 [(8, 2, c.next), (10, 1, f.1), (11, 1, f.2.1)] s).rep
          | none => s.rep) ∧
        ((∃ i, findLine t (c.next + 1) = some i ∧ (lineOf t i).st = .filling ∧ (lineOf t i).waiting = [.scan] ∧
            issued t .accountCache (recordAddr s (c.next + 1)) 4 (.fill i)) ∨
          ∃ m ∈ t.cache.misses, m.account = c.next + 1 ∧ m.requesters = [.scan])) ∧
      (r.st ≠ acctClosing ∨ (scanRepair r).isSome = true → s.cfg.accounts ≤ c.next + 1 →
        t.cmd.run = .running ∧ t.acct.scan = none ∧
        ∀ j, s.cmd.job = some j → j.done = none →
          completed t j.addr (completion .ok
            [(2, (scanCounted c r).scanned), (2, (scanCounted c r).repaired), (2, c.closed)] s.clock)) ∧
      (r.st = acctClosing → (scanRepair r).isNone = true →
        (lineOf t k).contents = { (closing s r).1 with st := acctFree } ∧
        t.settle = (settleRoundUp r (closing s r).2 s).settle ∧
        (canPlace s = true →
          placedReport s t (closedReport true c.next
            { account := c.next, incarnation := r.incarnation, closeTime := s.clock, expired := false, detached := 0 }
            (closing s r).1 (closing s r).2 s)) ∧
        (canPlace s = false →
          t.acct.scan = some { c with scanned := c.scanned + 1, closed := c.closed + 1, reporting := true } ∧
          t.rep.waiters = s.rep.waiters ++ [.scan (closedReport true c.next
            { account := c.next, incarnation := r.incarnation, closeTime := s.clock, expired := false, detached := 0 }
            (closing s r).1 (closing s r).2 s)])) ∧
      keeps [.clock, .settings, .position] s t

/-- An account record is kept byte for byte: the 64 bytes that a line writes back are the 64 bytes it was filled with. -/
def Obligations.AccountRecordRoundTrip : Prop :=
  ∀ b : List Byte, b.length = 64 → bytesOfRec (recOfBytes b) = b

/-! ### Partners and settlement -/

/-- R172: an addition to an accumulator saturates field by field, sets the saturated mark where a field cannot hold it, and
touches no other accumulator. -/
def Obligations.AdditionSaturates : Prop :=
  ∀ (pair charge up down events : Nat) (s : State),
    (∀ j, j ≠ pair → look (addAccum pair charge up down events s).settle.accums j = look s.settle.accums j) ∧
    ∃ b, look (addAccum pair charge up down events s).settle.accums pair = b ∧
      b.charge = min 18446744073709551615 ((look s.settle.accums pair).charge + charge) ∧
      b.bytesUp = min 18446744073709551615 ((look s.settle.accums pair).bytesUp + up) ∧
      b.bytesDown = min 18446744073709551615 ((look s.settle.accums pair).bytesDown + down) ∧
      b.events = min 4294967295 ((look s.settle.accums pair).events + events) ∧
      b.lastCut = (look s.settle.accums pair).lastCut ∧
      (b.saturated = true ↔ (look s.settle.accums pair).saturated = true ∨
        18446744073709551615 < (look s.settle.accums pair).charge + charge ∨
        18446744073709551615 < (look s.settle.accums pair).bytesUp + up ∨
        18446744073709551615 < (look s.settle.accums pair).bytesDown + down ∨
        4294967295 < (look s.settle.accums pair).events + events)

/-- R173, R174, R176: SETTLE in RUNNING raises the walk count. With every accumulator zero it completes at once with no
record; where the first nonzero pair's record finds no room, the walk waits at that pair; where it finds room, that pair
is cut: its SETTLEMENT record (R175), with the fields copied before they are zeroed, takes the next slot of the report ring,
and its accumulator is zero, with now as its last cut. -/
def Obligations.SettleBeginsWalk : Prop :=
  ∀ (n : Bool) (s : State) (addr index size : Nat), fetchReturns s addr index size → s.cmd.run = .running →
    ∃ t, exec (.settle n) s = .next t ∧ t.settle.walkCount = s.settle.walkCount + 1 ∧
      (nextPair s 0 = none → t.settle.walk = none ∧ t.settle.accums = s.settle.accums ∧
        completed t addr (completion .ok [(2, 0), (8, 0)] s.clock)) ∧
      (∀ pair, nextPair s 0 = some pair → canPlace s = false →
        t.settle.walk = some { stopCause := false, next := pair, records := 0, charge := 0 } ∧
        t.settle.accums = s.settle.accums ∧ t.rep.waiters = s.rep.waiters ++ [.cut]) ∧
      (∀ pair, nextPair s 0 = some pair → canPlace s = true →
        look t.settle.accums pair =
          { charge := 0, bytesUp := 0, bytesDown := 0, events := 0, saturated := false, lastCut := s.clock }) ∧
      (∀ (pair : Nat) (a : Accum) (p : Option Partner), nextPair s 0 = some pair → canPlace s = true →
        look s.settle.accums pair = a → look s.settle.partners (pair / 8) = p →
        placedReport s t (reportNow s kindSettlement 1 (yesNo a.saturated + 2 * yesNo p.isNone)
          [(8, 1, pair / 8), (9, 1, pair % 8), (10, 2, (s.settle.walkCount + 1).toNat), (12, 4, a.events),
           (16, 8, a.charge), (24, 8, a.bytesUp), (32, 8, a.bytesDown), (40, 4, a.lastCut.toNat),
           (44, 1, partnerCode p)])) ∧
      keeps [.clock, .settings, .position, .coverage, .capture, .rating] s t

/-! ### Commands, reports and run states -/

/-- 11, Commands by run state: a command of the ring that its run state does not allow is refused with BAD_STATE and zero
results, and nothing but the Command Engine, own traffic and the Report Writer moves. -/
def Obligations.RunStateRefusals : Prop :=
  ∀ (n : Bool) (r : Request) (s : State) (addr index size : Nat), fetchReturns s addr index size →
    s.cmd.run = .stopped ∨ s.cmd.run = .running ∨ s.cmd.run = .halted → refusedIn r s.cmd.run = true →
    ∃ t u, exec (ringRow n r) s = .next t ∧ t = settleEvent s u ∧ u.cmd.run = s.cmd.run ∧
      completed t addr (completion .badState [] s.clock) ∧ keeps notEngine s u

/-- R180, R181: a code that names no command is refused with BAD_CODE and zero results. That a fetched record whose code names
a command is that command's row, with its NOTIFY bit, is the model's reading of the row list (assumption 10). -/
def Obligations.FetchedRecordIsItsCommand : Prop :=
  ∀ (record : Vector Byte 128) (s : State) (addr index size : Nat), fetchReturns s addr index size →
    (∀ r, requestOf record.toList = some r →
      ∃ t, exec (.commandFetchDone record) s = .next t ∧
        exec (ringRow (field record.toList 1 1 % 2 == 1) r) s = .next t ∧ t.clock = s.clock) ∧
    (requestOf record.toList = none →
      ∃ t, exec (.commandFetchDone record) s = .next t ∧ completed t addr (completion .badCode [] s.clock))

/-- R183: CONFIGURE in STOPPED with parameters that pass its checks: every value is adopted after clamping and written back
over its parameter, and the result marks the values that were clamped. That the eight values no clamp bounds are written
back too, with their byte-enables set, is the model's reading (assumption 16). -/
def Obligations.ConfigureAdoptsValues : Prop :=
  ∀ (n : Bool) (p : ConfigureParams) (s : State) (addr index size : Nat), fetchReturns s addr index size →
    s.cmd.run = .stopped → configureOk p = true →
    ∃ t, exec (.configure n p) s = .next t ∧ t.cmd.configured = true ∧ t.cmd.run = .stopped ∧
      t.cfg = { softMask := p.softMask, accounts := p.accounts.toNat, acctBase := p.acctBase.toNat
                upBase := p.upBase.toNat, downBase := p.downBase.toNat
                packCeiling := min 281474976710655 p.packCeiling.toNat, upSize := p.upSize.toNat
                downSize := p.downSize.toNat, lostGrace := min 600000 p.lostGrace.toNat
                warmUp := min 120000 p.warmUp.toNat, drain := min 600000 (max 5000 p.drain.toNat)
                darkMin := min 600000 p.darkMin.toNat
                backhaulLimit := min 600000 (max 1000 p.backhaulLimit.toNat)
                swapHold := min 600000 p.swapHold.toNat, maxWait := min 60000 (max 10 p.maxWait.toNat)
                closeWait := min 120000 (max 1000 p.closeWait.toNat)
                flushAge := min 60000 (max 100 p.flushAge.toNat), radioInitiator := p.radioInitiator.toNat } ∧
      t.pos.fixLoss = min 60000 (max 1000 p.fixLoss.toNat) ∧ t.pos.minQuality = min 3 p.minQuality.toNat ∧
      t.relay.ready = [] ∧ t.relay.takePtr = 0 ∧
      completed t addr { status := .ok, results := resultBytes [(2, clampedMarks p)], rewrites := configureRewrites p
                         time := s.clock } ∧
      keeps [.clock, .capture, .rating, .settlement] s t

/-- R187: START in STOPPED of a configured part whose zone 0 is loaded and enabled, whose 24 tariff entries are loaded, whose
report ring is valid and whose regions do not overlap enters STARTING, clears the gate map and begins the scan at record
0. What is missing is refused, in that order, with NOT_CONFIGURED, BAD_PARAM or OVERLAP. -/
def Obligations.StartBeginsScan : Prop :=
  ∀ (n : Bool) (s : State) (addr index size : Nat), fetchReturns s addr index size → s.cmd.run = .stopped →
    ∃ t, exec (.start n) s = .next t ∧
      (s.cmd.configured = true → zoneZeroReady s = true → 24 ≤ s.rate.loaded →
        ((repRing s).isSome = true → regionsOverlap s = false →
          t.cmd.run = .starting ∧ (∀ a, look t.gate.map a = { opened := false, partner := none, incarnation := 0 }) ∧
          t.acct.scan = some { next := 0, scanned := 0, repaired := 0, closed := 0, reporting := false } ∧
          t.cmd.job.isSome = true) ∧
        (repRing s = none → completed t addr (completion .badParam [] s.clock)) ∧
        ((repRing s).isSome = true → regionsOverlap s = true → completed t addr (completion .overlap [] s.clock))) ∧
      (s.cmd.configured = false ∨ zoneZeroReady s = false ∨ s.rate.loaded < 24 →
        completed t addr (completion .notConfigured [] s.clock) ∧ t.cmd.run = .stopped) ∧
      keeps [.clock, .settings, .position, .coverage, .rating, .settlement] s t

/-- R188, R190: STOP in RUNNING forces coverage DARK and leaves RUNNING; in HALTED it stays in progress until the
part's own traffic has ended. R188: from a stop step that has ended, STOP goes on to a later step, or ends with the
part STOPPED. R97, R75: when the posted wait of STOP's step 4 reaches the close wait limit, each link that still holds
posted entries becomes DISABLED with its generation raised and nothing posted. -/
def Obligations.StopSteps : Prop :=
  (∀ (n : Bool) (s : State) (addr index size : Nat), fetchReturns s addr index size →
     (s.cmd.run = .running →
       ∃ t, exec (.stop n) s = .next t ∧ t.cov.st = .dark ∧ (t.cmd.run = .stopping ∨ t.cmd.run = .stopped) ∧
         keeps [.clock, .settings, .position, .capture, .rating] s t) ∧
     (s.cmd.run = .halted →
       ∃ t, exec (.stop n) s = .next t ∧ stopInHalted t = true ∧ t.path.inFlight = (heard s).tail ∧
         keeps [.clock, .settings, .position, .coverage, .links, .relay, .capture, .rating, .accounts, .cache,
           .settlement, .reports] s t)) ∧
  (∀ s : State, s.cmd.run = .stopping → stepEnded s = true →
     ∃ t, exec .stopStepAdvance s = .next t ∧
       (t.cmd.run = .stopped ∨ (t.cmd.run = .stopping ∧ s.cmd.stopStep < t.cmd.stopStep)) ∧
       keeps [.clock, .settings, .position, .capture, .rating] s t) ∧
  ∀ s : State, s.cmd.run = .stopping → s.cmd.stopStep = 4 → s.cfg.closeWait ≤ elapsed s s.cmd.stepSince →
    (∃ k, k < 4 ∧ 0 < (linkOf s k).posted) →
    ∃ t, exec .stopPostedWaitExpiry s = .next t ∧
      (∀ k, k < 4 → 0 < (linkOf s k).posted → (linkOf t k).health = .disabled ∧ (linkOf t k).posted = 0 ∧
        (linkOf t k).oldest = none ∧ (linkOf t k).gen = (linkOf s k).gen + 1) ∧
      keeps [.clock, .settings, .position, .capture, .rating] s t

/-- R190, R98, R111, R151, R167, R75: STOP from HALTED, once no own traffic is left, clears the relay with its maps and
pointers, the usage queue, the finisher list and the cache, disables the links, and ends STOPPED. It completes with status OK:
stopped from HALTED, the dirty lines lost, the events discarded, and what STOP had counted before it halted. No line and no
slot is written back; settlement, both schedules and the records in memory are kept. -/
def Obligations.HaltedClearEndsStopped : Prop :=
  ∀ (j : Job) (s : State), s.cmd.run = .halted → s.cmd.job = some j → j.request = some .stop → j.done = none →
    ownQuiet s = true →
    ∃ t, exec .stopHaltedClear s = .next t ∧ t.cmd.run = .stopped ∧ t.gate.queue = [] ∧ t.gate.haltDiscards = 0 ∧
      t.rate.requested = none ∧ (∀ i, (lineOf t i).st = .invalid) ∧ t.cache.misses = [] ∧
      t.cache.lru = List.range 64 ∧ (∀ e, (entryOf t e).st = .free) ∧ t.relay.waitList = [] ∧
      t.relay.retryList = [] ∧ t.relay.take = none ∧ t.acct.places = [] ∧ t.acct.finisher = .idle ∧
      (∀ i, look t.relay.ready i = false ∧ look t.relay.held i = false) ∧ t.relay.takePtr = 0 ∧ t.relay.round = 0 ∧
      t.relay.running = s.relay.running ∧ t.relay.staged = s.relay.staged ∧
      (∀ w ∈ t.path.queue ++ t.path.waiting, w.block = .commandEngine ∨ w.block = .reportWriter) ∧
      (∀ r ∈ t.path.reads, r.block = .commandEngine) ∧
      completed t j.addr (completion .ok
        [(1, runCode .halted), (2, s.cmd.counts.aborted), (2, s.cmd.counts.closes), (2, s.cmd.counts.records),
         (2, s.cmd.counts.lines), (2, countLines s fun l => l.st == .dirty),
         (2, s.gate.haltDiscards + s.gate.queue.length), (8, s.cmd.counts.charge)] s.clock) ∧
      (∀ k, k < 4 → (linkOf s k).health ≠ .unconfigured → (linkOf t k).health = .disabled ∧
        (linkOf t k).gen = (linkOf s k).gen + 1 ∧ (linkOf t k).posted = 0) ∧
      t.sup.active = none ∧ t.sup.eligible = [] ∧ t.sup.backhaul = false ∧
      t.gate.map = s.gate.map ∧ keeps [.clock, .settings, .position, .settlement] s t

/-- R185: an event report is placed where the ring has room and no billing report waits: its 64 bytes, with the dropped count
as it stood, go to the slot at the producer position and the next producer value after them, and the dropped count returns
to 0; otherwise, and where the view is unknown or the ring geometry not valid, it is dropped and counted, up to 255. R185,
R147: with room in the report ring, the finisher's report that waits is placed in the same way; the finished place leaves
the list. -/
def Obligations.ReportsArePlaced : Prop :=
  (∀ (kind cause flags : Nat) (fields : List (Nat × Nat × Nat)) (base size v : Nat) (s : State),
     repRing s = some (base, size) → s.rep.view = some v →
     ((s.rep.producer + 1) % size ≠ v → s.rep.waiters = [] →
       (event kind cause flags fields s).rep.producer = (s.rep.producer + 1) % size ∧
       (event kind cause flags fields s).rep.dropped = 0 ∧
       placedReport s (event kind cause flags fields s) (reportNow s kind cause flags fields)) ∧
     ((s.rep.producer + 1) % size = v ∨ s.rep.waiters ≠ [] →
       event kind cause flags fields s =
         { s with rep := { s.rep with dropped := min 255 (s.rep.dropped + 1) } })) ∧
  (∀ (kind cause flags : Nat) (fields : List (Nat × Nat × Nat)) (s : State), repRing s = none ∨ s.rep.view = none →
     event kind cause flags fields s = { s with rep := { s.rep with dropped := min 255 (s.rep.dropped + 1) } }) ∧
  ∀ (r : Report) (k base size v : Nat) (s : State), s.rep.waiters = [.finish r] → repRing s = some (base, size) →
    s.rep.view = some v → (s.rep.producer + 1) % size ≠ v → s.cmd.run = .running → s.acct.finishing = some k →
    s.acct.wait = none → noneReady s (s.acct.places.eraseIdx k) s.gate.queue →
    ∃ t, exec .billingReportPlaced s = .next t ∧ t.rep.producer = (s.rep.producer + 1) % size ∧ t.rep.dropped = 0 ∧
      t.rep.waiters = [] ∧ t.acct.places = s.acct.places.eraseIdx k ∧ placedReport s t r ∧
      keeps [.clock, .settings, .position, .coverage, .links, .capture, .rating, .settlement] s t

/-- R164, R160: FLUSH in STOPPED completes at once with a count of 0. In RUNNING every DIRTY line begins its write-back: the
write of its record is issued and the line is WRITING with its flush mark; every line that was WRITING is marked too, and
with neither it completes at once with a count of 0. -/
def Obligations.FlushWritesDirtyLines : Prop :=
  ∀ (n : Bool) (s : State) (addr index size : Nat), fetchReturns s addr index size →
    (s.cmd.run = .stopped →
      ∃ t, exec (.flush n) s = .next t ∧ completed t addr (completion .ok [(2, 0)] s.clock) ∧
        keeps [.clock, .settings, .position, .coverage, .capture, .rating, .settlement] s t) ∧
    (s.cmd.run = .running →
      ∃ t, exec (.flush n) s = .next t ∧
        (∀ k, k < 64 → (lineOf s k).account.isSome = true →
          (lineOf s k).st = .dirty ∨ (lineOf s k).st = .writing →
          (lineOf t k).st = .writing ∧ (lineOf t k).flushMark = true ∧
            (lineOf t k).contents = (lineOf s k).contents) ∧
        (∀ k a, k < 64 → (lineOf s k).st = .dirty → (lineOf s k).account = some a →
          placed t (fullWrite .accountCache (recordAddr s a) (bytesOfRec (lineOf s k).contents) (.lineBack k))) ∧
        ((∀ k, (lineOf s k).st ≠ .dirty ∧ (lineOf s k).st ≠ .writing ∧ (lineOf s k).flushMark = false) →
          completed t addr (completion .ok [(2, 0)] s.clock)) ∧
        keeps [.clock, .settings, .position, .coverage, .capture, .rating, .settlement] s t)
end

