-- ==== Sys2Proof/Laws/State.lean ====
section
/-! SUPPORT. Frames: what "the rest is unchanged" means for each part of State, as the frame lemmas of the operations use it. -/

namespace Sys2Proof.Machine

/-- The queue of commands, the service clock and the configured settings are the same. -/
@[simp] abbrev SameTime (s t : State) : Prop :=
  t.pending = s.pending ∧ t.clock = s.clock ∧ t.cfg = s.cfg

/-- Gate and Capture, the Rating Engine, the Account Manager, the Account Cache and the Settlement Table are the same. -/
@[simp] abbrev SameBooks (s t : State) : Prop :=
  t.gate = s.gate ∧ t.rate = s.rate ∧ t.acct = s.acct ∧ t.cache = s.cache ∧ t.settle = s.settle

/-- Of the Path Monitor, everything but the own traffic that waits is the same. -/
@[simp] abbrev SamePort (s t : State) : Prop :=
  t.path.baseSel = s.path.baseSel ∧ t.path.upstream = s.path.upstream ∧ t.path.head = s.path.head ∧
  t.path.stream = s.path.stream ∧ t.path.reissue = s.path.reissue ∧ t.path.inFlight = s.path.inFlight ∧
  t.path.runCount = s.path.runCount ∧ t.path.owed = s.path.owed ∧ t.path.upOut = s.path.upOut

/-- Of the Path Monitor, everything but the head and the own traffic that waits is the same. -/
@[simp] abbrev SameFlow (s t : State) : Prop :=
  t.path.baseSel = s.path.baseSel ∧ t.path.upstream = s.path.upstream ∧ t.path.stream = s.path.stream ∧
  t.path.reissue = s.path.reissue ∧ t.path.inFlight = s.path.inFlight ∧ t.path.runCount = s.path.runCount ∧
  t.path.owed = s.path.owed ∧ t.path.upOut = s.path.upOut

/-- Of the Path Monitor, the straps and what has been issued are the same. -/
@[simp] abbrev SameIssue (s t : State) : Prop :=
  t.path.baseSel = s.path.baseSel ∧ t.path.reissue = s.path.reissue ∧ t.path.inFlight = s.path.inFlight ∧
  t.path.runCount = s.path.runCount

/-- Of the Link Supervisor, everything but the links is the same. -/
@[simp] abbrev SameSelector (s t : State) : Prop :=
  t.sup.mode = s.sup.mode ∧ t.sup.active = s.sup.active ∧ t.sup.eligible = s.sup.eligible ∧
  t.sup.forced = s.sup.forced ∧ t.sup.lastSwap = s.sup.lastSwap ∧ t.sup.deferred = s.sup.deferred ∧
  t.sup.backhaul = s.sup.backhaul

/-- Of the Link Supervisor, the links and the forced link are the same. -/
@[simp] abbrev SameLinks (s t : State) : Prop :=
  t.sup.links = s.sup.links ∧ t.sup.forced = s.sup.forced

/-- Of the Uplink Relay, everything but the schedules is the same. -/
@[simp] abbrev SameLists (s t : State) : Prop :=
  t.relay.ready = s.relay.ready ∧ t.relay.held = s.relay.held ∧ t.relay.takePtr = s.relay.takePtr ∧
  t.relay.take = s.relay.take ∧ t.relay.table = s.relay.table ∧ t.relay.waitList = s.relay.waitList ∧
  t.relay.retryList = s.relay.retryList ∧ t.relay.suspended = s.relay.suspended ∧ t.relay.postSeq = s.relay.postSeq

/-- Of the Command Engine, everything but the counts of STOP is the same. -/
@[simp] abbrev SameButCounts (s t : State) : Prop :=
  t.cmd.base = s.cmd.base ∧ t.cmd.size = s.cmd.size ∧ t.cmd.view = s.cmd.view ∧ t.cmd.consumer = s.cmd.consumer ∧
  t.cmd.fetching = s.cmd.fetching ∧ t.cmd.blocked = s.cmd.blocked ∧ t.cmd.job = s.cmd.job ∧
  t.cmd.latches = s.cmd.latches ∧ t.cmd.latched = s.cmd.latched ∧ t.cmd.configured = s.cmd.configured ∧
  t.cmd.run = s.cmd.run ∧ t.cmd.stopStep = s.cmd.stopStep ∧ t.cmd.stepSince = s.cmd.stepSince

/-- Of the Command Engine, the run state with all of STOP, the configured flag and the blocked mark are the same. -/
@[simp] abbrev SameRun (s t : State) : Prop :=
  t.cmd.configured = s.cmd.configured ∧ t.cmd.run = s.cmd.run ∧ t.cmd.stopStep = s.cmd.stopStep ∧
  t.cmd.stepSince = s.cmd.stepSince ∧ t.cmd.counts = s.cmd.counts ∧ t.cmd.blocked = s.cmd.blocked

/-- Of the Command Engine, the run state, the step of STOP and the configured flag are the same. -/
@[simp] abbrev SameRunStep (s t : State) : Prop :=
  t.cmd.configured = s.cmd.configured ∧ t.cmd.run = s.cmd.run ∧ t.cmd.stopStep = s.cmd.stopStep ∧
  t.cmd.stepSince = s.cmd.stepSince

/-- Of the Report Writer, everything but the placing of reports is the same. -/
@[simp] abbrev SameRings (s t : State) : Prop :=
  t.rep.base = s.rep.base ∧ t.rep.size = s.rep.size ∧ t.rep.written = s.rep.written ∧ t.rep.view = s.rep.view ∧
  t.rep.accepted = s.rep.accepted ∧ t.rep.waiters = s.rep.waiters

/-- Of the Report Writer, the geometry, the view and what is written are the same. -/
@[simp] abbrev SameView (s t : State) : Prop :=
  t.rep.base = s.rep.base ∧ t.rep.size = s.rep.size ∧ t.rep.written = s.rep.written ∧ t.rep.view = s.rep.view ∧
  t.rep.accepted = s.rep.accepted

/-- Of the Position Unit, the zones, the current zone and the configured values are the same. -/
@[simp] abbrev SameZone (s t : State) : Prop :=
  t.pos.zones = s.pos.zones ∧ t.pos.current = s.pos.current ∧ t.pos.minQuality = s.pos.minQuality ∧
  t.pos.fixLoss = s.pos.fixLoss

/-- A relation that holds at the start of a fold over State and that every step keeps holds at its end. -/
theorem foldl_frame {α : Type} {R : State → State → Prop} (refl : ∀ s, R s s) {f : State → α → State}
    (step : ∀ s t a, R s t → R s (f t a)) (l : List α) (s : State) : R s (l.foldl f s) :=
  List.foldlRecOn (motive := R s) l f (refl s) fun t h a _ => step s t a h

end Sys2Proof.Machine
end

