-- ==== Sys2Proof/Laws/OpsFrames.lean ====
section
/-! SUPPORT. What each operation of own traffic, reports, command completion, coverage and settlement leaves unchanged: one lemma per operation. -/

namespace Sys2Proof.Machine

@[simp] theorem placeWrite_frame (w : OwnWrite) (s : State) :
    SameTime s (placeWrite w s) ∧ (placeWrite w s).pos = s.pos ∧ (placeWrite w s).cov = s.cov ∧
    SamePort s (placeWrite w s) ∧ (placeWrite w s).sup = s.sup ∧ (placeWrite w s).relay = s.relay ∧
    SameBooks s (placeWrite w s) ∧ (placeWrite w s).cmd = s.cmd ∧ (placeWrite w s).rep = s.rep := by
  unfold placeWrite
  repeat' split
  all_goals simp

@[simp] theorem issueRead_frame (b : Block) (addr : Nat) (beats : Nat) (use : ReadUse) (s : State) :
    SameTime s (issueRead b addr beats use s) ∧ (issueRead b addr beats use s).pos = s.pos ∧
    (issueRead b addr beats use s).cov = s.cov ∧ SamePort s (issueRead b addr beats use s) ∧
    (issueRead b addr beats use s).sup = s.sup ∧ (issueRead b addr beats use s).relay = s.relay ∧
    SameBooks s (issueRead b addr beats use s) ∧ (issueRead b addr beats use s).cmd = s.cmd ∧
    (issueRead b addr beats use s).rep = s.rep := by
  unfold issueRead
  simp

@[simp] theorem pumpReports_frame (n : Nat) (s : State) :
    SameTime s (pumpReports n s) ∧ (pumpReports n s).pos = s.pos ∧ (pumpReports n s).cov = s.cov ∧
    SamePort s (pumpReports n s) ∧ (pumpReports n s).sup = s.sup ∧ (pumpReports n s).relay = s.relay ∧
    SameBooks s (pumpReports n s) ∧ (pumpReports n s).cmd = s.cmd ∧ SameRings s (pumpReports n s) := by
  induction n generalizing s with
  | zero => simp [pumpReports]
  | succ n ih =>
    unfold pumpReports
    dsimp only
    repeat' split
    all_goals simp_all

@[simp] theorem runReports_frame (s : State) :
    SameTime s (runReports s) ∧ (runReports s).pos = s.pos ∧ (runReports s).cov = s.cov ∧ SamePort s (runReports s) ∧
    (runReports s).sup = s.sup ∧ (runReports s).relay = s.relay ∧ SameBooks s (runReports s) ∧
    (runReports s).cmd = s.cmd ∧ SameRings s (runReports s) := by
  unfold runReports
  simp

@[simp] theorem placeReport_frame (r : Report) (s : State) :
    SameTime s (placeReport r s) ∧ (placeReport r s).pos = s.pos ∧ (placeReport r s).cov = s.cov ∧
    SamePort s (placeReport r s) ∧ (placeReport r s).sup = s.sup ∧ (placeReport r s).relay = s.relay ∧
    SameBooks s (placeReport r s) ∧ (placeReport r s).cmd = s.cmd ∧ SameRings s (placeReport r s) := by
  unfold placeReport
  dsimp only
  repeat' split
  all_goals simp

@[simp] theorem offerEvent_frame (r : Report) (s : State) :
    SameTime s (offerEvent r s) ∧ (offerEvent r s).pos = s.pos ∧ (offerEvent r s).cov = s.cov ∧
    SamePort s (offerEvent r s) ∧ (offerEvent r s).sup = s.sup ∧ (offerEvent r s).relay = s.relay ∧
    SameBooks s (offerEvent r s) ∧ (offerEvent r s).cmd = s.cmd ∧ SameRings s (offerEvent r s) := by
  unfold offerEvent
  repeat' split
  all_goals simp

@[simp] theorem event_frame (kind : Nat) (cause : Nat) (flags : Nat) (fields : List (Nat × Nat × Nat)) (s : State) :
    SameTime s (event kind cause flags fields s) ∧ (event kind cause flags fields s).pos = s.pos ∧
    (event kind cause flags fields s).cov = s.cov ∧ SamePort s (event kind cause flags fields s) ∧
    (event kind cause flags fields s).sup = s.sup ∧ (event kind cause flags fields s).relay = s.relay ∧
    SameBooks s (event kind cause flags fields s) ∧ (event kind cause flags fields s).cmd = s.cmd ∧
    SameRings s (event kind cause flags fields s) := by
  unfold event
  simp

@[simp] theorem tryFetch_frame (s : State) :
    SameTime s (tryFetch s) ∧ (tryFetch s).pos = s.pos ∧ (tryFetch s).cov = s.cov ∧ SamePort s (tryFetch s) ∧
    (tryFetch s).sup = s.sup ∧ (tryFetch s).relay = s.relay ∧ SameBooks s (tryFetch s) ∧ SameRun s (tryFetch s) ∧
    (tryFetch s).rep = s.rep := by
  unfold tryFetch
  dsimp only
  repeat' split
  all_goals simp

@[simp] theorem applyLatch_frame (l : Latch) (s : State) :
    SameTime s (applyLatch l s) ∧ (applyLatch l s).pos = s.pos ∧ (applyLatch l s).cov = s.cov ∧
    SamePort s (applyLatch l s) ∧ (applyLatch l s).sup = s.sup ∧ (applyLatch l s).relay = s.relay ∧
    SameBooks s (applyLatch l s) ∧ SameRun s (applyLatch l s) ∧ (applyLatch l s).rep = s.rep := by
  unfold applyLatch
  dsimp only
  repeat' split
  all_goals simp

@[simp] theorem foldl_applyLatch_frame (l : List Latch) (s : State) :
    let t := l.foldl (fun s l => applyLatch l s) s
    SameTime s t ∧ t.pos = s.pos ∧ t.cov = s.cov ∧ SamePort s t ∧ t.sup = s.sup ∧ t.relay = s.relay ∧ SameBooks s t ∧
    SameRun s t ∧ t.rep = s.rep := by
  intro t
  refine foldl_frame (R := fun s t => SameTime s t ∧ t.pos = s.pos ∧ t.cov = s.cov ∧ SamePort s t ∧ t.sup = s.sup ∧ t.relay = s.relay ∧ SameBooks s t ∧ SameRun s t ∧ t.rep = s.rep) (by simp) (fun s t a h => ?_) l s
  simp_all

@[simp] theorem applyLatches_frame (s : State) :
    SameTime s (applyLatches s) ∧ (applyLatches s).pos = s.pos ∧ (applyLatches s).cov = s.cov ∧
    SamePort s (applyLatches s) ∧ (applyLatches s).sup = s.sup ∧ (applyLatches s).relay = s.relay ∧
    SameBooks s (applyLatches s) ∧ SameRun s (applyLatches s) ∧ (applyLatches s).rep = s.rep := by
  unfold applyLatches
  simp

@[simp] theorem finishJob_frame (s : State) :
    SameTime s (finishJob s) ∧ (finishJob s).pos = s.pos ∧ (finishJob s).cov = s.cov ∧ SamePort s (finishJob s) ∧
    (finishJob s).sup = s.sup ∧ (finishJob s).relay = s.relay ∧ SameBooks s (finishJob s) ∧ SameRun s (finishJob s) ∧
    SameRings s (finishJob s) := by
  unfold finishJob
  dsimp only
  repeat' split
  all_goals simp

@[simp] theorem writeConsumer_frame (s : State) :
    SameTime s (writeConsumer s) ∧ (writeConsumer s).pos = s.pos ∧ (writeConsumer s).cov = s.cov ∧
    SamePort s (writeConsumer s) ∧ (writeConsumer s).sup = s.sup ∧ (writeConsumer s).relay = s.relay ∧
    SameBooks s (writeConsumer s) ∧ SameRun s (writeConsumer s) ∧ SameRings s (writeConsumer s) := by
  unfold writeConsumer
  dsimp only
  repeat' split
  all_goals simp

@[simp] theorem writeStatus_frame (s : State) :
    SameTime s (writeStatus s) ∧ (writeStatus s).pos = s.pos ∧ (writeStatus s).cov = s.cov ∧
    SamePort s (writeStatus s) ∧ (writeStatus s).sup = s.sup ∧ (writeStatus s).relay = s.relay ∧
    SameBooks s (writeStatus s) ∧ SameRun s (writeStatus s) ∧ SameRings s (writeStatus s) := by
  unfold writeStatus
  dsimp only
  repeat' split
  all_goals simp

@[simp] theorem complete_frame (st : Status) (vals : List (Nat × Nat)) (rewrites : List (Nat × Nat × Nat)) (s : State) :
    SameTime s (complete st vals rewrites s) ∧ (complete st vals rewrites s).pos = s.pos ∧
    (complete st vals rewrites s).cov = s.cov ∧ SamePort s (complete st vals rewrites s) ∧
    (complete st vals rewrites s).sup = s.sup ∧ (complete st vals rewrites s).relay = s.relay ∧
    SameBooks s (complete st vals rewrites s) ∧ SameRun s (complete st vals rewrites s) ∧
    SameRings s (complete st vals rewrites s) := by
  unfold complete
  dsimp only
  repeat' split
  all_goals simp

@[simp] theorem refuse_frame (st : Status) (s : State) :
    SameTime s (refuse st s) ∧ (refuse st s).pos = s.pos ∧ (refuse st s).cov = s.cov ∧ SamePort s (refuse st s) ∧
    (refuse st s).sup = s.sup ∧ (refuse st s).relay = s.relay ∧ SameBooks s (refuse st s) ∧ SameRun s (refuse st s) ∧
    SameRings s (refuse st s) := by
  unfold refuse
  simp

@[simp] theorem covMove_frame (new : CovState) (cause : CovCause) (s : State) :
    SameTime s (covMove new cause s) ∧ (covMove new cause s).pos = s.pos ∧ (covMove new cause s).cov.hold = s.cov.hold ∧
    SamePort s (covMove new cause s) ∧ (covMove new cause s).sup = s.sup ∧ (covMove new cause s).relay = s.relay ∧
    SameBooks s (covMove new cause s) ∧ (covMove new cause s).cmd = s.cmd ∧ SameRings s (covMove new cause s) := by
  unfold covMove
  dsimp only
  repeat' split
  all_goals simp

@[simp] theorem openingTest_frame (s : State) :
    SameTime s (openingTest s) ∧ (openingTest s).pos = s.pos ∧ (openingTest s).cov.hold = s.cov.hold ∧
    SamePort s (openingTest s) ∧ (openingTest s).sup = s.sup ∧ (openingTest s).relay = s.relay ∧
    SameBooks s (openingTest s) ∧ (openingTest s).cmd = s.cmd ∧ SameRings s (openingTest s) := by
  unfold openingTest
  dsimp only
  repeat' split
  all_goals simp

@[simp] theorem covDark_frame (cause : CovCause) (s : State) :
    SameTime s (covDark cause s) ∧ (covDark cause s).pos = s.pos ∧ (covDark cause s).cov.hold = s.cov.hold ∧
    SamePort s (covDark cause s) ∧ (covDark cause s).sup = s.sup ∧ (covDark cause s).relay = s.relay ∧
    SameBooks s (covDark cause s) ∧ (covDark cause s).cmd = s.cmd ∧ SameRings s (covDark cause s) := by
  unfold covDark
  dsimp only
  repeat' split
  all_goals simp

@[simp] theorem covAttr_frame (c : Cover) (s : State) :
    SameTime s (covAttr c s) ∧ (covAttr c s).pos = s.pos ∧ (covAttr c s).cov.hold = s.cov.hold ∧
    SamePort s (covAttr c s) ∧ (covAttr c s).sup = s.sup ∧ (covAttr c s).relay = s.relay ∧ SameBooks s (covAttr c s) ∧
    (covAttr c s).cmd = s.cmd ∧ SameRings s (covAttr c s) := by
  unfold covAttr
  repeat' split
  all_goals simp

@[simp] theorem covLeaveRunning_frame (s : State) :
    SameTime s (covLeaveRunning s) ∧ (covLeaveRunning s).pos = s.pos ∧ (covLeaveRunning s).cov.hold = s.cov.hold ∧
    SamePort s (covLeaveRunning s) ∧ (covLeaveRunning s).sup = s.sup ∧ (covLeaveRunning s).relay = s.relay ∧
    SameBooks s (covLeaveRunning s) ∧ (covLeaveRunning s).cmd = s.cmd ∧ SameRings s (covLeaveRunning s) := by
  unfold covLeaveRunning
  repeat' split
  all_goals simp

@[simp] theorem covClose_frame (cause : CovCause) (s : State) :
    SameTime s (covClose cause s) ∧ (covClose cause s).pos = s.pos ∧ (covClose cause s).cov.hold = s.cov.hold ∧
    SamePort s (covClose cause s) ∧ (covClose cause s).sup = s.sup ∧ (covClose cause s).relay = s.relay ∧
    SameBooks s (covClose cause s) ∧ (covClose cause s).cmd = s.cmd ∧ SameRings s (covClose cause s) := by
  unfold covClose
  repeat' split
  all_goals simp

@[simp] theorem covPositionLost_frame (s : State) :
    SameTime s (covPositionLost s) ∧ (covPositionLost s).pos = s.pos ∧ (covPositionLost s).cov.hold = s.cov.hold ∧
    SamePort s (covPositionLost s) ∧ (covPositionLost s).sup = s.sup ∧ (covPositionLost s).relay = s.relay ∧
    SameBooks s (covPositionLost s) ∧ (covPositionLost s).cmd = s.cmd ∧ SameRings s (covPositionLost s) := by
  unfold covPositionLost
  repeat' split
  all_goals simp

@[simp] theorem covBackhaul_frame (present : Bool) (s : State) :
    SameTime s (covBackhaul present s) ∧ (covBackhaul present s).pos = s.pos ∧
    (covBackhaul present s).cov.hold = s.cov.hold ∧ SamePort s (covBackhaul present s) ∧
    (covBackhaul present s).sup = s.sup ∧ (covBackhaul present s).relay = s.relay ∧
    SameBooks s (covBackhaul present s) ∧ (covBackhaul present s).cmd = s.cmd ∧ SameRings s (covBackhaul present s) := by
  unfold covBackhaul
  repeat' split
  all_goals simp

@[simp] theorem covHold_frame (s : State) :
    SameTime s (covHold s) ∧ (covHold s).pos = s.pos ∧ SamePort s (covHold s) ∧ (covHold s).sup = s.sup ∧
    (covHold s).relay = s.relay ∧ SameBooks s (covHold s) ∧ (covHold s).cmd = s.cmd ∧ SameRings s (covHold s) := by
  unfold covHold
  repeat' split
  all_goals simp

@[simp] theorem covRelease_frame (s : State) :
    SameTime s (covRelease s) ∧ (covRelease s).pos = s.pos ∧ SamePort s (covRelease s) ∧ (covRelease s).sup = s.sup ∧
    (covRelease s).relay = s.relay ∧ SameBooks s (covRelease s) ∧ (covRelease s).cmd = s.cmd ∧
    SameRings s (covRelease s) := by
  unfold covRelease
  repeat' split
  all_goals simp

@[simp] theorem lostGraceExpiry_frame (s : State) :
    SameTime s (lostGraceExpiry s) ∧ (lostGraceExpiry s).pos = s.pos ∧ (lostGraceExpiry s).cov.hold = s.cov.hold ∧
    SamePort s (lostGraceExpiry s) ∧ (lostGraceExpiry s).sup = s.sup ∧ (lostGraceExpiry s).relay = s.relay ∧
    SameBooks s (lostGraceExpiry s) ∧ (lostGraceExpiry s).cmd = s.cmd ∧ SameRings s (lostGraceExpiry s) := by
  unfold lostGraceExpiry
  repeat' split
  all_goals simp

@[simp] theorem backhaulLossExpiry_frame (s : State) :
    SameTime s (backhaulLossExpiry s) ∧ (backhaulLossExpiry s).pos = s.pos ∧
    (backhaulLossExpiry s).cov.hold = s.cov.hold ∧ SamePort s (backhaulLossExpiry s) ∧
    (backhaulLossExpiry s).sup = s.sup ∧ (backhaulLossExpiry s).relay = s.relay ∧ SameBooks s (backhaulLossExpiry s) ∧
    (backhaulLossExpiry s).cmd = s.cmd ∧ SameRings s (backhaulLossExpiry s) := by
  unfold backhaulLossExpiry
  repeat' split
  all_goals simp

@[simp] theorem warmUpExpiry_frame (s : State) :
    SameTime s (warmUpExpiry s) ∧ (warmUpExpiry s).pos = s.pos ∧ (warmUpExpiry s).cov.hold = s.cov.hold ∧
    SamePort s (warmUpExpiry s) ∧ (warmUpExpiry s).sup = s.sup ∧ (warmUpExpiry s).relay = s.relay ∧
    SameBooks s (warmUpExpiry s) ∧ (warmUpExpiry s).cmd = s.cmd ∧ SameRings s (warmUpExpiry s) := by
  unfold warmUpExpiry
  repeat' split
  all_goals simp

@[simp] theorem drainExpiry_frame (s : State) :
    SameTime s (drainExpiry s) ∧ (drainExpiry s).pos = s.pos ∧ (drainExpiry s).cov.hold = s.cov.hold ∧
    SamePort s (drainExpiry s) ∧ (drainExpiry s).sup = s.sup ∧ (drainExpiry s).relay = s.relay ∧
    SameBooks s (drainExpiry s) ∧ (drainExpiry s).cmd = s.cmd ∧ SameRings s (drainExpiry s) := by
  unfold drainExpiry
  repeat' split
  all_goals simp

@[simp] theorem darkMinimumExpiry_frame (s : State) :
    SameTime s (darkMinimumExpiry s) ∧ (darkMinimumExpiry s).pos = s.pos ∧ (darkMinimumExpiry s).cov.hold = s.cov.hold ∧
    SamePort s (darkMinimumExpiry s) ∧ (darkMinimumExpiry s).sup = s.sup ∧ (darkMinimumExpiry s).relay = s.relay ∧
    SameBooks s (darkMinimumExpiry s) ∧ (darkMinimumExpiry s).cmd = s.cmd ∧ SameRings s (darkMinimumExpiry s) := by
  unfold darkMinimumExpiry
  simp

@[simp] theorem recomputeFlag_frame (cause : Nat) (p : Nat) (s : State) :
    SameTime s (recomputeFlag cause p s) ∧ (recomputeFlag cause p s).pos = s.pos ∧
    (recomputeFlag cause p s).cov = s.cov ∧ SamePort s (recomputeFlag cause p s) ∧
    (recomputeFlag cause p s).sup = s.sup ∧ (recomputeFlag cause p s).relay = s.relay ∧
    (recomputeFlag cause p s).gate = s.gate ∧ (recomputeFlag cause p s).rate = s.rate ∧
    (recomputeFlag cause p s).acct = s.acct ∧ (recomputeFlag cause p s).cache = s.cache ∧
    (recomputeFlag cause p s).settle.partners = s.settle.partners ∧
    (recomputeFlag cause p s).settle.region = s.settle.region ∧
    (recomputeFlag cause p s).settle.accums = s.settle.accums ∧ (recomputeFlag cause p s).settle.walk = s.settle.walk ∧
    (recomputeFlag cause p s).settle.walkCount = s.settle.walkCount ∧ (recomputeFlag cause p s).cmd = s.cmd ∧
    SameRings s (recomputeFlag cause p s) := by
  unfold recomputeFlag
  dsimp only
  repeat' split
  all_goals simp

@[simp] theorem foldl_recomputeFlag_frame (l : List Nat) (s : State) :
    let t := l.foldl (fun s p => recomputeFlag 1 p s) s
    SameTime s t ∧ t.pos = s.pos ∧ t.cov = s.cov ∧ SamePort s t ∧ t.sup = s.sup ∧ t.relay = s.relay ∧ t.gate = s.gate ∧
    t.rate = s.rate ∧ t.acct = s.acct ∧ t.cache = s.cache ∧ t.settle.partners = s.settle.partners ∧
    t.settle.region = s.settle.region ∧ t.settle.accums = s.settle.accums ∧ t.settle.walk = s.settle.walk ∧
    t.settle.walkCount = s.settle.walkCount ∧ t.cmd = s.cmd ∧ SameRings s t := by
  intro t
  refine foldl_frame (R := fun s t => SameTime s t ∧ t.pos = s.pos ∧ t.cov = s.cov ∧ SamePort s t ∧ t.sup = s.sup ∧ t.relay = s.relay ∧ t.gate = s.gate ∧ t.rate = s.rate ∧ t.acct = s.acct ∧ t.cache = s.cache ∧ t.settle.partners = s.settle.partners ∧ t.settle.region = s.settle.region ∧ t.settle.accums = s.settle.accums ∧ t.settle.walk = s.settle.walk ∧ t.settle.walkCount = s.settle.walkCount ∧ t.cmd = s.cmd ∧ SameRings s t) (by simp) (fun s t a h => ?_) l s
  simp_all

@[simp] theorem settlePublish_frame (region : Nat) (s : State) :
    SameTime s (settlePublish region s) ∧ (settlePublish region s).pos = s.pos ∧ (settlePublish region s).cov = s.cov ∧
    SamePort s (settlePublish region s) ∧ (settlePublish region s).sup = s.sup ∧
    (settlePublish region s).relay = s.relay ∧ (settlePublish region s).gate = s.gate ∧
    (settlePublish region s).rate = s.rate ∧ (settlePublish region s).acct = s.acct ∧
    (settlePublish region s).cache = s.cache ∧ (settlePublish region s).settle.partners = s.settle.partners ∧
    (settlePublish region s).cmd = s.cmd ∧ SameRings s (settlePublish region s) := by
  unfold settlePublish
  simp

@[simp] theorem addAccum_frame (pair : Nat) (charge : Nat) (up : Nat) (down : Nat) (events : Nat) (s : State) :
    SameTime s (addAccum pair charge up down events s) ∧ (addAccum pair charge up down events s).pos = s.pos ∧
    (addAccum pair charge up down events s).cov = s.cov ∧ (addAccum pair charge up down events s).path = s.path ∧
    (addAccum pair charge up down events s).sup = s.sup ∧ (addAccum pair charge up down events s).relay = s.relay ∧
    (addAccum pair charge up down events s).gate = s.gate ∧ (addAccum pair charge up down events s).rate = s.rate ∧
    (addAccum pair charge up down events s).acct = s.acct ∧ (addAccum pair charge up down events s).cache = s.cache ∧
    (addAccum pair charge up down events s).settle.partners = s.settle.partners ∧
    (addAccum pair charge up down events s).settle.region = s.settle.region ∧
    (addAccum pair charge up down events s).cmd = s.cmd ∧ (addAccum pair charge up down events s).rep = s.rep := by
  unfold addAccum
  dsimp only
  simp

@[simp] theorem cutPair_frame (w : Walk) (pair : Nat) (s : State) :
    SameTime s (cutPair w pair s) ∧ (cutPair w pair s).pos = s.pos ∧ (cutPair w pair s).cov = s.cov ∧
    SamePort s (cutPair w pair s) ∧ (cutPair w pair s).sup = s.sup ∧ (cutPair w pair s).relay = s.relay ∧
    (cutPair w pair s).gate = s.gate ∧ (cutPair w pair s).rate = s.rate ∧ (cutPair w pair s).acct = s.acct ∧
    (cutPair w pair s).cache = s.cache ∧ (cutPair w pair s).settle.partners = s.settle.partners ∧
    (cutPair w pair s).settle.region = s.settle.region ∧ (cutPair w pair s).cmd = s.cmd ∧
    SameRings s (cutPair w pair s) := by
  unfold cutPair
  dsimp only
  simp

@[simp] theorem endWalk_frame (w : Walk) (s : State) :
    SameTime s (endWalk w s) ∧ (endWalk w s).pos = s.pos ∧ (endWalk w s).cov = s.cov ∧ SamePort s (endWalk w s) ∧
    (endWalk w s).sup = s.sup ∧ (endWalk w s).relay = s.relay ∧ (endWalk w s).gate = s.gate ∧
    (endWalk w s).rate = s.rate ∧ (endWalk w s).acct = s.acct ∧ (endWalk w s).cache = s.cache ∧
    (endWalk w s).settle.partners = s.settle.partners ∧ (endWalk w s).settle.region = s.settle.region ∧
    SameRunStep s (endWalk w s) ∧ SameRings s (endWalk w s) := by
  unfold endWalk
  dsimp only
  repeat' split
  all_goals simp

@[simp] theorem runWalk_frame (n : Nat) (s : State) :
    SameTime s (runWalk n s) ∧ (runWalk n s).pos = s.pos ∧ (runWalk n s).cov = s.cov ∧ SamePort s (runWalk n s) ∧
    (runWalk n s).sup = s.sup ∧ (runWalk n s).relay = s.relay ∧ (runWalk n s).gate = s.gate ∧
    (runWalk n s).rate = s.rate ∧ (runWalk n s).acct = s.acct ∧ (runWalk n s).cache = s.cache ∧
    (runWalk n s).settle.partners = s.settle.partners ∧ (runWalk n s).settle.region = s.settle.region ∧
    SameRunStep s (runWalk n s) ∧ SameView s (runWalk n s) := by
  induction n generalizing s with
  | zero => simp [runWalk]
  | succ n ih =>
    unfold runWalk
    dsimp only
    repeat' split
    all_goals simp_all

@[simp] theorem goOnWalk_frame (s : State) :
    SameTime s (goOnWalk s) ∧ (goOnWalk s).pos = s.pos ∧ (goOnWalk s).cov = s.cov ∧ SamePort s (goOnWalk s) ∧
    (goOnWalk s).sup = s.sup ∧ (goOnWalk s).relay = s.relay ∧ (goOnWalk s).gate = s.gate ∧ (goOnWalk s).rate = s.rate ∧
    (goOnWalk s).acct = s.acct ∧ (goOnWalk s).cache = s.cache ∧ (goOnWalk s).settle.partners = s.settle.partners ∧
    (goOnWalk s).settle.region = s.settle.region ∧ SameRunStep s (goOnWalk s) ∧ SameView s (goOnWalk s) := by
  unfold goOnWalk
  simp

@[simp] theorem beginWalk_frame (stopCause : Bool) (s : State) :
    SameTime s (beginWalk stopCause s) ∧ (beginWalk stopCause s).pos = s.pos ∧ (beginWalk stopCause s).cov = s.cov ∧
    SamePort s (beginWalk stopCause s) ∧ (beginWalk stopCause s).sup = s.sup ∧ (beginWalk stopCause s).relay = s.relay ∧
    (beginWalk stopCause s).gate = s.gate ∧ (beginWalk stopCause s).rate = s.rate ∧
    (beginWalk stopCause s).acct = s.acct ∧ (beginWalk stopCause s).cache = s.cache ∧
    (beginWalk stopCause s).settle.partners = s.settle.partners ∧
    (beginWalk stopCause s).settle.region = s.settle.region ∧ SameRunStep s (beginWalk stopCause s) ∧
    SameView s (beginWalk stopCause s) := by
  unfold beginWalk
  simp

end Sys2Proof.Machine
end

