-- ==== Sys2Proof/Laws/RelayFrames.lean ====
section
/-! SUPPORT. What each operation of the Uplink Relay, the Account Cache and the Link Supervisor leaves unchanged: one lemma per operation. -/

namespace Sys2Proof.Machine

@[simp] theorem setEntry_frame (e : Nat) (en : Entry) (s : State) :
    SameTime s (setEntry e en s) ∧ (setEntry e en s).pos = s.pos ∧ (setEntry e en s).cov = s.cov ∧
    (setEntry e en s).path = s.path ∧ (setEntry e en s).sup = s.sup ∧ SameBooks s (setEntry e en s) ∧
    (setEntry e en s).cmd = s.cmd ∧ (setEntry e en s).rep = s.rep := by
  unfold setEntry
  simp

@[simp] theorem setEntry_table (e : Nat) (en : Entry) (s : State) :
    (setEntry e en s).relay.table = put s.relay.table e en := rfl

@[simp] theorem setLink_frame (k : Nat) (l : Link) (s : State) :
    SameTime s (setLink k l s) ∧ (setLink k l s).pos = s.pos ∧ (setLink k l s).cov = s.cov ∧
    (setLink k l s).path = s.path ∧ SameSelector s (setLink k l s) ∧ (setLink k l s).relay = s.relay ∧
    SameBooks s (setLink k l s) ∧ (setLink k l s).cmd = s.cmd ∧ (setLink k l s).rep = s.rep := by
  unfold setLink
  simp

@[simp] theorem setLink_links (k : Nat) (l : Link) (s : State) :
    (setLink k l s).sup.links = put s.sup.links k l := rfl

@[simp] theorem tryTake_frame (s : State) :
    SameTime s (tryTake s) ∧ (tryTake s).pos = s.pos ∧ (tryTake s).cov = s.cov ∧ SamePort s (tryTake s) ∧
    (tryTake s).sup = s.sup ∧ SameBooks s (tryTake s) ∧ (tryTake s).cmd = s.cmd ∧ (tryTake s).rep = s.rep := by
  unfold tryTake
  dsimp only
  repeat' split
  all_goals simp

@[simp] theorem freeEntry_frame (e : Nat) (s : State) :
    SameTime s (freeEntry e s) ∧ (freeEntry e s).pos = s.pos ∧ (freeEntry e s).cov = s.cov ∧
    (freeEntry e s).path = s.path ∧ (freeEntry e s).sup = s.sup ∧ SameBooks s (freeEntry e s) ∧
    (freeEntry e s).cmd = s.cmd ∧ (freeEntry e s).rep = s.rep := by
  unfold freeEntry
  simp

@[simp] theorem endEntry_frame (inPass : Bool) (e : Nat) (f : Final) (link : Option Nat) (s : State) :
    SameTime s (endEntry inPass e f link s) ∧ (endEntry inPass e f link s).pos = s.pos ∧
    (endEntry inPass e f link s).cov = s.cov ∧ SamePort s (endEntry inPass e f link s) ∧
    (endEntry inPass e f link s).sup = s.sup ∧ SameBooks s (endEntry inPass e f link s) ∧
    SameButCounts s (endEntry inPass e f link s) ∧ (endEntry inPass e f link s).rep = s.rep := by
  unfold endEntry
  dsimp only
  repeat' split
  all_goals simp

@[simp] theorem installSchedule_frame (sch : Schedule) (s : State) :
    SameTime s (installSchedule sch s) ∧ (installSchedule sch s).pos = s.pos ∧ (installSchedule sch s).cov = s.cov ∧
    (installSchedule sch s).path = s.path ∧ (installSchedule sch s).sup = s.sup ∧ SameLists s (installSchedule sch s) ∧
    SameBooks s (installSchedule sch s) ∧ (installSchedule sch s).cmd = s.cmd ∧ (installSchedule sch s).rep = s.rep := by
  unfold installSchedule
  simp

@[simp] theorem scheduleModeChange_frame (s : State) :
    SameTime s (scheduleModeChange s) ∧ (scheduleModeChange s).pos = s.pos ∧ (scheduleModeChange s).cov = s.cov ∧
    (scheduleModeChange s).path = s.path ∧ (scheduleModeChange s).sup = s.sup ∧ SameLists s (scheduleModeChange s) ∧
    SameBooks s (scheduleModeChange s) ∧ (scheduleModeChange s).cmd = s.cmd ∧ (scheduleModeChange s).rep = s.rep := by
  unfold scheduleModeChange
  repeat' split
  all_goals simp

@[simp] theorem examine_frame (n : Nat) (m : Nat) (s : State) :
    SameTime s (examine n m s).1 ∧ (examine n m s).1.pos = s.pos ∧ (examine n m s).1.cov = s.cov ∧
    (examine n m s).1.path = s.path ∧ (examine n m s).1.sup = s.sup ∧ SameLists s (examine n m s).1 ∧
    SameBooks s (examine n m s).1 ∧ (examine n m s).1.cmd = s.cmd ∧ (examine n m s).1.rep = s.rep := by
  induction n generalizing m s with
  | zero => simp [examine]
  | succ n ih =>
    cases m with
    | zero => simp [examine]
    | succ m =>
      unfold examine
      dsimp only
      repeat' split
      all_goals simp_all

@[simp] theorem chooseWaiting_frame (s : State) :
    SameTime s (chooseWaiting s).1 ∧ (chooseWaiting s).1.pos = s.pos ∧ (chooseWaiting s).1.cov = s.cov ∧
    (chooseWaiting s).1.path = s.path ∧ (chooseWaiting s).1.sup = s.sup ∧ SameLists s (chooseWaiting s).1 ∧
    SameBooks s (chooseWaiting s).1 ∧ (chooseWaiting s).1.cmd = s.cmd ∧ (chooseWaiting s).1.rep = s.rep := by
  unfold chooseWaiting
  repeat' split
  all_goals simp

@[simp] theorem markPosted_frame (e : Nat) (k : Nat) (s : State) :
    SameTime s (markPosted e k s) ∧ (markPosted e k s).pos = s.pos ∧ (markPosted e k s).cov = s.cov ∧
    (markPosted e k s).path = s.path ∧ SameSelector s (markPosted e k s) ∧ SameBooks s (markPosted e k s) ∧
    (markPosted e k s).cmd = s.cmd ∧ (markPosted e k s).rep = s.rep := by
  unfold markPosted
  dsimp only
  simp

@[simp] theorem dropPosts_frame (cut : Nat → Bool) (s : State) :
    SameTime s (dropPosts cut s) ∧ (dropPosts cut s).pos = s.pos ∧ (dropPosts cut s).cov = s.cov ∧
    SamePort s (dropPosts cut s) ∧ (dropPosts cut s).sup = s.sup ∧ (dropPosts cut s).relay.ready = s.relay.ready ∧
    (dropPosts cut s).relay.held = s.relay.held ∧ (dropPosts cut s).relay.takePtr = s.relay.takePtr ∧
    (dropPosts cut s).relay.take = s.relay.take ∧ (dropPosts cut s).relay.table = s.relay.table ∧
    (dropPosts cut s).relay.waitList = s.relay.waitList ∧ (dropPosts cut s).relay.retryList = s.relay.retryList ∧
    (dropPosts cut s).relay.running = s.relay.running ∧ (dropPosts cut s).relay.staged = s.relay.staged ∧
    (dropPosts cut s).relay.round = s.relay.round ∧ (dropPosts cut s).relay.postSeq = s.relay.postSeq ∧
    SameBooks s (dropPosts cut s) ∧ (dropPosts cut s).cmd = s.cmd ∧ (dropPosts cut s).rep = s.rep := by
  unfold dropPosts
  repeat' split
  all_goals simp

@[simp] theorem post_frame (e : Nat) (k : Nat) (s : State) :
    SameTime s (post e k s) ∧ (post e k s).pos = s.pos ∧ (post e k s).cov = s.cov ∧ SamePort s (post e k s) ∧
    SameSelector s (post e k s) ∧ SameBooks s (post e k s) ∧ (post e k s).cmd = s.cmd ∧ (post e k s).rep = s.rep := by
  unfold post
  dsimp only
  repeat' split
  all_goals simp

@[simp] theorem judgeHead_frame (retry : Bool) (e : Nat) (s : State) :
    SameTime s (judgeHead retry e s).1 ∧ (judgeHead retry e s).1.pos = s.pos ∧ (judgeHead retry e s).1.cov = s.cov ∧
    SamePort s (judgeHead retry e s).1 ∧ SameSelector s (judgeHead retry e s).1 ∧ SameBooks s (judgeHead retry e s).1 ∧
    SameButCounts s (judgeHead retry e s).1 ∧ (judgeHead retry e s).1.rep = s.rep := by
  unfold judgeHead
  dsimp only
  repeat' split
  all_goals simp

@[simp] theorem passLoop_frame (n : Nat) (s : State) :
    SameTime s (passLoop n s) ∧ (passLoop n s).pos = s.pos ∧ (passLoop n s).cov = s.cov ∧ SamePort s (passLoop n s) ∧
    SameSelector s (passLoop n s) ∧ SameBooks s (passLoop n s) ∧ SameButCounts s (passLoop n s) ∧
    (passLoop n s).rep = s.rep := by
  induction n generalizing s with
  | zero => simp [passLoop]
  | succ n ih =>
    unfold passLoop
    dsimp only
    repeat' split
    all_goals simp_all

@[simp] theorem dispatchPass_frame (s : State) :
    SameTime s (dispatchPass s) ∧ (dispatchPass s).pos = s.pos ∧ (dispatchPass s).cov = s.cov ∧
    SamePort s (dispatchPass s) ∧ SameSelector s (dispatchPass s) ∧ SameBooks s (dispatchPass s) ∧
    SameButCounts s (dispatchPass s) ∧ (dispatchPass s).rep = s.rep := by
  unfold dispatchPass
  repeat' split
  all_goals simp

@[simp] theorem uncount_frame (e : Nat) (s : State) :
    SameTime s (uncount e s) ∧ (uncount e s).pos = s.pos ∧ (uncount e s).cov = s.cov ∧ (uncount e s).path = s.path ∧
    SameSelector s (uncount e s) ∧ SameBooks s (uncount e s) ∧ (uncount e s).cmd = s.cmd ∧ (uncount e s).rep = s.rep := by
  unfold uncount
  dsimp only
  repeat' split
  all_goals simp

@[simp] theorem toRetry_frame (e : Nat) (s : State) :
    SameTime s (toRetry e s) ∧ (toRetry e s).pos = s.pos ∧ (toRetry e s).cov = s.cov ∧ (toRetry e s).path = s.path ∧
    (toRetry e s).sup = s.sup ∧ SameBooks s (toRetry e s) ∧ (toRetry e s).cmd = s.cmd ∧ (toRetry e s).rep = s.rep := by
  unfold toRetry
  dsimp only
  simp

@[simp] theorem failEntry_frame (e : Nat) (s : State) :
    SameTime s (failEntry e s) ∧ (failEntry e s).pos = s.pos ∧ (failEntry e s).cov = s.cov ∧
    SamePort s (failEntry e s) ∧ (failEntry e s).sup = s.sup ∧ SameBooks s (failEntry e s) ∧
    SameButCounts s (failEntry e s) ∧ (failEntry e s).rep = s.rep := by
  unfold failEntry
  repeat' split
  all_goals simp

@[simp] theorem foldl_releaseEntry_frame (l : List (Nat × Entry)) (s : State) :
    let t := l.foldl (fun s p =>
      if p.2.completionHeld then setEntry p.1 { entryOf s p.1 with offCount := true } s else failEntry p.1 s) s
    SameTime s t ∧ t.pos = s.pos ∧ t.cov = s.cov ∧ SamePort s t ∧ t.sup = s.sup ∧ SameBooks s t ∧ SameButCounts s t ∧
    t.rep = s.rep := by
  intro t
  refine foldl_frame (R := fun s t => SameTime s t ∧ t.pos = s.pos ∧ t.cov = s.cov ∧ SamePort s t ∧ t.sup = s.sup ∧ SameBooks s t ∧ SameButCounts s t ∧ t.rep = s.rep) (by simp) (fun s t a h => ?_) l s
  split <;> simp_all

@[simp] theorem releaseLink_frame (k : Nat) (s : State) :
    SameTime s (releaseLink k s) ∧ (releaseLink k s).pos = s.pos ∧ (releaseLink k s).cov = s.cov ∧
    SamePort s (releaseLink k s) ∧ SameSelector s (releaseLink k s) ∧ SameBooks s (releaseLink k s) ∧
    SameButCounts s (releaseLink k s) ∧ (releaseLink k s).rep = s.rep := by
  unfold releaseLink
  dsimp only
  repeat' split
  all_goals simp

@[simp] theorem setLine_frame (i : Nat) (l : Line) (s : State) :
    SameTime s (setLine i l s) ∧ (setLine i l s).pos = s.pos ∧ (setLine i l s).cov = s.cov ∧
    (setLine i l s).path = s.path ∧ (setLine i l s).sup = s.sup ∧ (setLine i l s).relay = s.relay ∧
    (setLine i l s).gate = s.gate ∧ (setLine i l s).rate = s.rate ∧ (setLine i l s).acct = s.acct ∧
    (setLine i l s).cache.lru = s.cache.lru ∧ (setLine i l s).cache.misses = s.cache.misses ∧
    (setLine i l s).cache.flush = s.cache.flush ∧ (setLine i l s).settle = s.settle ∧ (setLine i l s).cmd = s.cmd ∧
    (setLine i l s).rep = s.rep := by
  unfold setLine
  simp

@[simp] theorem setLine_lines (i : Nat) (l : Line) (s : State) :
    (setLine i l s).cache.lines = put s.cache.lines i l := rfl

@[simp] theorem beginWriteBack_frame (i : Nat) (s : State) :
    SameTime s (beginWriteBack i s) ∧ (beginWriteBack i s).pos = s.pos ∧ (beginWriteBack i s).cov = s.cov ∧
    SamePort s (beginWriteBack i s) ∧ (beginWriteBack i s).sup = s.sup ∧ (beginWriteBack i s).relay = s.relay ∧
    (beginWriteBack i s).gate = s.gate ∧ (beginWriteBack i s).rate = s.rate ∧ (beginWriteBack i s).acct = s.acct ∧
    (beginWriteBack i s).cache.lru = s.cache.lru ∧ (beginWriteBack i s).cache.misses = s.cache.misses ∧
    (beginWriteBack i s).cache.flush = s.cache.flush ∧ (beginWriteBack i s).settle = s.settle ∧
    (beginWriteBack i s).cmd = s.cmd ∧ (beginWriteBack i s).rep = s.rep := by
  unfold beginWriteBack
  dsimp only
  repeat' split
  all_goals simp

@[simp] theorem touchLine_frame (i : Nat) (s : State) :
    SameTime s (touchLine i s) ∧ (touchLine i s).pos = s.pos ∧ (touchLine i s).cov = s.cov ∧
    (touchLine i s).path = s.path ∧ (touchLine i s).sup = s.sup ∧ (touchLine i s).relay = s.relay ∧
    (touchLine i s).gate = s.gate ∧ (touchLine i s).rate = s.rate ∧ (touchLine i s).acct = s.acct ∧
    (touchLine i s).cache.misses = s.cache.misses ∧ (touchLine i s).cache.flush = s.cache.flush ∧
    (touchLine i s).settle = s.settle ∧ (touchLine i s).cmd = s.cmd ∧ (touchLine i s).rep = s.rep := by
  unfold touchLine
  simp

@[simp] theorem assignVictim_frame (i : Nat) (m : Miss) (s : State) :
    SameTime s (assignVictim i m s) ∧ (assignVictim i m s).pos = s.pos ∧ (assignVictim i m s).cov = s.cov ∧
    SamePort s (assignVictim i m s) ∧ (assignVictim i m s).sup = s.sup ∧ (assignVictim i m s).relay = s.relay ∧
    (assignVictim i m s).gate = s.gate ∧ (assignVictim i m s).rate = s.rate ∧ (assignVictim i m s).acct = s.acct ∧
    (assignVictim i m s).cache.misses = s.cache.misses ∧ (assignVictim i m s).cache.flush = s.cache.flush ∧
    (assignVictim i m s).settle = s.settle ∧ (assignVictim i m s).cmd = s.cmd ∧ (assignVictim i m s).rep = s.rep := by
  unfold assignVictim
  simp

@[simp] theorem beginEvictions_frame (n : Nat) (s : State) :
    SameTime s (beginEvictions n s) ∧ (beginEvictions n s).pos = s.pos ∧ (beginEvictions n s).cov = s.cov ∧
    SamePort s (beginEvictions n s) ∧ (beginEvictions n s).sup = s.sup ∧ (beginEvictions n s).relay = s.relay ∧
    (beginEvictions n s).gate = s.gate ∧ (beginEvictions n s).rate = s.rate ∧ (beginEvictions n s).acct = s.acct ∧
    (beginEvictions n s).cache.lru = s.cache.lru ∧ (beginEvictions n s).cache.flush = s.cache.flush ∧ (beginEvictions n s).settle = s.settle ∧
    (beginEvictions n s).cmd = s.cmd ∧ (beginEvictions n s).rep = s.rep := by
  induction n generalizing s with
  | zero => simp [beginEvictions]
  | succ n ih =>
    unfold beginEvictions
    dsimp only
    repeat' split
    all_goals simp_all

@[simp] theorem endEviction_frame (i : Nat) (s : State) :
    SameTime s (endEviction i s) ∧ (endEviction i s).pos = s.pos ∧ (endEviction i s).cov = s.cov ∧
    (endEviction i s).path = s.path ∧ (endEviction i s).sup = s.sup ∧ (endEviction i s).relay = s.relay ∧
    (endEviction i s).gate = s.gate ∧ (endEviction i s).rate = s.rate ∧ (endEviction i s).acct = s.acct ∧
    (endEviction i s).cache.lines = s.cache.lines ∧ (endEviction i s).cache.lru = s.cache.lru ∧
    (endEviction i s).cache.flush = s.cache.flush ∧ (endEviction i s).settle = s.settle ∧
    (endEviction i s).cmd = s.cmd ∧ (endEviction i s).rep = s.rep := by
  simp [endEviction]

@[simp] theorem seekVictims_frame (n : Nat) (s : State) :
    SameTime s (seekVictims n s) ∧ (seekVictims n s).pos = s.pos ∧ (seekVictims n s).cov = s.cov ∧
    SamePort s (seekVictims n s) ∧ (seekVictims n s).sup = s.sup ∧ (seekVictims n s).relay = s.relay ∧
    (seekVictims n s).gate = s.gate ∧ (seekVictims n s).rate = s.rate ∧ (seekVictims n s).acct = s.acct ∧
    (seekVictims n s).cache.flush = s.cache.flush ∧ (seekVictims n s).settle = s.settle ∧
    (seekVictims n s).cmd = s.cmd ∧ (seekVictims n s).rep = s.rep := by
  induction n generalizing s with
  | zero => simp [seekVictims]
  | succ n ih =>
    unfold seekVictims
    dsimp only
    repeat' split
    all_goals simp_all

@[simp] theorem serveMisses_frame (s : State) :
    SameTime s (serveMisses s) ∧ (serveMisses s).pos = s.pos ∧ (serveMisses s).cov = s.cov ∧
    SamePort s (serveMisses s) ∧ (serveMisses s).sup = s.sup ∧ (serveMisses s).relay = s.relay ∧
    (serveMisses s).gate = s.gate ∧ (serveMisses s).rate = s.rate ∧ (serveMisses s).acct = s.acct ∧
    (serveMisses s).cache.flush = s.cache.flush ∧ (serveMisses s).settle = s.settle ∧ (serveMisses s).cmd = s.cmd ∧
    (serveMisses s).rep = s.rep := by
  unfold serveMisses
  repeat' split
  all_goals simp

@[simp] theorem requestLine_frame (r : Requester) (a : Nat) (s : State) :
    SameTime s (requestLine r a s) ∧ (requestLine r a s).pos = s.pos ∧ (requestLine r a s).cov = s.cov ∧
    SamePort s (requestLine r a s) ∧ (requestLine r a s).sup = s.sup ∧ (requestLine r a s).relay = s.relay ∧
    (requestLine r a s).gate = s.gate ∧ (requestLine r a s).rate = s.rate ∧ (requestLine r a s).acct = s.acct ∧
    (requestLine r a s).cache.flush = s.cache.flush ∧ (requestLine r a s).settle = s.settle ∧
    (requestLine r a s).cmd = s.cmd ∧ (requestLine r a s).rep = s.rep := by
  unfold requestLine
  repeat' split
  all_goals simp

@[simp] theorem mapLines_frame (f : Line → Line) (s : State) :
    SameTime s (mapLines f s) ∧ (mapLines f s).pos = s.pos ∧ (mapLines f s).cov = s.cov ∧ (mapLines f s).path = s.path ∧
    (mapLines f s).sup = s.sup ∧ (mapLines f s).relay = s.relay ∧ (mapLines f s).gate = s.gate ∧
    (mapLines f s).rate = s.rate ∧ (mapLines f s).acct = s.acct ∧ (mapLines f s).cache.lru = s.cache.lru ∧
    (mapLines f s).cache.misses = s.cache.misses ∧ (mapLines f s).cache.flush = s.cache.flush ∧
    (mapLines f s).settle = s.settle ∧ (mapLines f s).cmd = s.cmd ∧ (mapLines f s).rep = s.rep := by
  simp [mapLines]

@[simp] theorem withdraw_frame (r : Requester) (s : State) :
    SameTime s (withdraw r s) ∧ (withdraw r s).pos = s.pos ∧ (withdraw r s).cov = s.cov ∧ (withdraw r s).path = s.path ∧
    (withdraw r s).sup = s.sup ∧ (withdraw r s).relay = s.relay ∧ (withdraw r s).gate = s.gate ∧
    (withdraw r s).rate = s.rate ∧ (withdraw r s).acct = s.acct ∧ (withdraw r s).cache.flush = s.cache.flush ∧
    (withdraw r s).settle = s.settle ∧ (withdraw r s).cmd = s.cmd ∧ (withdraw r s).rep = s.rep := by
  unfold withdraw
  dsimp only
  simp

@[simp] theorem changeLine_frame (i : Nat) (r : AcctRec) (s : State) :
    SameTime s (changeLine i r s) ∧ (changeLine i r s).pos = s.pos ∧ (changeLine i r s).cov = s.cov ∧
    (changeLine i r s).path = s.path ∧ (changeLine i r s).sup = s.sup ∧ (changeLine i r s).relay = s.relay ∧
    (changeLine i r s).gate = s.gate ∧ (changeLine i r s).rate = s.rate ∧ (changeLine i r s).acct = s.acct ∧
    (changeLine i r s).cache.lru = s.cache.lru ∧ (changeLine i r s).cache.misses = s.cache.misses ∧
    (changeLine i r s).cache.flush = s.cache.flush ∧ (changeLine i r s).settle = s.settle ∧
    (changeLine i r s).cmd = s.cmd ∧ (changeLine i r s).rep = s.rep := by
  unfold changeLine
  dsimp only
  repeat' split
  all_goals simp

@[simp] theorem answerRead_frame (a : Nat) (ans : Answer) (s : State) :
    SameTime s (answerRead a ans s) ∧ (answerRead a ans s).pos = s.pos ∧ (answerRead a ans s).cov = s.cov ∧
    SameFlow s (answerRead a ans s) ∧ (answerRead a ans s).sup = s.sup ∧ (answerRead a ans s).relay = s.relay ∧
    SameBooks s (answerRead a ans s) ∧ (answerRead a ans s).cmd = s.cmd ∧ (answerRead a ans s).rep = s.rep := by
  unfold answerRead
  repeat' split
  all_goals simp

@[simp] theorem readGrant_frame (i : Nat) (s : State) :
    SameTime s (readGrant i s) ∧ (readGrant i s).pos = s.pos ∧ (readGrant i s).cov = s.cov ∧
    SameFlow s (readGrant i s) ∧ (readGrant i s).sup = s.sup ∧ (readGrant i s).relay = s.relay ∧
    (readGrant i s).gate = s.gate ∧ (readGrant i s).rate = s.rate ∧ (readGrant i s).acct = s.acct ∧
    (readGrant i s).cache.lru = s.cache.lru ∧ (readGrant i s).cache.misses = s.cache.misses ∧
    (readGrant i s).cache.flush = s.cache.flush ∧ (readGrant i s).settle = s.settle ∧ (readGrant i s).cmd = s.cmd ∧
    (readGrant i s).rep = s.rep := by
  unfold readGrant
  dsimp only
  repeat' split
  all_goals simp

@[simp] theorem presentRead_frame (a : Nat) (s : State) :
    SameTime s (presentRead a s) ∧ (presentRead a s).pos = s.pos ∧ (presentRead a s).cov = s.cov ∧
    SameFlow s (presentRead a s) ∧ (presentRead a s).sup = s.sup ∧ (presentRead a s).relay = s.relay ∧
    (presentRead a s).gate = s.gate ∧ (presentRead a s).rate = s.rate ∧ (presentRead a s).acct = s.acct ∧
    (presentRead a s).cache.lru = s.cache.lru ∧ (presentRead a s).cache.misses = s.cache.misses ∧
    (presentRead a s).cache.flush = s.cache.flush ∧ (presentRead a s).settle = s.settle ∧
    (presentRead a s).cmd = s.cmd ∧ (presentRead a s).rep = s.rep := by
  unfold presentRead
  repeat' split
  all_goals simp

@[simp] theorem ageExpiry_frame (i : Nat) (s : State) :
    SameTime s (ageExpiry i s) ∧ (ageExpiry i s).pos = s.pos ∧ (ageExpiry i s).cov = s.cov ∧
    SamePort s (ageExpiry i s) ∧ (ageExpiry i s).sup = s.sup ∧ (ageExpiry i s).relay = s.relay ∧
    (ageExpiry i s).gate = s.gate ∧ (ageExpiry i s).rate = s.rate ∧ (ageExpiry i s).acct = s.acct ∧
    (ageExpiry i s).cache.lru = s.cache.lru ∧ (ageExpiry i s).cache.misses = s.cache.misses ∧
    (ageExpiry i s).cache.flush = s.cache.flush ∧ (ageExpiry i s).settle = s.settle ∧ (ageExpiry i s).cmd = s.cmd ∧
    (ageExpiry i s).rep = s.rep := by
  unfold ageExpiry
  repeat' split
  all_goals simp

@[simp] theorem foldl_answerRead_frame (l : List (Nat × Line)) (s : State) :
    let t := l.foldl (fun s p => answerRead (p.2.account.getD 0) .memory s) s
    SameTime s t ∧ t.pos = s.pos ∧ t.cov = s.cov ∧ SameFlow s t ∧ t.sup = s.sup ∧ t.relay = s.relay ∧ SameBooks s t ∧
    t.cmd = s.cmd ∧ t.rep = s.rep := by
  intro t
  refine foldl_frame (R := fun s t => SameTime s t ∧ t.pos = s.pos ∧ t.cov = s.cov ∧ SameFlow s t ∧ t.sup = s.sup ∧ t.relay = s.relay ∧ SameBooks s t ∧ t.cmd = s.cmd ∧ t.rep = s.rep) (by simp) (fun s t a h => ?_) l s
  simp_all

@[simp] theorem answerWaitingReads_frame (s : State) :
    SameTime s (answerWaitingReads s) ∧ (answerWaitingReads s).pos = s.pos ∧ (answerWaitingReads s).cov = s.cov ∧
    SameFlow s (answerWaitingReads s) ∧ (answerWaitingReads s).sup = s.sup ∧ (answerWaitingReads s).relay = s.relay ∧
    SameBooks s (answerWaitingReads s) ∧ (answerWaitingReads s).cmd = s.cmd ∧ (answerWaitingReads s).rep = s.rep := by
  unfold answerWaitingReads
  simp

@[simp] theorem invalidateAll_frame (s : State) :
    SameTime s (invalidateAll s) ∧ (invalidateAll s).pos = s.pos ∧ (invalidateAll s).cov = s.cov ∧
    SameFlow s (invalidateAll s) ∧ (invalidateAll s).sup = s.sup ∧ (invalidateAll s).relay = s.relay ∧
    (invalidateAll s).gate = s.gate ∧ (invalidateAll s).rate = s.rate ∧ (invalidateAll s).acct = s.acct ∧
    (invalidateAll s).cache.misses = s.cache.misses ∧ (invalidateAll s).cache.flush = s.cache.flush ∧
    (invalidateAll s).settle = s.settle ∧ (invalidateAll s).cmd = s.cmd ∧ (invalidateAll s).rep = s.rep := by
  unfold invalidateAll
  dsimp only
  simp

@[simp] theorem foldl_beginWriteBack_frame (l : List Nat) (s : State) :
    let t := l.foldl (fun s i => beginWriteBack i s) s
    SameTime s t ∧ t.pos = s.pos ∧ t.cov = s.cov ∧ SamePort s t ∧ t.sup = s.sup ∧ t.relay = s.relay ∧ t.gate = s.gate ∧
    t.rate = s.rate ∧ t.acct = s.acct ∧ t.cache.lru = s.cache.lru ∧ t.cache.misses = s.cache.misses ∧
    t.cache.flush = s.cache.flush ∧ t.settle = s.settle ∧ t.cmd = s.cmd ∧ t.rep = s.rep := by
  intro t
  refine foldl_frame (R := fun s t => SameTime s t ∧ t.pos = s.pos ∧ t.cov = s.cov ∧ SamePort s t ∧ t.sup = s.sup ∧ t.relay = s.relay ∧ t.gate = s.gate ∧ t.rate = s.rate ∧ t.acct = s.acct ∧ t.cache.lru = s.cache.lru ∧ t.cache.misses = s.cache.misses ∧ t.cache.flush = s.cache.flush ∧ t.settle = s.settle ∧ t.cmd = s.cmd ∧ t.rep = s.rep) (by simp) (fun s t a h => ?_) l s
  simp_all

@[simp] theorem writeBackAll_frame (s : State) :
    SameTime s (writeBackAll s) ∧ (writeBackAll s).pos = s.pos ∧ (writeBackAll s).cov = s.cov ∧
    SamePort s (writeBackAll s) ∧ (writeBackAll s).sup = s.sup ∧ (writeBackAll s).relay = s.relay ∧
    (writeBackAll s).gate = s.gate ∧ (writeBackAll s).rate = s.rate ∧ (writeBackAll s).acct = s.acct ∧
    (writeBackAll s).cache.lru = s.cache.lru ∧ (writeBackAll s).cache.misses = s.cache.misses ∧
    (writeBackAll s).cache.flush = s.cache.flush ∧ (writeBackAll s).settle = s.settle ∧ (writeBackAll s).cmd = s.cmd ∧
    (writeBackAll s).rep = s.rep := by
  unfold writeBackAll
  simp

@[simp] theorem swapTo_frame (t : Option Nat) (cause : SwapCause) (s : State) :
    SameTime s (swapTo t cause s) ∧ (swapTo t cause s).pos = s.pos ∧ (swapTo t cause s).cov = s.cov ∧
    SamePort s (swapTo t cause s) ∧ SameLinks s (swapTo t cause s) ∧ (swapTo t cause s).relay = s.relay ∧
    SameBooks s (swapTo t cause s) ∧ (swapTo t cause s).cmd = s.cmd ∧ SameRings s (swapTo t cause s) := by
  unfold swapTo
  dsimp only
  simp

@[simp] theorem noDeferred_frame (s : State) :
    SameTime s (noDeferred s) ∧ (noDeferred s).pos = s.pos ∧ (noDeferred s).cov = s.cov ∧ (noDeferred s).path = s.path ∧
    SameLinks s (noDeferred s) ∧ (noDeferred s).relay = s.relay ∧ SameBooks s (noDeferred s) ∧
    (noDeferred s).cmd = s.cmd ∧ (noDeferred s).rep = s.rep := by
  unfold noDeferred
  simp

@[simp] theorem noDeferred_deferred (s : State) : (noDeferred s).sup.deferred = none := rfl

@[simp] theorem bringActive_frame (modeSwap : Bool) (s : State) :
    SameTime s (bringActive modeSwap s) ∧ (bringActive modeSwap s).pos = s.pos ∧ (bringActive modeSwap s).cov = s.cov ∧
    SamePort s (bringActive modeSwap s) ∧ SameLinks s (bringActive modeSwap s) ∧
    (bringActive modeSwap s).relay = s.relay ∧ SameBooks s (bringActive modeSwap s) ∧
    (bringActive modeSwap s).cmd = s.cmd ∧ SameRings s (bringActive modeSwap s) := by
  unfold bringActive
  dsimp only
  repeat' split
  all_goals simp

@[simp] theorem publishBackhaul_frame (s : State) :
    SameTime s (publishBackhaul s) ∧ (publishBackhaul s).pos = s.pos ∧ (publishBackhaul s).cov.hold = s.cov.hold ∧
    SamePort s (publishBackhaul s) ∧ SameLinks s (publishBackhaul s) ∧ (publishBackhaul s).relay = s.relay ∧
    SameBooks s (publishBackhaul s) ∧ (publishBackhaul s).cmd = s.cmd ∧ SameRings s (publishBackhaul s) := by
  unfold publishBackhaul
  repeat' split
  all_goals simp

@[simp] theorem clearActive_frame (s : State) :
    SameTime s (clearActive s) ∧ (clearActive s).pos = s.pos ∧ (clearActive s).cov = s.cov ∧
    SamePort s (clearActive s) ∧ SameLinks s (clearActive s) ∧ (clearActive s).relay = s.relay ∧
    SameBooks s (clearActive s) ∧ (clearActive s).cmd = s.cmd ∧ SameRings s (clearActive s) := by
  unfold clearActive
  dsimp only
  repeat' split
  all_goals simp

@[simp] theorem tellMode_frame (old : LinkMode) (s : State) :
    SameTime s (tellMode old s) ∧ (tellMode old s).pos = s.pos ∧ (tellMode old s).cov = s.cov ∧
    (tellMode old s).path = s.path ∧ (tellMode old s).sup = s.sup ∧ SameLists s (tellMode old s) ∧
    SameBooks s (tellMode old s) ∧ (tellMode old s).cmd = s.cmd ∧ (tellMode old s).rep = s.rep := by
  unfold tellMode
  repeat' split
  all_goals simp

@[simp] theorem selectorEval_frame (s : State) :
    SameTime s (selectorEval s) ∧ (selectorEval s).pos = s.pos ∧ (selectorEval s).cov.hold = s.cov.hold ∧
    SamePort s (selectorEval s) ∧ SameLinks s (selectorEval s) ∧ SameLists s (selectorEval s) ∧
    SameBooks s (selectorEval s) ∧ (selectorEval s).cmd = s.cmd ∧ SameRings s (selectorEval s) := by
  unfold selectorEval
  dsimp only
  repeat' split
  all_goals simp

@[simp] theorem linkStateReport_frame (k : Nat) (old : Health) (cause : LinkCause) (s : State) :
    SameTime s (linkStateReport k old cause s) ∧ (linkStateReport k old cause s).pos = s.pos ∧
    (linkStateReport k old cause s).cov = s.cov ∧ SamePort s (linkStateReport k old cause s) ∧
    (linkStateReport k old cause s).sup = s.sup ∧ (linkStateReport k old cause s).relay = s.relay ∧
    SameBooks s (linkStateReport k old cause s) ∧ (linkStateReport k old cause s).cmd = s.cmd ∧
    SameRings s (linkStateReport k old cause s) := by
  unfold linkStateReport
  dsimp only
  simp

@[simp] theorem moveHealth_frame (k : Nat) (h : Health) (cause : LinkCause) (s : State) :
    SameTime s (moveHealth k h cause s) ∧ (moveHealth k h cause s).pos = s.pos ∧
    (moveHealth k h cause s).cov.hold = s.cov.hold ∧ SamePort s (moveHealth k h cause s) ∧
    (moveHealth k h cause s).sup.forced = s.sup.forced ∧ SameLists s (moveHealth k h cause s) ∧
    SameBooks s (moveHealth k h cause s) ∧ (moveHealth k h cause s).cmd = s.cmd ∧ SameRings s (moveHealth k h cause s) := by
  unfold moveHealth
  dsimp only
  repeat' split
  all_goals simp

@[simp] theorem evaluateLink_frame (k : Nat) (cause : LinkCause) (s : State) :
    SameTime s (evaluateLink k cause s) ∧ (evaluateLink k cause s).pos = s.pos ∧
    (evaluateLink k cause s).cov.hold = s.cov.hold ∧ SamePort s (evaluateLink k cause s) ∧
    (evaluateLink k cause s).sup.forced = s.sup.forced ∧ SameLists s (evaluateLink k cause s) ∧
    SameBooks s (evaluateLink k cause s) ∧ (evaluateLink k cause s).cmd = s.cmd ∧ SameRings s (evaluateLink k cause s) := by
  unfold evaluateLink
  dsimp only
  repeat' split
  all_goals simp

@[simp] theorem carrierChange_frame (k : Nat) (high : Bool) (s : State) :
    SameTime s (carrierChange k high s) ∧ (carrierChange k high s).pos = s.pos ∧
    (carrierChange k high s).cov.hold = s.cov.hold ∧ SamePort s (carrierChange k high s) ∧
    (carrierChange k high s).sup.forced = s.sup.forced ∧ SameLists s (carrierChange k high s) ∧
    SameBooks s (carrierChange k high s) ∧ (carrierChange k high s).cmd = s.cmd ∧ SameRings s (carrierChange k high s) := by
  unfold carrierChange
  dsimp only
  repeat' split
  all_goals simp

@[simp] theorem probationExpiry_frame (k : Nat) (s : State) :
    SameTime s (probationExpiry k s) ∧ (probationExpiry k s).pos = s.pos ∧ (probationExpiry k s).cov.hold = s.cov.hold ∧
    SamePort s (probationExpiry k s) ∧ (probationExpiry k s).sup.forced = s.sup.forced ∧
    SameLists s (probationExpiry k s) ∧ SameBooks s (probationExpiry k s) ∧ (probationExpiry k s).cmd = s.cmd ∧
    SameRings s (probationExpiry k s) := by
  unfold probationExpiry
  repeat' split
  all_goals simp

@[simp] theorem completionTimeoutExpiry_frame (k : Nat) (s : State) :
    SameTime s (completionTimeoutExpiry k s) ∧ (completionTimeoutExpiry k s).pos = s.pos ∧
    (completionTimeoutExpiry k s).cov.hold = s.cov.hold ∧ SamePort s (completionTimeoutExpiry k s) ∧
    (completionTimeoutExpiry k s).sup.forced = s.sup.forced ∧ SameLists s (completionTimeoutExpiry k s) ∧
    SameBooks s (completionTimeoutExpiry k s) ∧ (completionTimeoutExpiry k s).cmd = s.cmd ∧
    SameRings s (completionTimeoutExpiry k s) := by
  unfold completionTimeoutExpiry
  repeat' split
  all_goals simp

@[simp] theorem deferredSwapExpiry_frame (s : State) :
    SameTime s (deferredSwapExpiry s) ∧ (deferredSwapExpiry s).pos = s.pos ∧
    (deferredSwapExpiry s).cov.hold = s.cov.hold ∧ SamePort s (deferredSwapExpiry s) ∧
    SameLinks s (deferredSwapExpiry s) ∧ SameLists s (deferredSwapExpiry s) ∧ SameBooks s (deferredSwapExpiry s) ∧
    (deferredSwapExpiry s).cmd = s.cmd ∧ SameRings s (deferredSwapExpiry s) := by
  unfold deferredSwapExpiry
  repeat' split
  all_goals simp

@[simp] theorem linkCompleted_frame (k : Nat) (s : State) :
    SameTime s (linkCompleted k s) ∧ (linkCompleted k s).pos = s.pos ∧ (linkCompleted k s).cov.hold = s.cov.hold ∧
    SamePort s (linkCompleted k s) ∧ (linkCompleted k s).sup.forced = s.sup.forced ∧ SameLists s (linkCompleted k s) ∧
    SameBooks s (linkCompleted k s) ∧ (linkCompleted k s).cmd = s.cmd ∧ SameRings s (linkCompleted k s) := by
  unfold linkCompleted
  dsimp only
  repeat' split
  all_goals simp

@[simp] theorem disableLink_frame (k : Nat) (s : State) :
    SameTime s (disableLink k s) ∧ (disableLink k s).pos = s.pos ∧ (disableLink k s).cov = s.cov ∧
    SamePort s (disableLink k s) ∧ SameSelector s (disableLink k s) ∧ (disableLink k s).relay = s.relay ∧
    SameBooks s (disableLink k s) ∧ (disableLink k s).cmd = s.cmd ∧ SameRings s (disableLink k s) := by
  unfold disableLink
  dsimp only
  repeat' split
  all_goals simp

@[simp] theorem foldl_disableLink_frame (l : List Nat) (s : State) :
    let t := l.foldl (fun s k => disableLink k s) s
    SameTime s t ∧ t.pos = s.pos ∧ t.cov = s.cov ∧ SamePort s t ∧ SameSelector s t ∧ t.relay = s.relay ∧ SameBooks s t ∧
    t.cmd = s.cmd ∧ SameRings s t := by
  intro t
  refine foldl_frame (R := fun s t => SameTime s t ∧ t.pos = s.pos ∧ t.cov = s.cov ∧ SamePort s t ∧ SameSelector s t ∧ t.relay = s.relay ∧ SameBooks s t ∧ t.cmd = s.cmd ∧ SameRings s t) (by simp) (fun s t a h => ?_) l s
  simp_all

@[simp] theorem disableLinks_frame (ks : List Nat) (s : State) :
    SameTime s (disableLinks ks s) ∧ (disableLinks ks s).pos = s.pos ∧ (disableLinks ks s).cov.hold = s.cov.hold ∧
    SamePort s (disableLinks ks s) ∧ (disableLinks ks s).sup.forced = s.sup.forced ∧ SameLists s (disableLinks ks s) ∧
    SameBooks s (disableLinks ks s) ∧ (disableLinks ks s).cmd = s.cmd ∧ SameRings s (disableLinks ks s) := by
  unfold disableLinks
  simp

@[simp] theorem disableAll_frame (s : State) :
    SameTime s (disableAll s) ∧ (disableAll s).pos = s.pos ∧ (disableAll s).cov.hold = s.cov.hold ∧
    SamePort s (disableAll s) ∧ (disableAll s).sup.forced = s.sup.forced ∧ SameLists s (disableAll s) ∧
    SameBooks s (disableAll s) ∧ (disableAll s).cmd = s.cmd ∧ SameRings s (disableAll s) := by
  unfold disableAll
  simp

@[simp] theorem enableLink_frame (k : Nat) (s : State) :
    SameTime s (enableLink k s) ∧ (enableLink k s).pos = s.pos ∧ (enableLink k s).cov.hold = s.cov.hold ∧
    SamePort s (enableLink k s) ∧ (enableLink k s).sup.forced = s.sup.forced ∧ SameLists s (enableLink k s) ∧
    SameBooks s (enableLink k s) ∧ (enableLink k s).cmd = s.cmd ∧ SameRings s (enableLink k s) := by
  unfold enableLink
  dsimp only
  simp

@[simp] theorem resetLink_frame (k : Nat) (s : State) :
    SameTime s (resetLink k s) ∧ (resetLink k s).pos = s.pos ∧ (resetLink k s).cov.hold = s.cov.hold ∧
    SamePort s (resetLink k s) ∧ (resetLink k s).sup.forced = s.sup.forced ∧ SameBooks s (resetLink k s) ∧
    SameButCounts s (resetLink k s) ∧ SameRings s (resetLink k s) := by
  unfold resetLink
  dsimp only
  repeat' split
  all_goals simp

end Sys2Proof.Machine
end

