-- ==== Sys2Proof/Laws/AccountFrames.lean ====
section
/-! SUPPORT. What each operation of the Position Unit, the Rating Engine and the Account Manager leaves unchanged: one lemma per operation. -/

namespace Sys2Proof.Machine

@[simp] theorem discard_frame (s : State) :
    SameTime s (discard s) ∧ SameZone s (discard s) ∧ (discard s).cov = s.cov ∧ (discard s).path = s.path ∧
    (discard s).sup = s.sup ∧ (discard s).relay = s.relay ∧ SameBooks s (discard s) ∧ (discard s).cmd = s.cmd ∧
    (discard s).rep = s.rep := by
  unfold discard
  simp

@[simp] theorem discard_discards (s : State) : (discard s).pos.discards = min 65535 (s.pos.discards + 1) := rfl

@[simp] theorem setRx_frame (p : Rx × List Byte) (s : State) :
    SameTime s (setRx p s) ∧ SameZone s (setRx p s) ∧ (setRx p s).cov = s.cov ∧ (setRx p s).path = s.path ∧
    (setRx p s).sup = s.sup ∧ (setRx p s).relay = s.relay ∧ SameBooks s (setRx p s) ∧ (setRx p s).cmd = s.cmd ∧
    (setRx p s).rep = s.rep := by
  unfold setRx
  simp

@[simp] theorem setRx_rx (p : Rx × List Byte) (s : State) :
    (setRx p s).pos.rx = p.1 ∧ (setRx p s).pos.buf = p.2 := ⟨rfl, rfl⟩

@[simp] theorem zoneReport_frame (z : Zone) (cause : ZoneCause) (prev : Option Nat) (coords : Option (Int × Int)) (s : State) :
    SameTime s (zoneReport z cause prev coords s) ∧ (zoneReport z cause prev coords s).pos = s.pos ∧
    (zoneReport z cause prev coords s).cov = s.cov ∧ SamePort s (zoneReport z cause prev coords s) ∧
    (zoneReport z cause prev coords s).sup = s.sup ∧ (zoneReport z cause prev coords s).relay = s.relay ∧
    SameBooks s (zoneReport z cause prev coords s) ∧ (zoneReport z cause prev coords s).cmd = s.cmd ∧
    SameRings s (zoneReport z cause prev coords s) := by
  unfold zoneReport
  dsimp only
  simp

@[simp] theorem publishZone_frame (cause : ZoneCause) (prev : Option Nat) (coords : Option (Int × Int)) (s : State) :
    SameTime s (publishZone cause prev coords s) ∧ (publishZone cause prev coords s).pos = s.pos ∧
    (publishZone cause prev coords s).cov.hold = s.cov.hold ∧ SamePort s (publishZone cause prev coords s) ∧
    SameLinks s (publishZone cause prev coords s) ∧ SameLists s (publishZone cause prev coords s) ∧
    (publishZone cause prev coords s).gate = s.gate ∧ (publishZone cause prev coords s).rate = s.rate ∧
    (publishZone cause prev coords s).acct = s.acct ∧ (publishZone cause prev coords s).cache = s.cache ∧
    (publishZone cause prev coords s).settle.partners = s.settle.partners ∧
    (publishZone cause prev coords s).cmd = s.cmd ∧ SameRings s (publishZone cause prev coords s) := by
  unfold publishZone
  repeat' split
  all_goals simp

@[simp] theorem becomeCurrent_frame (z : Nat) (cause : ZoneCause) (coords : Option (Int × Int)) (s : State) :
    SameTime s (becomeCurrent z cause coords s) ∧ (becomeCurrent z cause coords s).pos.zones = s.pos.zones ∧
    (becomeCurrent z cause coords s).pos.minQuality = s.pos.minQuality ∧
    (becomeCurrent z cause coords s).pos.fixLoss = s.pos.fixLoss ∧
    (becomeCurrent z cause coords s).cov.hold = s.cov.hold ∧ SamePort s (becomeCurrent z cause coords s) ∧
    SameLinks s (becomeCurrent z cause coords s) ∧ SameLists s (becomeCurrent z cause coords s) ∧
    (becomeCurrent z cause coords s).gate = s.gate ∧ (becomeCurrent z cause coords s).rate = s.rate ∧
    (becomeCurrent z cause coords s).acct = s.acct ∧ (becomeCurrent z cause coords s).cache = s.cache ∧
    (becomeCurrent z cause coords s).settle.partners = s.settle.partners ∧
    (becomeCurrent z cause coords s).cmd = s.cmd ∧ SameRings s (becomeCurrent z cause coords s) := by
  unfold becomeCurrent
  dsimp only
  simp

@[simp] theorem evaluatePending_frame (c : Nat) (lat : Int) (lon : Int) (s : State) :
    SameTime s (evaluatePending c lat lon s) ∧ (evaluatePending c lat lon s).pos.zones = s.pos.zones ∧
    (evaluatePending c lat lon s).pos.minQuality = s.pos.minQuality ∧
    (evaluatePending c lat lon s).pos.fixLoss = s.pos.fixLoss ∧ (evaluatePending c lat lon s).cov.hold = s.cov.hold ∧
    SamePort s (evaluatePending c lat lon s) ∧ SameLinks s (evaluatePending c lat lon s) ∧
    SameLists s (evaluatePending c lat lon s) ∧ (evaluatePending c lat lon s).gate = s.gate ∧
    (evaluatePending c lat lon s).rate = s.rate ∧ (evaluatePending c lat lon s).acct = s.acct ∧
    (evaluatePending c lat lon s).cache = s.cache ∧ (evaluatePending c lat lon s).settle.partners = s.settle.partners ∧
    (evaluatePending c lat lon s).cmd = s.cmd ∧ SameRings s (evaluatePending c lat lon s) := by
  unfold evaluatePending
  dsimp only
  repeat' split
  all_goals simp

@[simp] theorem evaluateZone_frame (lat : Int) (lon : Int) (s : State) :
    SameTime s (evaluateZone lat lon s) ∧ (evaluateZone lat lon s).pos.zones = s.pos.zones ∧
    (evaluateZone lat lon s).pos.minQuality = s.pos.minQuality ∧ (evaluateZone lat lon s).pos.fixLoss = s.pos.fixLoss ∧
    (evaluateZone lat lon s).cov.hold = s.cov.hold ∧ SamePort s (evaluateZone lat lon s) ∧
    SameLinks s (evaluateZone lat lon s) ∧ SameLists s (evaluateZone lat lon s) ∧
    (evaluateZone lat lon s).gate = s.gate ∧ (evaluateZone lat lon s).rate = s.rate ∧
    (evaluateZone lat lon s).acct = s.acct ∧ (evaluateZone lat lon s).cache = s.cache ∧
    (evaluateZone lat lon s).settle.partners = s.settle.partners ∧ (evaluateZone lat lon s).cmd = s.cmd ∧
    SameRings s (evaluateZone lat lon s) := by
  unfold evaluateZone
  repeat' split
  all_goals simp

@[simp] theorem positionReport_frame (cause : PosCause) (s : State) :
    SameTime s (positionReport cause s) ∧ (positionReport cause s).pos = s.pos ∧ (positionReport cause s).cov = s.cov ∧
    SamePort s (positionReport cause s) ∧ (positionReport cause s).sup = s.sup ∧
    (positionReport cause s).relay = s.relay ∧ SameBooks s (positionReport cause s) ∧
    (positionReport cause s).cmd = s.cmd ∧ SameRings s (positionReport cause s) := by
  unfold positionReport
  dsimp only
  repeat' split
  all_goals simp

@[simp] theorem positionValid_frame (s : State) :
    SameTime s (positionValid s) ∧ SameZone s (positionValid s) ∧ (positionValid s).cov.hold = s.cov.hold ∧
    SamePort s (positionValid s) ∧ (positionValid s).sup = s.sup ∧ (positionValid s).relay = s.relay ∧
    SameBooks s (positionValid s) ∧ (positionValid s).cmd = s.cmd ∧ SameRings s (positionValid s) := by
  unfold positionValid
  dsimp only
  repeat' split
  all_goals simp

@[simp] theorem takeFix_frame (quality : Nat) (lat : Int) (lon : Int) (source : FixSource) (s : State) :
    SameTime s (takeFix quality lat lon source s) ∧ (takeFix quality lat lon source s).pos.zones = s.pos.zones ∧
    (takeFix quality lat lon source s).pos.minQuality = s.pos.minQuality ∧
    (takeFix quality lat lon source s).pos.fixLoss = s.pos.fixLoss ∧
    (takeFix quality lat lon source s).cov.hold = s.cov.hold ∧ SamePort s (takeFix quality lat lon source s) ∧
    SameLinks s (takeFix quality lat lon source s) ∧ SameLists s (takeFix quality lat lon source s) ∧
    (takeFix quality lat lon source s).gate = s.gate ∧ (takeFix quality lat lon source s).rate = s.rate ∧
    (takeFix quality lat lon source s).acct = s.acct ∧ (takeFix quality lat lon source s).cache = s.cache ∧
    (takeFix quality lat lon source s).settle.partners = s.settle.partners ∧
    (takeFix quality lat lon source s).cmd = s.cmd ∧ SameRings s (takeFix quality lat lon source s) := by
  unfold takeFix
  dsimp only
  repeat' split
  all_goals simp

@[simp] theorem judgeFrame_frame (buf : List Byte) (s : State) :
    SameTime s (judgeFrame buf s) ∧ (judgeFrame buf s).pos.zones = s.pos.zones ∧
    (judgeFrame buf s).pos.minQuality = s.pos.minQuality ∧ (judgeFrame buf s).pos.fixLoss = s.pos.fixLoss ∧
    (judgeFrame buf s).cov.hold = s.cov.hold ∧ SamePort s (judgeFrame buf s) ∧ SameLinks s (judgeFrame buf s) ∧
    SameLists s (judgeFrame buf s) ∧ (judgeFrame buf s).gate = s.gate ∧ (judgeFrame buf s).rate = s.rate ∧
    (judgeFrame buf s).acct = s.acct ∧ (judgeFrame buf s).cache = s.cache ∧
    (judgeFrame buf s).settle.partners = s.settle.partners ∧ (judgeFrame buf s).cmd = s.cmd ∧
    SameRings s (judgeFrame buf s) := by
  unfold judgeFrame
  dsimp only
  repeat' split
  all_goals simp

@[simp] theorem navByte_frame (b : Byte) (s : State) :
    SameTime s (navByte b s) ∧ (navByte b s).pos.zones = s.pos.zones ∧ (navByte b s).pos.minQuality = s.pos.minQuality ∧
    (navByte b s).pos.fixLoss = s.pos.fixLoss ∧ (navByte b s).cov.hold = s.cov.hold ∧ SamePort s (navByte b s) ∧
    SameLinks s (navByte b s) ∧ SameLists s (navByte b s) ∧ (navByte b s).gate = s.gate ∧ (navByte b s).rate = s.rate ∧
    (navByte b s).acct = s.acct ∧ (navByte b s).cache = s.cache ∧ (navByte b s).settle.partners = s.settle.partners ∧
    (navByte b s).cmd = s.cmd ∧ SameRings s (navByte b s) := by
  unfold navByte
  dsimp only
  repeat' split
  all_goals simp

@[simp] theorem navFramingError_frame (s : State) :
    SameTime s (navFramingError s) ∧ SameZone s (navFramingError s) ∧ (navFramingError s).cov = s.cov ∧
    (navFramingError s).path = s.path ∧ (navFramingError s).sup = s.sup ∧ (navFramingError s).relay = s.relay ∧
    SameBooks s (navFramingError s) ∧ (navFramingError s).cmd = s.cmd ∧ (navFramingError s).rep = s.rep := by
  unfold navFramingError
  repeat' split
  all_goals simp

@[simp] theorem fixLossExpiry_frame (s : State) :
    SameTime s (fixLossExpiry s) ∧ SameZone s (fixLossExpiry s) ∧ (fixLossExpiry s).cov.hold = s.cov.hold ∧
    SamePort s (fixLossExpiry s) ∧ (fixLossExpiry s).sup = s.sup ∧ (fixLossExpiry s).relay = s.relay ∧
    SameBooks s (fixLossExpiry s) ∧ (fixLossExpiry s).cmd = s.cmd ∧ SameRings s (fixLossExpiry s) := by
  unfold fixLossExpiry
  repeat' split
  all_goals simp

@[simp] theorem loadZone_frame (i : Nat) (z : Zone) (s : State) :
    SameTime s (loadZone i z s) ∧ (loadZone i z s).pos.minQuality = s.pos.minQuality ∧
    (loadZone i z s).pos.fixLoss = s.pos.fixLoss ∧ (loadZone i z s).cov.hold = s.cov.hold ∧
    SamePort s (loadZone i z s) ∧ SameLinks s (loadZone i z s) ∧ SameLists s (loadZone i z s) ∧
    (loadZone i z s).gate = s.gate ∧ (loadZone i z s).rate = s.rate ∧ (loadZone i z s).acct = s.acct ∧
    (loadZone i z s).cache = s.cache ∧ (loadZone i z s).settle.partners = s.settle.partners ∧
    (loadZone i z s).cmd = s.cmd ∧ SameRings s (loadZone i z s) := by
  unfold loadZone
  dsimp only
  repeat' split
  all_goals simp

@[simp] theorem loadTariff_frame (region : Nat) (cls : Nat) (t : Tariff) (s : State) :
    SameTime s (loadTariff region cls t s) ∧ (loadTariff region cls t s).pos = s.pos ∧
    (loadTariff region cls t s).cov = s.cov ∧ (loadTariff region cls t s).path = s.path ∧
    (loadTariff region cls t s).sup = s.sup ∧ (loadTariff region cls t s).relay = s.relay ∧
    (loadTariff region cls t s).gate = s.gate ∧ (loadTariff region cls t s).acct = s.acct ∧
    (loadTariff region cls t s).cache = s.cache ∧ (loadTariff region cls t s).settle = s.settle ∧
    (loadTariff region cls t s).cmd = s.cmd ∧ (loadTariff region cls t s).rep = s.rep := by
  unfold loadTariff
  repeat' split
  all_goals simp

@[simp] theorem setGate_frame (a : Nat) (e : GateEntry) (s : State) :
    SameTime s (setGate a e s) ∧ (setGate a e s).pos = s.pos ∧ (setGate a e s).cov = s.cov ∧
    (setGate a e s).path = s.path ∧ (setGate a e s).sup = s.sup ∧ (setGate a e s).relay = s.relay ∧
    (setGate a e s).gate.queue = s.gate.queue ∧ (setGate a e s).gate.haltDiscards = s.gate.haltDiscards ∧
    (setGate a e s).gate.waiting = s.gate.waiting ∧ (setGate a e s).rate = s.rate ∧ (setGate a e s).acct = s.acct ∧
    (setGate a e s).cache = s.cache ∧ (setGate a e s).settle = s.settle ∧ (setGate a e s).cmd = s.cmd ∧
    (setGate a e s).rep = s.rep := by
  unfold setGate
  simp

@[simp] theorem setGate_map (a : Nat) (e : GateEntry) (s : State) :
    (setGate a e s).gate.map = put s.gate.map a e := rfl

@[simp] theorem writeGate_frame (a : Nat) (opened : Bool) (s : State) :
    SameTime s (writeGate a opened s) ∧ (writeGate a opened s).pos = s.pos ∧ (writeGate a opened s).cov = s.cov ∧
    (writeGate a opened s).path = s.path ∧ (writeGate a opened s).sup = s.sup ∧ (writeGate a opened s).relay = s.relay ∧
    (writeGate a opened s).gate.queue = s.gate.queue ∧ (writeGate a opened s).gate.haltDiscards = s.gate.haltDiscards ∧
    (writeGate a opened s).gate.waiting = s.gate.waiting ∧ (writeGate a opened s).rate = s.rate ∧
    (writeGate a opened s).acct = s.acct ∧ (writeGate a opened s).cache = s.cache ∧
    (writeGate a opened s).settle = s.settle ∧ (writeGate a opened s).cmd = s.cmd ∧ (writeGate a opened s).rep = s.rep := by
  unfold writeGate
  simp

@[simp] theorem creditToGate_frame (before : AcctRec) (after : AcctRec) (a : Nat) (s : State) :
    SameTime s (creditToGate before after a s) ∧ (creditToGate before after a s).pos = s.pos ∧
    (creditToGate before after a s).cov = s.cov ∧ (creditToGate before after a s).path = s.path ∧
    (creditToGate before after a s).sup = s.sup ∧ (creditToGate before after a s).relay = s.relay ∧
    (creditToGate before after a s).gate.queue = s.gate.queue ∧
    (creditToGate before after a s).gate.haltDiscards = s.gate.haltDiscards ∧
    (creditToGate before after a s).gate.waiting = s.gate.waiting ∧ (creditToGate before after a s).rate = s.rate ∧
    (creditToGate before after a s).acct = s.acct ∧ (creditToGate before after a s).cache = s.cache ∧
    (creditToGate before after a s).settle = s.settle ∧ (creditToGate before after a s).cmd = s.cmd ∧
    (creditToGate before after a s).rep = s.rep := by
  unfold creditToGate
  repeat' split
  all_goals simp

@[simp] theorem settleRating_frame (r : AcctRec) (e : UsageEvent) (charge : Nat) (s : State) :
    SameTime s (settleRating r e charge s) ∧ (settleRating r e charge s).pos = s.pos ∧
    (settleRating r e charge s).cov = s.cov ∧ (settleRating r e charge s).path = s.path ∧
    (settleRating r e charge s).sup = s.sup ∧ (settleRating r e charge s).relay = s.relay ∧
    (settleRating r e charge s).gate = s.gate ∧ (settleRating r e charge s).rate = s.rate ∧
    (settleRating r e charge s).acct = s.acct ∧ (settleRating r e charge s).cache = s.cache ∧
    (settleRating r e charge s).settle.partners = s.settle.partners ∧
    (settleRating r e charge s).settle.region = s.settle.region ∧ (settleRating r e charge s).cmd = s.cmd ∧
    (settleRating r e charge s).rep = s.rep := by
  unfold settleRating
  repeat' split
  all_goals simp

@[simp] theorem offerCredit_frame (before : AcctRec) (after : AcctRec) (a : Nat) (s : State) :
    SameTime s (offerCredit before after a s) ∧ (offerCredit before after a s).pos = s.pos ∧
    (offerCredit before after a s).cov = s.cov ∧ SamePort s (offerCredit before after a s) ∧
    (offerCredit before after a s).sup = s.sup ∧ (offerCredit before after a s).relay = s.relay ∧
    SameBooks s (offerCredit before after a s) ∧ (offerCredit before after a s).cmd = s.cmd ∧
    SameRings s (offerCredit before after a s) := by
  unfold offerCredit
  repeat' split
  all_goals simp

@[simp] theorem rateGrant_frame (i : Nat) (e : UsageEvent) (s : State) :
    SameTime s (rateGrant i e s) ∧ (rateGrant i e s).pos = s.pos ∧ (rateGrant i e s).cov = s.cov ∧
    SamePort s (rateGrant i e s) ∧ (rateGrant i e s).sup = s.sup ∧ (rateGrant i e s).relay = s.relay ∧
    (rateGrant i e s).gate.queue = s.gate.queue ∧ (rateGrant i e s).gate.haltDiscards = s.gate.haltDiscards ∧
    (rateGrant i e s).gate.waiting = s.gate.waiting ∧ (rateGrant i e s).rate = s.rate ∧
    (rateGrant i e s).acct = s.acct ∧ (rateGrant i e s).cache.lru = s.cache.lru ∧
    (rateGrant i e s).cache.misses = s.cache.misses ∧ (rateGrant i e s).cache.flush = s.cache.flush ∧
    (rateGrant i e s).settle.partners = s.settle.partners ∧ (rateGrant i e s).settle.region = s.settle.region ∧
    (rateGrant i e s).cmd = s.cmd ∧ SameRings s (rateGrant i e s) := by
  unfold rateGrant
  dsimp only
  repeat' split
  all_goals simp

@[simp] theorem tryRate_frame (s : State) :
    SameTime s (tryRate s) ∧ (tryRate s).pos = s.pos ∧ (tryRate s).cov = s.cov ∧ SamePort s (tryRate s) ∧
    (tryRate s).sup = s.sup ∧ (tryRate s).relay = s.relay ∧ (tryRate s).gate = s.gate ∧
    (tryRate s).rate.tariffs = s.rate.tariffs ∧ (tryRate s).rate.loaded = s.rate.loaded ∧ (tryRate s).acct = s.acct ∧
    (tryRate s).cache.flush = s.cache.flush ∧ (tryRate s).settle = s.settle ∧ (tryRate s).cmd = s.cmd ∧
    (tryRate s).rep = s.rep := by
  unfold tryRate
  repeat' split
  all_goals simp

@[simp] theorem setAcct_frame (a : AccountManager) (s : State) :
    SameTime s (setAcct a s) ∧ (setAcct a s).pos = s.pos ∧ (setAcct a s).cov = s.cov ∧ (setAcct a s).path = s.path ∧
    (setAcct a s).sup = s.sup ∧ (setAcct a s).relay = s.relay ∧ (setAcct a s).gate = s.gate ∧
    (setAcct a s).rate = s.rate ∧ (setAcct a s).cache = s.cache ∧ (setAcct a s).settle = s.settle ∧
    (setAcct a s).cmd = s.cmd ∧ (setAcct a s).rep = s.rep := by
  unfold setAcct
  simp

@[simp] theorem setAcct_acct (a : AccountManager) (s : State) : (setAcct a s).acct = a := rfl

@[simp] theorem judgeFinisher_frame (s : State) :
    SameTime s (judgeFinisher s) ∧ (judgeFinisher s).pos = s.pos ∧ (judgeFinisher s).cov = s.cov ∧
    SamePort s (judgeFinisher s) ∧ (judgeFinisher s).sup = s.sup ∧ (judgeFinisher s).relay = s.relay ∧
    (judgeFinisher s).gate = s.gate ∧ (judgeFinisher s).rate = s.rate ∧ (judgeFinisher s).acct.wait = s.acct.wait ∧
    (judgeFinisher s).acct.reserved = s.acct.reserved ∧ (judgeFinisher s).acct.places = s.acct.places ∧
    (judgeFinisher s).acct.scan = s.acct.scan ∧ (judgeFinisher s).cache.flush = s.cache.flush ∧
    (judgeFinisher s).settle = s.settle ∧ (judgeFinisher s).cmd = s.cmd ∧ (judgeFinisher s).rep = s.rep := by
  unfold judgeFinisher
  repeat' split
  all_goals simp

@[simp] theorem settleRoundUp_frame (r : AcctRec) (charge : Nat) (s : State) :
    SameTime s (settleRoundUp r charge s) ∧ (settleRoundUp r charge s).pos = s.pos ∧
    (settleRoundUp r charge s).cov = s.cov ∧ (settleRoundUp r charge s).path = s.path ∧
    (settleRoundUp r charge s).sup = s.sup ∧ (settleRoundUp r charge s).relay = s.relay ∧
    (settleRoundUp r charge s).gate = s.gate ∧ (settleRoundUp r charge s).rate = s.rate ∧
    (settleRoundUp r charge s).acct = s.acct ∧ (settleRoundUp r charge s).cache = s.cache ∧
    (settleRoundUp r charge s).settle.partners = s.settle.partners ∧
    (settleRoundUp r charge s).settle.region = s.settle.region ∧ (settleRoundUp r charge s).cmd = s.cmd ∧
    (settleRoundUp r charge s).rep = s.rep := by
  unfold settleRoundUp
  repeat' split
  all_goals simp

@[simp] theorem finishRecord_frame (scan : Bool) (a : Nat) (i : Nat) (p : Place) (s : State) :
    SameTime s (finishRecord scan a i p s).1 ∧ (finishRecord scan a i p s).1.pos = s.pos ∧
    (finishRecord scan a i p s).1.cov = s.cov ∧ (finishRecord scan a i p s).1.path = s.path ∧
    (finishRecord scan a i p s).1.sup = s.sup ∧ (finishRecord scan a i p s).1.relay = s.relay ∧
    (finishRecord scan a i p s).1.gate = s.gate ∧ (finishRecord scan a i p s).1.rate = s.rate ∧
    (finishRecord scan a i p s).1.acct = s.acct ∧ (finishRecord scan a i p s).1.cache.lru = s.cache.lru ∧
    (finishRecord scan a i p s).1.cache.misses = s.cache.misses ∧
    (finishRecord scan a i p s).1.cache.flush = s.cache.flush ∧
    (finishRecord scan a i p s).1.settle.partners = s.settle.partners ∧
    (finishRecord scan a i p s).1.settle.region = s.settle.region ∧ (finishRecord scan a i p s).1.cmd = s.cmd ∧
    (finishRecord scan a i p s).1.rep = s.rep := by
  unfold finishRecord
  dsimp only
  simp

@[simp] theorem offerBilling_frame (b : Report → Billing) (r : Report) (s : State) :
    SameTime s (offerBilling b r s) ∧ (offerBilling b r s).pos = s.pos ∧ (offerBilling b r s).cov = s.cov ∧
    SamePort s (offerBilling b r s) ∧ (offerBilling b r s).sup = s.sup ∧ (offerBilling b r s).relay = s.relay ∧
    SameBooks s (offerBilling b r s) ∧ (offerBilling b r s).cmd = s.cmd ∧ SameView s (offerBilling b r s) := by
  unfold offerBilling
  repeat' split
  all_goals simp

@[simp] theorem finisherWork_frame (i : Nat) (s : State) :
    SameTime s (finisherWork i s) ∧ (finisherWork i s).pos = s.pos ∧ (finisherWork i s).cov = s.cov ∧
    SamePort s (finisherWork i s) ∧ (finisherWork i s).sup = s.sup ∧ (finisherWork i s).relay = s.relay ∧
    (finisherWork i s).gate = s.gate ∧ (finisherWork i s).rate = s.rate ∧ (finisherWork i s).acct.wait = s.acct.wait ∧
    (finisherWork i s).acct.reserved = s.acct.reserved ∧ (finisherWork i s).acct.places = s.acct.places ∧
    (finisherWork i s).acct.scan = s.acct.scan ∧ (finisherWork i s).cache.lru = s.cache.lru ∧
    (finisherWork i s).cache.misses = s.cache.misses ∧ (finisherWork i s).cache.flush = s.cache.flush ∧
    (finisherWork i s).settle.partners = s.settle.partners ∧ (finisherWork i s).settle.region = s.settle.region ∧
    (finisherWork i s).cmd = s.cmd ∧ SameView s (finisherWork i s) := by
  unfold finisherWork
  dsimp only
  repeat' split
  all_goals simp

@[simp] theorem refuseOpen_frame (st : Status) (r : AcctRec) (s : State) :
    SameTime s (refuseOpen st r s) ∧ (refuseOpen st r s).pos = s.pos ∧ (refuseOpen st r s).cov = s.cov ∧
    SamePort s (refuseOpen st r s) ∧ (refuseOpen st r s).sup = s.sup ∧ (refuseOpen st r s).relay = s.relay ∧
    SameBooks s (refuseOpen st r s) ∧ SameRun s (refuseOpen st r s) ∧ SameRings s (refuseOpen st r s) := by
  unfold refuseOpen
  simp

@[simp] theorem openWork_frame (p : OpenAccountParams) (i : Nat) (s : State) :
    SameTime s (openWork p i s) ∧ (openWork p i s).pos = s.pos ∧ (openWork p i s).cov = s.cov ∧
    SamePort s (openWork p i s) ∧ (openWork p i s).sup = s.sup ∧ (openWork p i s).relay = s.relay ∧
    (openWork p i s).gate.queue = s.gate.queue ∧ (openWork p i s).gate.haltDiscards = s.gate.haltDiscards ∧
    (openWork p i s).gate.waiting = s.gate.waiting ∧ (openWork p i s).rate = s.rate ∧ (openWork p i s).acct = s.acct ∧
    (openWork p i s).cache.lru = s.cache.lru ∧ (openWork p i s).cache.misses = s.cache.misses ∧
    (openWork p i s).cache.flush = s.cache.flush ∧ (openWork p i s).settle = s.settle ∧ SameRun s (openWork p i s) ∧
    SameRings s (openWork p i s) := by
  unfold openWork
  dsimp only
  repeat' split
  all_goals simp

@[simp] theorem refuseGrant_frame (st : Status) (r : AcctRec) (s : State) :
    SameTime s (refuseGrant st r s) ∧ (refuseGrant st r s).pos = s.pos ∧ (refuseGrant st r s).cov = s.cov ∧
    SamePort s (refuseGrant st r s) ∧ (refuseGrant st r s).sup = s.sup ∧ (refuseGrant st r s).relay = s.relay ∧
    SameBooks s (refuseGrant st r s) ∧ SameRun s (refuseGrant st r s) ∧ SameRings s (refuseGrant st r s) := by
  unfold refuseGrant
  simp

@[simp] theorem grantWork_frame (p : GrantParams) (i : Nat) (s : State) :
    SameTime s (grantWork p i s) ∧ (grantWork p i s).pos = s.pos ∧ (grantWork p i s).cov = s.cov ∧
    SamePort s (grantWork p i s) ∧ (grantWork p i s).sup = s.sup ∧ (grantWork p i s).relay = s.relay ∧
    (grantWork p i s).gate.queue = s.gate.queue ∧ (grantWork p i s).gate.haltDiscards = s.gate.haltDiscards ∧
    (grantWork p i s).gate.waiting = s.gate.waiting ∧ (grantWork p i s).rate = s.rate ∧
    (grantWork p i s).acct = s.acct ∧ (grantWork p i s).cache.lru = s.cache.lru ∧
    (grantWork p i s).cache.misses = s.cache.misses ∧ (grantWork p i s).cache.flush = s.cache.flush ∧
    (grantWork p i s).settle = s.settle ∧ SameRun s (grantWork p i s) ∧ SameRings s (grantWork p i s) := by
  unfold grantWork
  dsimp only
  repeat' split
  all_goals simp

@[simp] theorem suspendWork_frame (a : Nat) (i : Nat) (s : State) :
    SameTime s (suspendWork a i s) ∧ (suspendWork a i s).pos = s.pos ∧ (suspendWork a i s).cov = s.cov ∧
    SamePort s (suspendWork a i s) ∧ (suspendWork a i s).sup = s.sup ∧ (suspendWork a i s).relay = s.relay ∧
    (suspendWork a i s).gate.queue = s.gate.queue ∧ (suspendWork a i s).gate.haltDiscards = s.gate.haltDiscards ∧
    (suspendWork a i s).gate.waiting = s.gate.waiting ∧ (suspendWork a i s).rate = s.rate ∧
    (suspendWork a i s).acct = s.acct ∧ (suspendWork a i s).cache.lru = s.cache.lru ∧
    (suspendWork a i s).cache.misses = s.cache.misses ∧ (suspendWork a i s).cache.flush = s.cache.flush ∧
    (suspendWork a i s).settle = s.settle ∧ SameRun s (suspendWork a i s) ∧ SameRings s (suspendWork a i s) := by
  unfold suspendWork
  dsimp only
  repeat' split
  all_goals simp

@[simp] theorem resumeWork_frame (a : Nat) (i : Nat) (s : State) :
    SameTime s (resumeWork a i s) ∧ (resumeWork a i s).pos = s.pos ∧ (resumeWork a i s).cov = s.cov ∧
    SamePort s (resumeWork a i s) ∧ (resumeWork a i s).sup = s.sup ∧ (resumeWork a i s).relay = s.relay ∧
    (resumeWork a i s).gate.queue = s.gate.queue ∧ (resumeWork a i s).gate.haltDiscards = s.gate.haltDiscards ∧
    (resumeWork a i s).gate.waiting = s.gate.waiting ∧ (resumeWork a i s).rate = s.rate ∧
    (resumeWork a i s).acct = s.acct ∧ (resumeWork a i s).cache.lru = s.cache.lru ∧
    (resumeWork a i s).cache.misses = s.cache.misses ∧ (resumeWork a i s).cache.flush = s.cache.flush ∧
    (resumeWork a i s).settle = s.settle ∧ SameRun s (resumeWork a i s) ∧ SameRings s (resumeWork a i s) := by
  unfold resumeWork
  dsimp only
  repeat' split
  all_goals simp

@[simp] theorem closeWork_frame (a : Nat) (i : Nat) (s : State) :
    SameTime s (closeWork a i s) ∧ (closeWork a i s).pos = s.pos ∧ (closeWork a i s).cov = s.cov ∧
    SamePort s (closeWork a i s) ∧ (closeWork a i s).sup = s.sup ∧ (closeWork a i s).relay = s.relay ∧
    (closeWork a i s).gate.queue = s.gate.queue ∧ (closeWork a i s).gate.haltDiscards = s.gate.haltDiscards ∧
    (closeWork a i s).gate.waiting = s.gate.waiting ∧ (closeWork a i s).rate = s.rate ∧
    (closeWork a i s).cache.flush = s.cache.flush ∧ (closeWork a i s).settle = s.settle ∧ SameRun s (closeWork a i s) ∧
    SameRings s (closeWork a i s) := by
  unfold closeWork
  dsimp only
  repeat' split
  all_goals simp

@[simp] theorem commandWork_frame (i : Nat) (s : State) :
    SameTime s (commandWork i s) ∧ (commandWork i s).pos = s.pos ∧ (commandWork i s).cov = s.cov ∧
    SamePort s (commandWork i s) ∧ (commandWork i s).sup = s.sup ∧ (commandWork i s).relay = s.relay ∧
    (commandWork i s).gate.queue = s.gate.queue ∧ (commandWork i s).gate.haltDiscards = s.gate.haltDiscards ∧
    (commandWork i s).gate.waiting = s.gate.waiting ∧ (commandWork i s).rate = s.rate ∧
    (commandWork i s).cache.flush = s.cache.flush ∧ (commandWork i s).settle = s.settle ∧ SameRun s (commandWork i s) ∧
    SameRings s (commandWork i s) := by
  unfold commandWork
  dsimp only
  repeat' split
  all_goals simp

@[simp] theorem requestCommandLine_frame (a : Nat) (s : State) :
    SameTime s (requestCommandLine a s) ∧ (requestCommandLine a s).pos = s.pos ∧ (requestCommandLine a s).cov = s.cov ∧
    SamePort s (requestCommandLine a s) ∧ (requestCommandLine a s).sup = s.sup ∧
    (requestCommandLine a s).relay = s.relay ∧ (requestCommandLine a s).gate.queue = s.gate.queue ∧
    (requestCommandLine a s).gate.haltDiscards = s.gate.haltDiscards ∧
    (requestCommandLine a s).gate.waiting = s.gate.waiting ∧ (requestCommandLine a s).rate = s.rate ∧
    (requestCommandLine a s).cache.flush = s.cache.flush ∧ (requestCommandLine a s).settle = s.settle ∧
    SameRun s (requestCommandLine a s) ∧ SameRings s (requestCommandLine a s) := by
  unfold requestCommandLine
  dsimp only
  repeat' split
  all_goals simp

@[simp] theorem closeTakesPlace_frame (a : Nat) (s : State) :
    SameTime s (closeTakesPlace a s) ∧ (closeTakesPlace a s).pos = s.pos ∧ (closeTakesPlace a s).cov = s.cov ∧
    SamePort s (closeTakesPlace a s) ∧ (closeTakesPlace a s).sup = s.sup ∧ (closeTakesPlace a s).relay = s.relay ∧
    (closeTakesPlace a s).gate.queue = s.gate.queue ∧ (closeTakesPlace a s).gate.haltDiscards = s.gate.haltDiscards ∧
    (closeTakesPlace a s).gate.waiting = s.gate.waiting ∧ (closeTakesPlace a s).rate = s.rate ∧
    (closeTakesPlace a s).cache.flush = s.cache.flush ∧ (closeTakesPlace a s).settle = s.settle ∧
    SameRun s (closeTakesPlace a s) ∧ SameRings s (closeTakesPlace a s) := by
  unfold closeTakesPlace
  repeat' split
  all_goals simp

@[simp] theorem finishDone_frame (s : State) :
    SameTime s (finishDone s) ∧ (finishDone s).pos = s.pos ∧ (finishDone s).cov = s.cov ∧ SamePort s (finishDone s) ∧
    (finishDone s).sup = s.sup ∧ (finishDone s).relay = s.relay ∧ (finishDone s).gate.queue = s.gate.queue ∧
    (finishDone s).gate.haltDiscards = s.gate.haltDiscards ∧ (finishDone s).gate.waiting = s.gate.waiting ∧
    (finishDone s).rate = s.rate ∧ (finishDone s).cache.flush = s.cache.flush ∧ (finishDone s).settle = s.settle ∧
    SameRunStep s (finishDone s) ∧ SameRings s (finishDone s) := by
  unfold finishDone
  dsimp only
  repeat' split
  all_goals simp

@[simp] theorem scanNext_frame (s : State) :
    SameTime s (scanNext s) ∧ (scanNext s).pos = s.pos ∧ (scanNext s).cov.hold = s.cov.hold ∧ SamePort s (scanNext s) ∧
    (scanNext s).sup = s.sup ∧ (scanNext s).gate = s.gate ∧ (scanNext s).rate.tariffs = s.rate.tariffs ∧
    (scanNext s).rate.loaded = s.rate.loaded ∧ (scanNext s).acct.places = s.acct.places ∧
    (scanNext s).acct.finisher = s.acct.finisher ∧ (scanNext s).acct.finishing = s.acct.finishing ∧
    (scanNext s).cache.flush = s.cache.flush ∧ (scanNext s).settle = s.settle ∧
    (scanNext s).cmd.configured = s.cmd.configured ∧ SameRings s (scanNext s) := by
  unfold scanNext
  dsimp only
  repeat' split
  all_goals simp

@[simp] theorem scanWork_frame (i : Nat) (s : State) :
    SameTime s (scanWork i s) ∧ (scanWork i s).pos = s.pos ∧ (scanWork i s).cov = s.cov ∧ SamePort s (scanWork i s) ∧
    (scanWork i s).sup = s.sup ∧ (scanWork i s).relay = s.relay ∧ (scanWork i s).gate.queue = s.gate.queue ∧
    (scanWork i s).gate.haltDiscards = s.gate.haltDiscards ∧ (scanWork i s).gate.waiting = s.gate.waiting ∧
    (scanWork i s).rate = s.rate ∧ (scanWork i s).acct.places = s.acct.places ∧
    (scanWork i s).acct.finisher = s.acct.finisher ∧ (scanWork i s).acct.finishing = s.acct.finishing ∧
    (scanWork i s).cache.lru = s.cache.lru ∧ (scanWork i s).cache.misses = s.cache.misses ∧
    (scanWork i s).cache.flush = s.cache.flush ∧ (scanWork i s).settle.partners = s.settle.partners ∧
    (scanWork i s).settle.region = s.settle.region ∧ (scanWork i s).cmd = s.cmd ∧ SameView s (scanWork i s) := by
  unfold scanWork
  dsimp only
  repeat' split
  all_goals simp

@[simp] theorem scanPlaced_frame (s : State) :
    SameTime s (scanPlaced s) ∧ (scanPlaced s).pos = s.pos ∧ (scanPlaced s).cov.hold = s.cov.hold ∧
    SamePort s (scanPlaced s) ∧ (scanPlaced s).sup = s.sup ∧ (scanPlaced s).gate = s.gate ∧
    (scanPlaced s).rate.tariffs = s.rate.tariffs ∧ (scanPlaced s).rate.loaded = s.rate.loaded ∧
    (scanPlaced s).acct.places = s.acct.places ∧ (scanPlaced s).acct.finisher = s.acct.finisher ∧
    (scanPlaced s).acct.finishing = s.acct.finishing ∧ (scanPlaced s).cache.flush = s.cache.flush ∧
    (scanPlaced s).settle = s.settle ∧ (scanPlaced s).cmd.configured = s.cmd.configured ∧ SameRings s (scanPlaced s) := by
  unfold scanPlaced
  repeat' split
  all_goals simp

@[simp] theorem cutWaiting_frame (s : State) :
    SameTime s (cutWaiting s) ∧ (cutWaiting s).pos = s.pos ∧ (cutWaiting s).cov = s.cov ∧ SamePort s (cutWaiting s) ∧
    (cutWaiting s).sup = s.sup ∧ (cutWaiting s).relay = s.relay ∧ (cutWaiting s).gate = s.gate ∧
    (cutWaiting s).rate = s.rate ∧ (cutWaiting s).acct = s.acct ∧ (cutWaiting s).cache = s.cache ∧
    (cutWaiting s).settle.partners = s.settle.partners ∧ (cutWaiting s).settle.region = s.settle.region ∧
    SameRunStep s (cutWaiting s) ∧ SameView s (cutWaiting s) := by
  unfold cutWaiting
  repeat' split
  all_goals simp

@[simp] theorem placeWaiter_frame (b : Billing) (s : State) :
    SameTime s (placeWaiter b s) ∧ (placeWaiter b s).pos = s.pos ∧ (placeWaiter b s).cov.hold = s.cov.hold ∧
    SamePort s (placeWaiter b s) ∧ (placeWaiter b s).sup = s.sup ∧ (placeWaiter b s).gate.queue = s.gate.queue ∧
    (placeWaiter b s).gate.haltDiscards = s.gate.haltDiscards ∧ (placeWaiter b s).gate.waiting = s.gate.waiting ∧
    (placeWaiter b s).rate.tariffs = s.rate.tariffs ∧ (placeWaiter b s).rate.loaded = s.rate.loaded ∧
    (placeWaiter b s).cache.flush = s.cache.flush ∧ (placeWaiter b s).settle.partners = s.settle.partners ∧
    (placeWaiter b s).settle.region = s.settle.region ∧ (placeWaiter b s).cmd.configured = s.cmd.configured ∧
    SameView s (placeWaiter b s) := by
  unfold placeWaiter
  repeat' split
  all_goals simp

@[simp] theorem placeWaitersLoop_frame (n : Nat) (s : State) :
    SameTime s (placeWaitersLoop n s) ∧ (placeWaitersLoop n s).pos = s.pos ∧
    (placeWaitersLoop n s).cov.hold = s.cov.hold ∧ SamePort s (placeWaitersLoop n s) ∧
    (placeWaitersLoop n s).sup = s.sup ∧ (placeWaitersLoop n s).gate.queue = s.gate.queue ∧
    (placeWaitersLoop n s).gate.haltDiscards = s.gate.haltDiscards ∧
    (placeWaitersLoop n s).gate.waiting = s.gate.waiting ∧ (placeWaitersLoop n s).rate.tariffs = s.rate.tariffs ∧
    (placeWaitersLoop n s).rate.loaded = s.rate.loaded ∧ (placeWaitersLoop n s).cache.flush = s.cache.flush ∧
    (placeWaitersLoop n s).settle.partners = s.settle.partners ∧
    (placeWaitersLoop n s).settle.region = s.settle.region ∧ (placeWaitersLoop n s).cmd.configured = s.cmd.configured ∧
    SameView s (placeWaitersLoop n s) := by
  induction n generalizing s with
  | zero => simp [placeWaitersLoop]
  | succ n ih =>
    unfold placeWaitersLoop
    dsimp only
    repeat' split
    all_goals simp_all

@[simp] theorem endRating_frame (s : State) :
    SameTime s (endRating s) ∧ (endRating s).pos = s.pos ∧ (endRating s).cov = s.cov ∧ SamePort s (endRating s) ∧
    (endRating s).sup = s.sup ∧ (endRating s).relay = s.relay ∧ (endRating s).gate.map = s.gate.map ∧
    (endRating s).gate.haltDiscards = s.gate.haltDiscards ∧ (endRating s).rate.tariffs = s.rate.tariffs ∧
    (endRating s).rate.loaded = s.rate.loaded ∧ (endRating s).acct.wait = s.acct.wait ∧
    (endRating s).acct.reserved = s.acct.reserved ∧ (endRating s).acct.places = s.acct.places ∧
    (endRating s).acct.scan = s.acct.scan ∧ (endRating s).cache.flush = s.cache.flush ∧
    (endRating s).settle = s.settle ∧ (endRating s).cmd = s.cmd ∧ (endRating s).rep = s.rep := by
  unfold endRating
  simp

@[simp] theorem grantWorkOf_frame (r : Requester) (i : Nat) (s : State) :
    SameTime s (grantWorkOf r i s) ∧ (grantWorkOf r i s).pos = s.pos ∧ (grantWorkOf r i s).cov = s.cov ∧
    SameFlow s (grantWorkOf r i s) ∧ (grantWorkOf r i s).sup = s.sup ∧ (grantWorkOf r i s).relay = s.relay ∧
    (grantWorkOf r i s).gate.queue = s.gate.queue ∧ (grantWorkOf r i s).gate.haltDiscards = s.gate.haltDiscards ∧
    (grantWorkOf r i s).gate.waiting = s.gate.waiting ∧ (grantWorkOf r i s).rate = s.rate ∧
    (grantWorkOf r i s).cache.flush = s.cache.flush ∧ (grantWorkOf r i s).settle.partners = s.settle.partners ∧
    (grantWorkOf r i s).settle.region = s.settle.region ∧ SameRun s (grantWorkOf r i s) ∧
    SameView s (grantWorkOf r i s) := by
  unfold grantWorkOf
  repeat' split
  all_goals simp

@[simp] theorem afterGrant_frame (r : Requester) (s : State) :
    SameTime s (afterGrant r s) ∧ (afterGrant r s).pos = s.pos ∧ (afterGrant r s).cov.hold = s.cov.hold ∧
    SamePort s (afterGrant r s) ∧ (afterGrant r s).sup = s.sup ∧
    (afterGrant r s).gate.haltDiscards = s.gate.haltDiscards ∧ (afterGrant r s).rate.tariffs = s.rate.tariffs ∧
    (afterGrant r s).rate.loaded = s.rate.loaded ∧ (afterGrant r s).cache.flush = s.cache.flush ∧
    (afterGrant r s).settle = s.settle ∧ (afterGrant r s).cmd.configured = s.cmd.configured ∧
    SameRings s (afterGrant r s) := by
  unfold afterGrant
  repeat' split
  all_goals simp

/-- What no grant of a line, and nothing that follows one, changes. -/
@[simp] abbrev GrantKeeps (s t : State) : Prop :=
  SameTime s t ∧ t.pos = s.pos ∧ t.cov.hold = s.cov.hold ∧
  SameFlow s t ∧ t.sup = s.sup ∧
  t.gate.haltDiscards = s.gate.haltDiscards ∧ t.rate.tariffs = s.rate.tariffs ∧
  t.rate.loaded = s.rate.loaded ∧ t.cache.flush = s.cache.flush ∧
  t.settle.partners = s.settle.partners ∧ t.settle.region = s.settle.region ∧ t.cmd.configured = s.cmd.configured ∧ SameView s t

@[simp] theorem serve_frame (n : Nat) (m : Nat) (s : State) : GrantKeeps s (serve n m s) := by
  induction n generalizing m s with
  | zero => simp [serve]
  | succ n ih =>
    have hf : ∀ (l : List Nat) (s : State), GrantKeeps s (l.foldl (fun s j => serve n j s) s) := fun l s =>
      foldl_frame (R := GrantKeeps) (by simp) (fun s t a h => by simp_all) l s
    unfold serve
    dsimp only
    repeat' split
    all_goals simp_all

@[simp] theorem grantLine_frame (i : Nat) (s : State) :
    SameTime s (grantLine i s) ∧ (grantLine i s).pos = s.pos ∧ (grantLine i s).cov.hold = s.cov.hold ∧
    SameFlow s (grantLine i s) ∧ (grantLine i s).sup = s.sup ∧ (grantLine i s).gate.haltDiscards = s.gate.haltDiscards ∧
    (grantLine i s).rate.tariffs = s.rate.tariffs ∧ (grantLine i s).rate.loaded = s.rate.loaded ∧
    (grantLine i s).cache.flush = s.cache.flush ∧ (grantLine i s).settle.partners = s.settle.partners ∧
    (grantLine i s).settle.region = s.settle.region ∧ (grantLine i s).cmd.configured = s.cmd.configured ∧
    SameView s (grantLine i s) := by
  unfold grantLine
  simp

@[simp] theorem grantCalled_frame (old : State) (s : State) :
    GrantKeeps s (grantCalled old s) := by
  unfold grantCalled
  exact foldl_frame (R := GrantKeeps) (by simp) (fun s t a h => by simp_all) _ s

@[simp] theorem placeWaiters_frame (s : State) :
    GrantKeeps s (placeWaiters s) := by
  unfold placeWaiters
  simp_all [GrantKeeps]

@[simp] theorem foldl_detachEntry_frame (l : List (Nat × Entry)) (s : State) :
    let t := l.foldl (fun s q => setEntry q.1 { q.2 with detached := true } s) s
    SameTime s t ∧ t.pos = s.pos ∧ t.cov = s.cov ∧ t.path = s.path ∧ t.sup = s.sup ∧ SameBooks s t ∧ t.cmd = s.cmd ∧
    t.rep = s.rep := by
  intro t
  refine foldl_frame (R := fun s t => SameTime s t ∧ t.pos = s.pos ∧ t.cov = s.cov ∧ t.path = s.path ∧ t.sup = s.sup ∧ SameBooks s t ∧ t.cmd = s.cmd ∧ t.rep = s.rep) (by simp) (fun s t a h => ?_) l s
  simp_all

@[simp] theorem closeWaitExpiry_frame (n : Nat) (s : State) :
    SameTime s (closeWaitExpiry n s) ∧ (closeWaitExpiry n s).pos = s.pos ∧ (closeWaitExpiry n s).cov = s.cov ∧
    SamePort s (closeWaitExpiry n s) ∧ (closeWaitExpiry n s).sup = s.sup ∧ (closeWaitExpiry n s).gate = s.gate ∧
    (closeWaitExpiry n s).rate = s.rate ∧ (closeWaitExpiry n s).cache.flush = s.cache.flush ∧
    (closeWaitExpiry n s).settle = s.settle ∧ (closeWaitExpiry n s).cmd = s.cmd ∧ (closeWaitExpiry n s).rep = s.rep := by
  unfold closeWaitExpiry
  dsimp only
  repeat' split
  all_goals simp

end Sys2Proof.Machine
end

