-- ==== Sys2Proof/Laws/PortFrames.lean ====
section
/-! SUPPORT. What each operation of Gate and Capture and the two memory ports leaves unchanged: one lemma per operation. -/

namespace Sys2Proof.Machine

@[simp] theorem settleEvent_frame (old : State) (s : State) :
    SameTime s (settleEvent old s) ∧ (settleEvent old s).pos = s.pos ∧ (settleEvent old s).cov = s.cov ∧
    SamePort s (settleEvent old s) ∧ SameSelector s (settleEvent old s) ∧ (settleEvent old s).gate = s.gate ∧
    (settleEvent old s).rate = s.rate ∧ (settleEvent old s).acct.wait = s.acct.wait ∧
    (settleEvent old s).acct.reserved = s.acct.reserved ∧ (settleEvent old s).acct.places = s.acct.places ∧
    (settleEvent old s).acct.scan = s.acct.scan ∧ (settleEvent old s).cache.flush = s.cache.flush ∧
    (settleEvent old s).settle = s.settle ∧ SameButCounts s (settleEvent old s) ∧ (settleEvent old s).rep = s.rep := by
  unfold settleEvent
  repeat' split
  all_goals simp

@[simp] theorem enqueue_frame (e : UsageEvent) (s : State) :
    SameTime s (enqueue e s) ∧ (enqueue e s).pos = s.pos ∧ (enqueue e s).cov = s.cov ∧ SamePort s (enqueue e s) ∧
    (enqueue e s).sup = s.sup ∧ (enqueue e s).relay = s.relay ∧ (enqueue e s).gate.map = s.gate.map ∧
    (enqueue e s).gate.haltDiscards = s.gate.haltDiscards ∧ (enqueue e s).rate.tariffs = s.rate.tariffs ∧
    (enqueue e s).rate.loaded = s.rate.loaded ∧ (enqueue e s).acct = s.acct ∧
    (enqueue e s).cache.flush = s.cache.flush ∧ (enqueue e s).settle = s.settle ∧ (enqueue e s).cmd = s.cmd ∧
    (enqueue e s).rep = s.rep := by
  unfold enqueue
  simp

@[simp] theorem badAccount_frame (region : Nat) (initiator : Nat) (slot : Nat) (a : Nat) (s : State) :
    SameTime s (badAccount region initiator slot a s) ∧ (badAccount region initiator slot a s).pos = s.pos ∧
    (badAccount region initiator slot a s).cov = s.cov ∧ SamePort s (badAccount region initiator slot a s) ∧
    (badAccount region initiator slot a s).sup = s.sup ∧ (badAccount region initiator slot a s).relay = s.relay ∧
    SameBooks s (badAccount region initiator slot a s) ∧ (badAccount region initiator slot a s).cmd = s.cmd ∧
    SameRings s (badAccount region initiator slot a s) := by
  unfold badAccount
  simp

@[simp] theorem judgeDownlink_frame (initiator : Nat) (slot : Nat) (d : List Byte) (s : State) :
    SameTime s (judgeDownlink initiator slot d s).1 ∧ (judgeDownlink initiator slot d s).1.pos = s.pos ∧
    (judgeDownlink initiator slot d s).1.cov = s.cov ∧ SamePort s (judgeDownlink initiator slot d s).1 ∧
    (judgeDownlink initiator slot d s).1.sup = s.sup ∧ (judgeDownlink initiator slot d s).1.relay = s.relay ∧
    (judgeDownlink initiator slot d s).1.gate.map = s.gate.map ∧
    (judgeDownlink initiator slot d s).1.gate.haltDiscards = s.gate.haltDiscards ∧
    (judgeDownlink initiator slot d s).1.rate.tariffs = s.rate.tariffs ∧
    (judgeDownlink initiator slot d s).1.rate.loaded = s.rate.loaded ∧
    (judgeDownlink initiator slot d s).1.acct = s.acct ∧
    (judgeDownlink initiator slot d s).1.cache.flush = s.cache.flush ∧
    (judgeDownlink initiator slot d s).1.settle = s.settle ∧ (judgeDownlink initiator slot d s).1.cmd = s.cmd ∧
    SameRings s (judgeDownlink initiator slot d s).1 := by
  unfold judgeDownlink
  dsimp only
  repeat' split
  all_goals simp

@[simp] theorem entrySent_frame (e : Nat) (k : Nat) (s : State) :
    SameTime s (entrySent e k s) ∧ (entrySent e k s).pos = s.pos ∧ (entrySent e k s).cov.hold = s.cov.hold ∧
    SamePort s (entrySent e k s) ∧ (entrySent e k s).sup.forced = s.sup.forced ∧ SameBooks s (entrySent e k s) ∧
    SameButCounts s (entrySent e k s) ∧ SameRings s (entrySent e k s) := by
  unfold entrySent
  simp

@[simp] theorem completionFault_frame (kind : Nat) (flags : Nat) (k : Nat) (slot : Nat) (d : List Byte) (s : State) :
    SameTime s (completionFault kind flags k slot d s) ∧ (completionFault kind flags k slot d s).pos = s.pos ∧
    (completionFault kind flags k slot d s).cov = s.cov ∧ SamePort s (completionFault kind flags k slot d s) ∧
    (completionFault kind flags k slot d s).sup = s.sup ∧ (completionFault kind flags k slot d s).relay = s.relay ∧
    SameBooks s (completionFault kind flags k slot d s) ∧ (completionFault kind flags k slot d s).cmd = s.cmd ∧
    SameRings s (completionFault kind flags k slot d s) := by
  unfold completionFault
  simp

@[simp] theorem completeOk_frame (e : Nat) (k : Nat) (s : State) :
    SameTime s (completeOk e k s).1 ∧ (completeOk e k s).1.pos = s.pos ∧ (completeOk e k s).1.cov.hold = s.cov.hold ∧
    SamePort s (completeOk e k s).1 ∧ (completeOk e k s).1.sup.forced = s.sup.forced ∧
    (completeOk e k s).1.gate.map = s.gate.map ∧ (completeOk e k s).1.gate.haltDiscards = s.gate.haltDiscards ∧
    (completeOk e k s).1.rate.tariffs = s.rate.tariffs ∧ (completeOk e k s).1.rate.loaded = s.rate.loaded ∧
    (completeOk e k s).1.acct = s.acct ∧ (completeOk e k s).1.cache.flush = s.cache.flush ∧
    (completeOk e k s).1.settle = s.settle ∧ SameButCounts s (completeOk e k s).1 ∧ SameRings s (completeOk e k s).1 := by
  unfold completeOk
  dsimp only
  repeat' split
  all_goals simp

@[simp] theorem completeFail_frame (e : Nat) (k : Nat) (s : State) :
    SameTime s (completeFail e k s) ∧ (completeFail e k s).pos = s.pos ∧ (completeFail e k s).cov.hold = s.cov.hold ∧
    SamePort s (completeFail e k s) ∧ (completeFail e k s).sup.forced = s.sup.forced ∧
    SameBooks s (completeFail e k s) ∧ SameButCounts s (completeFail e k s) ∧ SameRings s (completeFail e k s) := by
  unfold completeFail
  dsimp only
  repeat' split
  all_goals simp

@[simp] theorem judgeCompletion_frame (k : Nat) (slot : Nat) (d : List Byte) (s : State) :
    SameTime s (judgeCompletion k slot d s).1 ∧ (judgeCompletion k slot d s).1.pos = s.pos ∧
    (judgeCompletion k slot d s).1.cov.hold = s.cov.hold ∧ SamePort s (judgeCompletion k slot d s).1 ∧
    (judgeCompletion k slot d s).1.sup.forced = s.sup.forced ∧ (judgeCompletion k slot d s).1.gate.map = s.gate.map ∧
    (judgeCompletion k slot d s).1.gate.haltDiscards = s.gate.haltDiscards ∧
    (judgeCompletion k slot d s).1.rate.tariffs = s.rate.tariffs ∧
    (judgeCompletion k slot d s).1.rate.loaded = s.rate.loaded ∧ (judgeCompletion k slot d s).1.acct = s.acct ∧
    (judgeCompletion k slot d s).1.cache.flush = s.cache.flush ∧ (judgeCompletion k slot d s).1.settle = s.settle ∧
    SameButCounts s (judgeCompletion k slot d s).1 ∧ SameRings s (judgeCompletion k slot d s).1 := by
  unfold judgeCompletion
  dsimp only
  repeat' split
  all_goals simp

@[simp] theorem joinWait_frame (e : Nat) (en : Entry) (s : State) :
    SameTime s (joinWait e en s) ∧ (joinWait e en s).pos = s.pos ∧ (joinWait e en s).cov = s.cov ∧
    (joinWait e en s).path = s.path ∧ (joinWait e en s).sup = s.sup ∧ SameBooks s (joinWait e en s) ∧
    (joinWait e en s).cmd = s.cmd ∧ (joinWait e en s).rep = s.rep := by
  unfold joinWait
  dsimp only
  simp

@[simp] theorem judgeTake_frame (t : Take) (d : List Byte) (s : State) :
    SameTime s (judgeTake t d s) ∧ (judgeTake t d s).pos = s.pos ∧ (judgeTake t d s).cov = s.cov ∧
    SamePort s (judgeTake t d s) ∧ (judgeTake t d s).sup = s.sup ∧ SameBooks s (judgeTake t d s) ∧
    SameButCounts s (judgeTake t d s) ∧ SameRings s (judgeTake t d s) := by
  unfold judgeTake
  dsimp only
  repeat' split
  all_goals simp

@[simp] theorem badIndex_frame (index : Nat) (v : Nat) (size : Nat) (s : State) :
    SameTime s (badIndex index v size s) ∧ (badIndex index v size s).pos = s.pos ∧
    (badIndex index v size s).cov = s.cov ∧ SamePort s (badIndex index v size s) ∧
    (badIndex index v size s).sup = s.sup ∧ (badIndex index v size s).relay = s.relay ∧
    SameBooks s (badIndex index v size s) ∧ (badIndex index v size s).cmd = s.cmd ∧
    SameRings s (badIndex index v size s) := by
  unfold badIndex
  simp

@[simp] theorem latchCommand_frame (l : Latch) (s : State) :
    SameTime s (latchCommand l s) ∧ (latchCommand l s).pos = s.pos ∧ (latchCommand l s).cov = s.cov ∧
    SamePort s (latchCommand l s) ∧ (latchCommand l s).sup = s.sup ∧ (latchCommand l s).relay = s.relay ∧
    SameBooks s (latchCommand l s) ∧ SameRun s (latchCommand l s) ∧ (latchCommand l s).rep = s.rep := by
  unfold latchCommand
  repeat' split
  all_goals simp

@[simp] theorem commandProducer_frame (v : Nat) (s : State) :
    SameTime s (commandProducer v s) ∧ (commandProducer v s).pos = s.pos ∧ (commandProducer v s).cov = s.cov ∧
    SamePort s (commandProducer v s) ∧ (commandProducer v s).sup = s.sup ∧ (commandProducer v s).relay = s.relay ∧
    SameBooks s (commandProducer v s) ∧ SameRunStep s (commandProducer v s) ∧ SameRings s (commandProducer v s) := by
  unfold commandProducer
  repeat' split
  all_goals simp

@[simp] theorem restartReports_frame (s : State) :
    SameTime s (restartReports s) ∧ (restartReports s).pos = s.pos ∧ (restartReports s).cov = s.cov ∧
    SamePort s (restartReports s) ∧ (restartReports s).sup = s.sup ∧ (restartReports s).relay = s.relay ∧
    SameBooks s (restartReports s) ∧ (restartReports s).cmd = s.cmd ∧ (restartReports s).rep.base = s.rep.base ∧
    (restartReports s).rep.size = s.rep.size := by
  unfold restartReports
  dsimp only
  repeat' split
  all_goals simp

@[simp] theorem latchReportBase_frame (v : Nat) (s : State) :
    SameTime s (latchReportBase v s) ∧ (latchReportBase v s).pos = s.pos ∧ (latchReportBase v s).cov = s.cov ∧
    SamePort s (latchReportBase v s) ∧ (latchReportBase v s).sup = s.sup ∧ (latchReportBase v s).relay = s.relay ∧
    SameBooks s (latchReportBase v s) ∧ (latchReportBase v s).cmd = s.cmd := by
  unfold latchReportBase
  simp

@[simp] theorem latchReportSize_frame (v : Nat) (s : State) :
    SameTime s (latchReportSize v s) ∧ (latchReportSize v s).pos = s.pos ∧ (latchReportSize v s).cov = s.cov ∧
    SamePort s (latchReportSize v s) ∧ (latchReportSize v s).sup = s.sup ∧ (latchReportSize v s).relay = s.relay ∧
    SameBooks s (latchReportSize v s) ∧ (latchReportSize v s).cmd = s.cmd := by
  unfold latchReportSize
  simp

@[simp] theorem reportConsumer_frame (v : Nat) (s : State) :
    SameTime s (reportConsumer v s) ∧ (reportConsumer v s).pos = s.pos ∧ (reportConsumer v s).cov.hold = s.cov.hold ∧
    SameFlow s (reportConsumer v s) ∧ (reportConsumer v s).sup = s.sup ∧
    (reportConsumer v s).gate.haltDiscards = s.gate.haltDiscards ∧ (reportConsumer v s).rate.tariffs = s.rate.tariffs ∧
    (reportConsumer v s).rate.loaded = s.rate.loaded ∧ (reportConsumer v s).cache.flush = s.cache.flush ∧
    (reportConsumer v s).settle.partners = s.settle.partners ∧ (reportConsumer v s).settle.region = s.settle.region ∧
    (reportConsumer v s).cmd.configured = s.cmd.configured ∧ (reportConsumer v s).rep.base = s.rep.base ∧
    (reportConsumer v s).rep.size = s.rep.size := by
  unfold reportConsumer
  repeat' split
  all_goals simp

@[simp] theorem handField_frame (f : ControlField) (v : Nat) (s : State) :
    SameTime s (handField f v s) ∧ (handField f v s).pos = s.pos ∧ (handField f v s).cov.hold = s.cov.hold ∧
    SameFlow s (handField f v s) ∧ (handField f v s).sup = s.sup ∧
    (handField f v s).gate.haltDiscards = s.gate.haltDiscards ∧
    (handField f v s).rate.tariffs = s.rate.tariffs ∧ (handField f v s).rate.loaded = s.rate.loaded ∧
    (handField f v s).cache.flush = s.cache.flush ∧ (handField f v s).settle.partners = s.settle.partners ∧
    (handField f v s).settle.region = s.settle.region ∧ (handField f v s).cmd.configured = s.cmd.configured := by
  unfold handField
  repeat' split
  all_goals simp

@[simp] theorem pathFault_frame (t : Txn) (g : RegionKind) (kind : Nat) (dropped : Nat) (s : State) :
    SameTime s (pathFault t g kind dropped s) ∧ (pathFault t g kind dropped s).pos = s.pos ∧
    (pathFault t g kind dropped s).cov = s.cov ∧ SamePort s (pathFault t g kind dropped s) ∧
    (pathFault t g kind dropped s).sup = s.sup ∧ (pathFault t g kind dropped s).relay = s.relay ∧
    SameBooks s (pathFault t g kind dropped s) ∧ (pathFault t g kind dropped s).cmd = s.cmd ∧
    SameRings s (pathFault t g kind dropped s) := by
  unfold pathFault
  dsimp only
  simp

@[simp] theorem flushOwed_frame (s : State) :
    SameTime s (flushOwed s) ∧ (flushOwed s).pos = s.pos ∧ (flushOwed s).cov = s.cov ∧ SameIssue s (flushOwed s) ∧
    (flushOwed s).sup = s.sup ∧ (flushOwed s).relay = s.relay ∧ SameBooks s (flushOwed s) ∧ (flushOwed s).cmd = s.cmd ∧
    (flushOwed s).rep = s.rep := by
  unfold flushOwed
  dsimp only
  simp

@[simp] theorem answerHead_frame (h : Head) (data : List Byte) (s : State) :
    SameTime s (answerHead h data s) ∧ (answerHead h data s).pos = s.pos ∧ (answerHead h data s).cov = s.cov ∧
    SameIssue s (answerHead h data s) ∧ (answerHead h data s).sup = s.sup ∧ (answerHead h data s).relay = s.relay ∧
    SameBooks s (answerHead h data s) ∧ (answerHead h data s).cmd = s.cmd ∧ (answerHead h data s).rep = s.rep := by
  unfold answerHead
  simp

@[simp] theorem moveHead_frame (s : State) :
    SameTime s (moveHead s) ∧ (moveHead s).pos = s.pos ∧ (moveHead s).cov = s.cov ∧ SameIssue s (moveHead s) ∧
    (moveHead s).sup = s.sup ∧ (moveHead s).relay = s.relay ∧ SameBooks s (moveHead s) ∧ (moveHead s).cmd = s.cmd ∧
    (moveHead s).rep = s.rep := by
  unfold moveHead
  dsimp only
  repeat' split
  all_goals simp

@[simp] theorem setHead_frame (h : Head) (s : State) :
    SameTime s (setHead h s) ∧ (setHead h s).pos = s.pos ∧ (setHead h s).cov = s.cov ∧ SameFlow s (setHead h s) ∧
    (setHead h s).sup = s.sup ∧ (setHead h s).relay = s.relay ∧ SameBooks s (setHead h s) ∧ (setHead h s).cmd = s.cmd ∧
    (setHead h s).rep = s.rep := by
  unfold setHead
  simp

@[simp] theorem setHead_head (h : Head) (s : State) : (setHead h s).path.head = some h := rfl

@[simp] theorem foldl_presentRead_frame (l : List Nat) (s : State) :
    let t := l.foldl (fun s a => presentRead a s) s
    SameTime s t ∧ t.pos = s.pos ∧ t.cov = s.cov ∧ SameFlow s t ∧ t.sup = s.sup ∧ t.relay = s.relay ∧ t.gate = s.gate ∧
    t.rate = s.rate ∧ t.acct = s.acct ∧ t.cache.lru = s.cache.lru ∧ t.cache.misses = s.cache.misses ∧
    t.cache.flush = s.cache.flush ∧ t.settle = s.settle ∧ t.cmd = s.cmd ∧ t.rep = s.rep := by
  intro t
  refine foldl_frame (R := fun s t => SameTime s t ∧ t.pos = s.pos ∧ t.cov = s.cov ∧ SameFlow s t ∧ t.sup = s.sup ∧ t.relay = s.relay ∧ t.gate = s.gate ∧ t.rate = s.rate ∧ t.acct = s.acct ∧ t.cache.lru = s.cache.lru ∧ t.cache.misses = s.cache.misses ∧ t.cache.flush = s.cache.flush ∧ t.settle = s.settle ∧ t.cmd = s.cmd ∧ t.rep = s.rep) (by simp) (fun s t a h => ?_) l s
  simp_all

@[simp] theorem takeRead_frame (t : Txn) (s : State) :
    SameTime s (takeRead t s) ∧ (takeRead t s).pos = s.pos ∧ (takeRead t s).cov = s.cov ∧ SameFlow s (takeRead t s) ∧
    (takeRead t s).sup = s.sup ∧ (takeRead t s).relay = s.relay ∧ (takeRead t s).gate = s.gate ∧
    (takeRead t s).rate = s.rate ∧ (takeRead t s).acct = s.acct ∧ (takeRead t s).cache.lru = s.cache.lru ∧
    (takeRead t s).cache.misses = s.cache.misses ∧ (takeRead t s).cache.flush = s.cache.flush ∧
    (takeRead t s).settle = s.settle ∧ (takeRead t s).cmd = s.cmd ∧ (takeRead t s).rep = s.rep := by
  unfold takeRead
  dsimp only
  repeat' split
  all_goals simp

@[simp] theorem applyVerdict_frame (p : Producer) (r : State × Verdict) :
    SameTime r.1 (applyVerdict p r) ∧ (applyVerdict p r).pos = r.1.pos ∧ (applyVerdict p r).cov = r.1.cov ∧
    SameFlow r.1 (applyVerdict p r) ∧ (applyVerdict p r).sup = r.1.sup ∧ (applyVerdict p r).relay = r.1.relay ∧
    SameBooks r.1 (applyVerdict p r) ∧ (applyVerdict p r).cmd = r.1.cmd ∧ (applyVerdict p r).rep = r.1.rep := by
  unfold applyVerdict
  repeat' split
  all_goals simp

@[simp] theorem foldl_handField_frame (l : List (ControlField × Nat)) (s : State) :
    let t := l.foldl (fun s p => handField p.1 p.2 s) s
    SameTime s t ∧ t.pos = s.pos ∧ t.cov.hold = s.cov.hold ∧ SameFlow s t ∧ t.sup = s.sup ∧
    t.gate.haltDiscards = s.gate.haltDiscards ∧
    t.rate.tariffs = s.rate.tariffs ∧ t.rate.loaded = s.rate.loaded ∧ t.cache.flush = s.cache.flush ∧
    t.settle.partners = s.settle.partners ∧ t.settle.region = s.settle.region ∧ t.cmd.configured = s.cmd.configured := by
  intro t
  refine foldl_frame (R := fun s t => SameTime s t ∧ t.pos = s.pos ∧ t.cov.hold = s.cov.hold ∧ SameFlow s t ∧ t.sup = s.sup ∧ t.gate.haltDiscards = s.gate.haltDiscards ∧ t.rate.tariffs = s.rate.tariffs ∧ t.rate.loaded = s.rate.loaded ∧ t.cache.flush = s.cache.flush ∧ t.settle.partners = s.settle.partners ∧ t.settle.region = s.settle.region ∧ t.cmd.configured = s.cmd.configured) (by simp) (fun s t a h => ?_) l s
  simp_all

@[simp] theorem handOff_frame (t : Txn) (o : Outcome) (s : State) :
    SameTime s (handOff t o s) ∧ (handOff t o s).pos = s.pos ∧ (handOff t o s).cov.hold = s.cov.hold ∧
    SameFlow s (handOff t o s) ∧ (handOff t o s).sup.forced = s.sup.forced ∧
    (handOff t o s).gate.haltDiscards = s.gate.haltDiscards ∧ (handOff t o s).rate.tariffs = s.rate.tariffs ∧
    (handOff t o s).rate.loaded = s.rate.loaded ∧ (handOff t o s).cache.flush = s.cache.flush ∧
    (handOff t o s).settle.partners = s.settle.partners ∧ (handOff t o s).settle.region = s.settle.region ∧
    (handOff t o s).cmd.configured = s.cmd.configured := by
  unfold handOff
  dsimp only
  repeat' split
  all_goals simp

@[simp] theorem foldl_pathFault_frame (t : Txn) (g : RegionKind) (l : List (Nat × Nat)) (s : State) :
    let t := l.foldl (fun s f => pathFault t g f.1 f.2 s) s
    SameTime s t ∧ t.pos = s.pos ∧ t.cov = s.cov ∧ SamePort s t ∧ t.sup = s.sup ∧ t.relay = s.relay ∧ SameBooks s t ∧
    t.cmd = s.cmd ∧ SameRings s t := by
  intro t
  refine foldl_frame (R := fun s t => SameTime s t ∧ t.pos = s.pos ∧ t.cov = s.cov ∧ SamePort s t ∧ t.sup = s.sup ∧ t.relay = s.relay ∧ SameBooks s t ∧ t.cmd = s.cmd ∧ SameRings s t) (by simp) (fun s t a h => ?_) l s
  simp_all

@[simp] theorem foldl_regionFaults_frame (t : Txn) (l : List (RegionKind × Outcome)) (s : State) :
    let t := l.foldl (fun s p =>
      p.2.faults.foldl (fun s f => pathFault t p.1 f.1 f.2 s) s) s
    SameTime s t ∧ t.pos = s.pos ∧ t.cov = s.cov ∧ SamePort s t ∧ t.sup = s.sup ∧ t.relay = s.relay ∧ SameBooks s t ∧
    t.cmd = s.cmd ∧ SameRings s t := by
  intro t
  refine foldl_frame (R := fun s t => SameTime s t ∧ t.pos = s.pos ∧ t.cov = s.cov ∧ SamePort s t ∧ t.sup = s.sup ∧ t.relay = s.relay ∧ SameBooks s t ∧ t.cmd = s.cmd ∧ SameRings s t) (by simp) (fun s t a h => ?_) l s
  simp_all

@[simp] theorem foldl_handOff_frame (t : Txn) (l : List (RegionKind × Outcome)) (s : State) :
    let t := l.foldl (fun s p => handOff t p.2 s) s
    SameTime s t ∧ t.pos = s.pos ∧ t.cov.hold = s.cov.hold ∧ SameFlow s t ∧ t.sup.forced = s.sup.forced ∧
    t.gate.haltDiscards = s.gate.haltDiscards ∧ t.rate.tariffs = s.rate.tariffs ∧ t.rate.loaded = s.rate.loaded ∧
    t.cache.flush = s.cache.flush ∧ t.settle.partners = s.settle.partners ∧ t.settle.region = s.settle.region ∧
    t.cmd.configured = s.cmd.configured := by
  intro t
  refine foldl_frame (R := fun s t => SameTime s t ∧ t.pos = s.pos ∧ t.cov.hold = s.cov.hold ∧ SameFlow s t ∧ t.sup.forced = s.sup.forced ∧ t.gate.haltDiscards = s.gate.haltDiscards ∧ t.rate.tariffs = s.rate.tariffs ∧ t.rate.loaded = s.rate.loaded ∧ t.cache.flush = s.cache.flush ∧ t.settle.partners = s.settle.partners ∧ t.settle.region = s.settle.region ∧ t.cmd.configured = s.cmd.configured) (by simp) (fun s t a h => ?_) l s
  simp_all

@[simp] theorem takeWrite_frame (t : Txn) (s : State) :
    SameTime s (takeWrite t s) ∧ (takeWrite t s).pos = s.pos ∧ (takeWrite t s).cov.hold = s.cov.hold ∧
    SameFlow s (takeWrite t s) ∧ (takeWrite t s).sup.forced = s.sup.forced ∧
    (takeWrite t s).gate.haltDiscards = s.gate.haltDiscards ∧ (takeWrite t s).rate.tariffs = s.rate.tariffs ∧
    (takeWrite t s).rate.loaded = s.rate.loaded ∧ (takeWrite t s).cache.flush = s.cache.flush ∧
    (takeWrite t s).settle.partners = s.settle.partners ∧ (takeWrite t s).settle.region = s.settle.region ∧
    (takeWrite t s).cmd.configured = s.cmd.configured := by
  unfold takeWrite
  dsimp only
  simp

@[simp] theorem takeTxn_frame (t : Txn) (s : State) :
    SameTime s (takeTxn t s) ∧ (takeTxn t s).pos = s.pos ∧ (takeTxn t s).cov.hold = s.cov.hold ∧
    SameFlow s (takeTxn t s) ∧ (takeTxn t s).sup.forced = s.sup.forced ∧
    (takeTxn t s).gate.haltDiscards = s.gate.haltDiscards ∧ (takeTxn t s).rate.tariffs = s.rate.tariffs ∧
    (takeTxn t s).rate.loaded = s.rate.loaded ∧ (takeTxn t s).cache.flush = s.cache.flush ∧
    (takeTxn t s).settle.partners = s.settle.partners ∧ (takeTxn t s).settle.region = s.settle.region ∧
    (takeTxn t s).cmd.configured = s.cmd.configured := by
  unfold takeTxn
  repeat' split
  all_goals simp

@[simp] theorem dealWith_frame (t : Txn) (s : State) :
    SameTime s (dealWith t s) ∧ (dealWith t s).pos = s.pos ∧ (dealWith t s).cov.hold = s.cov.hold ∧
    SameIssue s (dealWith t s) ∧ (dealWith t s).sup.forced = s.sup.forced ∧
    (dealWith t s).gate.haltDiscards = s.gate.haltDiscards ∧ (dealWith t s).rate.tariffs = s.rate.tariffs ∧
    (dealWith t s).rate.loaded = s.rate.loaded ∧ (dealWith t s).cache.flush = s.cache.flush ∧
    (dealWith t s).settle.partners = s.settle.partners ∧ (dealWith t s).settle.region = s.settle.region ∧
    (dealWith t s).cmd.configured = s.cmd.configured := by
  unfold dealWith
  simp

@[simp] theorem pumpLoop_frame (n : Nat) (s : State) :
    SameTime s (pumpLoop n s) ∧ (pumpLoop n s).pos = s.pos ∧ (pumpLoop n s).cov.hold = s.cov.hold ∧
    SameIssue s (pumpLoop n s) ∧ (pumpLoop n s).sup.forced = s.sup.forced ∧
    (pumpLoop n s).gate.haltDiscards = s.gate.haltDiscards ∧ (pumpLoop n s).rate.tariffs = s.rate.tariffs ∧
    (pumpLoop n s).rate.loaded = s.rate.loaded ∧ (pumpLoop n s).cache.flush = s.cache.flush ∧
    (pumpLoop n s).settle.partners = s.settle.partners ∧ (pumpLoop n s).settle.region = s.settle.region ∧
    (pumpLoop n s).cmd.configured = s.cmd.configured := by
  induction n generalizing s with
  | zero => simp [pumpLoop]
  | succ n ih =>
    unfold pumpLoop
    dsimp only
    repeat' split
    all_goals simp_all

@[simp] theorem pumpUpstream_frame (s : State) :
    SameTime s (pumpUpstream s) ∧ (pumpUpstream s).pos = s.pos ∧ (pumpUpstream s).cov.hold = s.cov.hold ∧
    SameIssue s (pumpUpstream s) ∧ (pumpUpstream s).sup.forced = s.sup.forced ∧
    (pumpUpstream s).gate.haltDiscards = s.gate.haltDiscards ∧ (pumpUpstream s).rate.tariffs = s.rate.tariffs ∧
    (pumpUpstream s).rate.loaded = s.rate.loaded ∧ (pumpUpstream s).cache.flush = s.cache.flush ∧
    (pumpUpstream s).settle.partners = s.settle.partners ∧ (pumpUpstream s).settle.region = s.settle.region ∧
    (pumpUpstream s).cmd.configured = s.cmd.configured := by
  unfold pumpUpstream
  simp

@[simp] theorem portEvent_frame (old s : State) :
    SameTime s (portEvent old s) ∧ (portEvent old s).pos = s.pos ∧ (portEvent old s).cov.hold = s.cov.hold ∧
    SameIssue s (portEvent old s) ∧ (portEvent old s).sup.forced = s.sup.forced ∧
    (portEvent old s).gate.haltDiscards = s.gate.haltDiscards ∧ (portEvent old s).rate.tariffs = s.rate.tariffs ∧
    (portEvent old s).rate.loaded = s.rate.loaded ∧ (portEvent old s).cache.flush = s.cache.flush ∧
    (portEvent old s).settle.partners = s.settle.partners ∧ (portEvent old s).settle.region = s.settle.region ∧
    (portEvent old s).cmd.configured = s.cmd.configured := by
  unfold portEvent
  simp

@[simp] theorem arrive_frame (t : Txn) (s : State) :
    SameTime s (arrive t s) ∧ (arrive t s).pos = s.pos ∧ (arrive t s).cov.hold = s.cov.hold ∧ SameIssue s (arrive t s) ∧
    (arrive t s).sup.forced = s.sup.forced ∧ (arrive t s).gate.haltDiscards = s.gate.haltDiscards ∧
    (arrive t s).rate.tariffs = s.rate.tariffs ∧ (arrive t s).rate.loaded = s.rate.loaded ∧
    (arrive t s).cache.flush = s.cache.flush ∧ (arrive t s).settle.partners = s.settle.partners ∧
    (arrive t s).settle.region = s.settle.region ∧ (arrive t s).cmd.configured = s.cmd.configured := by
  unfold arrive
  simp

@[simp] theorem releaseVerdict_frame (v : Verdict) (s : State) :
    SameTime s (releaseVerdict v s) ∧ (releaseVerdict v s).pos = s.pos ∧ (releaseVerdict v s).cov = s.cov ∧
    SameFlow s (releaseVerdict v s) ∧ (releaseVerdict v s).sup = s.sup ∧ (releaseVerdict v s).relay = s.relay ∧
    SameBooks s (releaseVerdict v s) ∧ (releaseVerdict v s).cmd = s.cmd ∧ (releaseVerdict v s).rep = s.rep := by
  unfold releaseVerdict
  repeat' split
  all_goals simp

@[simp] theorem noWaiting_frame (s : State) :
    SameTime s (noWaiting s) ∧ (noWaiting s).pos = s.pos ∧ (noWaiting s).cov = s.cov ∧ (noWaiting s).path = s.path ∧
    (noWaiting s).sup = s.sup ∧ (noWaiting s).relay = s.relay ∧ (noWaiting s).gate.map = s.gate.map ∧
    (noWaiting s).gate.haltDiscards = s.gate.haltDiscards ∧ (noWaiting s).rate = s.rate ∧ (noWaiting s).acct = s.acct ∧
    (noWaiting s).cache = s.cache ∧ (noWaiting s).settle = s.settle ∧ (noWaiting s).cmd = s.cmd ∧
    (noWaiting s).rep = s.rep := by
  unfold noWaiting
  simp

@[simp] theorem noWaiting_waiting (s : State) : (noWaiting s).gate.waiting = none := rfl

@[simp] theorem dealWaiting_frame (w : WaitingEvent) (s : State) :
    SameTime s (dealWaiting w s) ∧ (dealWaiting w s).pos = s.pos ∧ (dealWaiting w s).cov.hold = s.cov.hold ∧
    SameFlow s (dealWaiting w s) ∧ (dealWaiting w s).sup.forced = s.sup.forced ∧
    (dealWaiting w s).gate.map = s.gate.map ∧ (dealWaiting w s).gate.haltDiscards = s.gate.haltDiscards ∧
    (dealWaiting w s).rate.tariffs = s.rate.tariffs ∧ (dealWaiting w s).rate.loaded = s.rate.loaded ∧
    (dealWaiting w s).acct = s.acct ∧ (dealWaiting w s).cache.flush = s.cache.flush ∧
    (dealWaiting w s).settle = s.settle ∧ SameButCounts s (dealWaiting w s) ∧ SameRings s (dealWaiting w s) := by
  unfold dealWaiting
  dsimp only
  repeat' split
  all_goals simp

@[simp] theorem releaseWaiting_frame (s : State) :
    SameTime s (releaseWaiting s) ∧ (releaseWaiting s).pos = s.pos ∧ (releaseWaiting s).cov.hold = s.cov.hold ∧
    SameIssue s (releaseWaiting s) ∧ (releaseWaiting s).sup.forced = s.sup.forced ∧
    (releaseWaiting s).gate.haltDiscards = s.gate.haltDiscards ∧ (releaseWaiting s).rate.tariffs = s.rate.tariffs ∧
    (releaseWaiting s).rate.loaded = s.rate.loaded ∧ (releaseWaiting s).cache.flush = s.cache.flush ∧
    (releaseWaiting s).settle.partners = s.settle.partners ∧ (releaseWaiting s).settle.region = s.settle.region ∧
    (releaseWaiting s).cmd.configured = s.cmd.configured := by
  unfold releaseWaiting
  repeat' split
  all_goals simp

@[simp] theorem noteIssue_frame (t : OwnTxn) (s : State) :
    SameTime s (noteIssue t s) ∧ (noteIssue t s).pos = s.pos ∧ (noteIssue t s).cov = s.cov ∧
    (noteIssue t s).path = s.path ∧ (noteIssue t s).sup = s.sup ∧ (noteIssue t s).relay = s.relay ∧
    SameBooks s (noteIssue t s) ∧ (noteIssue t s).cmd = s.cmd ∧ (noteIssue t s).rep.base = s.rep.base ∧
    (noteIssue t s).rep.size = s.rep.size := by
  unfold noteIssue
  repeat' split
  all_goals simp

@[simp] theorem removeOffer_frame (t : OwnTxn) (again : Bool) (p : PathMonitor) :
    (removeOffer t again p).baseSel = p.baseSel ∧ (removeOffer t again p).upstream = p.upstream ∧
    (removeOffer t again p).head = p.head ∧ (removeOffer t again p).stream = p.stream ∧
    (removeOffer t again p).waiting = p.waiting ∧ (removeOffer t again p).seq = p.seq ∧
    (removeOffer t again p).owed = p.owed ∧ (removeOffer t again p).upOut = p.upOut := by
  unfold removeOffer
  repeat' split
  all_goals simp

@[simp] theorem issueOwn_frame (t : OwnTxn) (again : Bool) (s : State) :
    SameTime s (issueOwn t again s) ∧ (issueOwn t again s).pos = s.pos ∧ (issueOwn t again s).cov = s.cov ∧
    (issueOwn t again s).path.baseSel = s.path.baseSel ∧ (issueOwn t again s).sup = s.sup ∧
    (issueOwn t again s).relay = s.relay ∧ SameBooks s (issueOwn t again s) ∧ (issueOwn t again s).cmd = s.cmd ∧
    (issueOwn t again s).rep.base = s.rep.base ∧ (issueOwn t again s).rep.size = s.rep.size := by
  unfold issueOwn
  repeat' split
  all_goals simp

@[simp] theorem issuePassing_frame (p : Passing) (count : Nat) (s : State) :
    SameTime s (issuePassing p count s) ∧ (issuePassing p count s).pos = s.pos ∧ (issuePassing p count s).cov = s.cov ∧
    (issuePassing p count s).path.baseSel = s.path.baseSel ∧ (issuePassing p count s).sup = s.sup ∧
    (issuePassing p count s).relay = s.relay ∧ SameBooks s (issuePassing p count s) ∧
    (issuePassing p count s).cmd = s.cmd ∧ (issuePassing p count s).rep = s.rep := by
  unfold issuePassing
  simp

@[simp] theorem arbiterIssue_frame (s : State) :
    SameTime s (arbiterIssue s) ∧ (arbiterIssue s).pos = s.pos ∧ (arbiterIssue s).cov = s.cov ∧
    (arbiterIssue s).path.baseSel = s.path.baseSel ∧ (arbiterIssue s).sup = s.sup ∧ (arbiterIssue s).relay = s.relay ∧
    SameBooks s (arbiterIssue s) ∧ (arbiterIssue s).cmd = s.cmd ∧ (arbiterIssue s).rep.base = s.rep.base ∧
    (arbiterIssue s).rep.size = s.rep.size := by
  unfold arbiterIssue
  repeat' split
  all_goals simp

@[simp] theorem writeEntered_frame (w : OwnWrite) (s : State) :
    SameTime s (writeEntered w s) ∧ (writeEntered w s).pos = s.pos ∧ (writeEntered w s).cov = s.cov ∧
    SamePort s (writeEntered w s) ∧ SameSelector s (writeEntered w s) ∧ SameBooks s (writeEntered w s) ∧
    SameRunStep s (writeEntered w s) ∧ SameRings s (writeEntered w s) := by
  unfold writeEntered
  dsimp only
  repeat' split
  all_goals simp

@[simp] theorem ownWriteEnters_frame (s : State) :
    SameTime s (ownWriteEnters s) ∧ (ownWriteEnters s).pos = s.pos ∧ (ownWriteEnters s).cov = s.cov ∧
    SamePort s (ownWriteEnters s) ∧ SameSelector s (ownWriteEnters s) ∧ (ownWriteEnters s).gate = s.gate ∧
    (ownWriteEnters s).rate = s.rate ∧ (ownWriteEnters s).acct.wait = s.acct.wait ∧
    (ownWriteEnters s).acct.reserved = s.acct.reserved ∧ (ownWriteEnters s).acct.places = s.acct.places ∧
    (ownWriteEnters s).acct.scan = s.acct.scan ∧ (ownWriteEnters s).cache.flush = s.cache.flush ∧
    (ownWriteEnters s).settle = s.settle ∧ SameRunStep s (ownWriteEnters s) ∧ SameRings s (ownWriteEnters s) := by
  unfold ownWriteEnters
  repeat' split
  all_goals simp

@[simp] theorem answered_frame (s : State) :
    SameTime s (answered s) ∧ (answered s).pos = s.pos ∧ (answered s).cov = s.cov ∧
    (answered s).path.baseSel = s.path.baseSel ∧ (answered s).sup = s.sup ∧ (answered s).relay = s.relay ∧
    SameBooks s (answered s) ∧ (answered s).cmd = s.cmd ∧ (answered s).rep = s.rep := by
  unfold answered
  simp

@[simp] theorem answered_path (s : State) :
    (answered s).path = { s.path with inFlight := (heard s).tail } := rfl

@[simp] theorem passResponse_frame (p : Passing) (ok : Bool) (data : List Byte) (s : State) :
    SameTime s (passResponse p ok data s) ∧ (passResponse p ok data s).pos = s.pos ∧
    (passResponse p ok data s).cov = s.cov ∧ (passResponse p ok data s).path.baseSel = s.path.baseSel ∧
    (passResponse p ok data s).sup = s.sup ∧ (passResponse p ok data s).relay = s.relay ∧
    SameBooks s (passResponse p ok data s) ∧ (passResponse p ok data s).cmd = s.cmd ∧
    (passResponse p ok data s).rep = s.rep := by
  unfold passResponse
  dsimp only
  simp

@[simp] theorem takeReadDone_frame (data : List Byte) (s : State) :
    SameTime s (takeReadDone data s) ∧ (takeReadDone data s).pos = s.pos ∧ (takeReadDone data s).cov = s.cov ∧
    (takeReadDone data s).path.baseSel = s.path.baseSel ∧ SameSelector s (takeReadDone data s) ∧
    (takeReadDone data s).gate = s.gate ∧ (takeReadDone data s).rate = s.rate ∧
    (takeReadDone data s).acct.wait = s.acct.wait ∧ (takeReadDone data s).acct.reserved = s.acct.reserved ∧
    (takeReadDone data s).acct.places = s.acct.places ∧ (takeReadDone data s).acct.scan = s.acct.scan ∧
    (takeReadDone data s).cache.flush = s.cache.flush ∧ (takeReadDone data s).settle = s.settle ∧
    SameButCounts s (takeReadDone data s) ∧ SameRings s (takeReadDone data s) := by
  unfold takeReadDone
  dsimp only
  repeat' split
  all_goals simp

@[simp] theorem fillLine_frame (i : Nat) (data : List Byte) (s : State) :
    SameTime s (fillLine i data s) ∧ (fillLine i data s).pos = s.pos ∧ (fillLine i data s).cov.hold = s.cov.hold ∧
    SameFlow s (fillLine i data s) ∧ (fillLine i data s).sup = s.sup ∧
    (fillLine i data s).gate.haltDiscards = s.gate.haltDiscards ∧ (fillLine i data s).rate.tariffs = s.rate.tariffs ∧
    (fillLine i data s).rate.loaded = s.rate.loaded ∧ (fillLine i data s).cache.flush = s.cache.flush ∧
    (fillLine i data s).settle.partners = s.settle.partners ∧ (fillLine i data s).settle.region = s.settle.region ∧
    (fillLine i data s).cmd.configured = s.cmd.configured ∧ SameView s (fillLine i data s) := by
  unfold fillLine
  dsimp only
  repeat' split
  all_goals simp

@[simp] theorem fillDone_frame (data : List Byte) (s : State) :
    SameTime s (fillDone data s) ∧ (fillDone data s).pos = s.pos ∧ (fillDone data s).cov.hold = s.cov.hold ∧
    (fillDone data s).path.baseSel = s.path.baseSel ∧ (fillDone data s).sup.forced = s.sup.forced ∧
    (fillDone data s).gate.haltDiscards = s.gate.haltDiscards ∧ (fillDone data s).rate.tariffs = s.rate.tariffs ∧
    (fillDone data s).rate.loaded = s.rate.loaded ∧ (fillDone data s).cache.flush = s.cache.flush ∧
    (fillDone data s).settle.partners = s.settle.partners ∧ (fillDone data s).settle.region = s.settle.region ∧
    (fillDone data s).cmd.configured = s.cmd.configured := by
  unfold fillDone
  repeat' split
  all_goals simp

@[simp] theorem lineGrant_frame (i : Nat) (s : State) :
    SameTime s (lineGrant i s) ∧ (lineGrant i s).pos = s.pos ∧ (lineGrant i s).cov.hold = s.cov.hold ∧
    SameIssue s (lineGrant i s) ∧ (lineGrant i s).sup.forced = s.sup.forced ∧
    (lineGrant i s).gate.haltDiscards = s.gate.haltDiscards ∧ (lineGrant i s).rate.tariffs = s.rate.tariffs ∧
    (lineGrant i s).rate.loaded = s.rate.loaded ∧ (lineGrant i s).cache.flush = s.cache.flush ∧
    (lineGrant i s).settle.partners = s.settle.partners ∧ (lineGrant i s).settle.region = s.settle.region ∧
    (lineGrant i s).cmd.configured = s.cmd.configured := by
  unfold lineGrant
  repeat' split
  all_goals simp

@[simp] theorem serveFlush_frame (s : State) :
    SameTime s (serveFlush s) ∧ (serveFlush s).pos = s.pos ∧ (serveFlush s).cov = s.cov ∧ SamePort s (serveFlush s) ∧
    (serveFlush s).sup = s.sup ∧ (serveFlush s).relay = s.relay ∧ (serveFlush s).gate = s.gate ∧
    (serveFlush s).rate = s.rate ∧ (serveFlush s).acct = s.acct ∧ (serveFlush s).settle = s.settle ∧
    SameRun s (serveFlush s) ∧ SameRings s (serveFlush s) := by
  unfold serveFlush
  repeat' split
  all_goals simp

@[simp] theorem countAtStop_frame (i : Nat) (s : State) :
    SameTime s (countAtStop i s) ∧ (countAtStop i s).pos = s.pos ∧ (countAtStop i s).cov = s.cov ∧
    SamePort s (countAtStop i s) ∧ (countAtStop i s).sup = s.sup ∧ (countAtStop i s).relay = s.relay ∧
    (countAtStop i s).gate = s.gate ∧ (countAtStop i s).rate = s.rate ∧ (countAtStop i s).acct = s.acct ∧
    (countAtStop i s).cache.lru = s.cache.lru ∧ (countAtStop i s).cache.misses = s.cache.misses ∧
    (countAtStop i s).cache.flush = s.cache.flush ∧ (countAtStop i s).settle = s.settle ∧
    SameButCounts s (countAtStop i s) ∧ (countAtStop i s).rep = s.rep := by
  unfold countAtStop
  repeat' split
  all_goals simp

@[simp] theorem writeBackDone_frame (s : State) :
    SameTime s (writeBackDone s) ∧ (writeBackDone s).pos = s.pos ∧ (writeBackDone s).cov = s.cov ∧
    (writeBackDone s).path.baseSel = s.path.baseSel ∧ SameSelector s (writeBackDone s) ∧
    (writeBackDone s).gate = s.gate ∧ (writeBackDone s).rate = s.rate ∧ (writeBackDone s).acct.wait = s.acct.wait ∧
    (writeBackDone s).acct.reserved = s.acct.reserved ∧ (writeBackDone s).acct.places = s.acct.places ∧
    (writeBackDone s).acct.scan = s.acct.scan ∧ (writeBackDone s).settle = s.settle ∧ SameRunStep s (writeBackDone s) ∧
    SameRings s (writeBackDone s) := by
  unfold writeBackDone
  dsimp only
  repeat' split
  all_goals simp

@[simp] theorem consumerReadDone_frame (data : List Byte) (s : State) :
    SameTime s (consumerReadDone data s) ∧ (consumerReadDone data s).pos = s.pos ∧
    (consumerReadDone data s).cov.hold = s.cov.hold ∧ (consumerReadDone data s).path.baseSel = s.path.baseSel ∧
    SameSelector s (consumerReadDone data s) ∧ (consumerReadDone data s).gate.haltDiscards = s.gate.haltDiscards ∧
    (consumerReadDone data s).rate.tariffs = s.rate.tariffs ∧
    (consumerReadDone data s).rate.loaded = s.rate.loaded ∧ (consumerReadDone data s).cache.flush = s.cache.flush ∧
    (consumerReadDone data s).settle.partners = s.settle.partners ∧
    (consumerReadDone data s).settle.region = s.settle.region ∧
    (consumerReadDone data s).cmd.configured = s.cmd.configured ∧ (consumerReadDone data s).rep.base = s.rep.base ∧
    (consumerReadDone data s).rep.size = s.rep.size := by
  unfold consumerReadDone
  dsimp only
  repeat' split
  all_goals simp

end Sys2Proof.Machine
end

