-- ==== Sys2Proof/Laws/RunFrames.lean ====
section
/-! SUPPORT. What each operation of the run states and the commands of the ring leaves unchanged: one lemma per operation. -/

namespace Sys2Proof.Machine

@[simp] theorem haltCapture_frame (s : State) :
    SameTime s (haltCapture s) ∧ (haltCapture s).pos = s.pos ∧ (haltCapture s).cov = s.cov ∧
    SameFlow s (haltCapture s) ∧ (haltCapture s).sup = s.sup ∧ (haltCapture s).relay = s.relay ∧
    (haltCapture s).gate.map = s.gate.map ∧ (haltCapture s).rate = s.rate ∧ (haltCapture s).acct = s.acct ∧
    (haltCapture s).cache = s.cache ∧ (haltCapture s).settle = s.settle ∧ (haltCapture s).cmd = s.cmd ∧
    (haltCapture s).rep = s.rep := by
  unfold haltCapture
  dsimp only
  repeat' split
  all_goals simp

@[simp] theorem haltRating_frame (s : State) :
    SameTime s (haltRating s) ∧ (haltRating s).pos = s.pos ∧ (haltRating s).cov = s.cov ∧ (haltRating s).path = s.path ∧
    (haltRating s).sup = s.sup ∧ (haltRating s).relay = s.relay ∧ (haltRating s).gate = s.gate ∧
    (haltRating s).rate.tariffs = s.rate.tariffs ∧ (haltRating s).rate.loaded = s.rate.loaded ∧
    (haltRating s).acct = s.acct ∧ (haltRating s).cache.flush = s.cache.flush ∧ (haltRating s).settle = s.settle ∧
    (haltRating s).cmd = s.cmd ∧ (haltRating s).rep = s.rep := by
  unfold haltRating
  dsimp only
  simp

@[simp] theorem haltScan_frame (s : State) :
    SameTime s (haltScan s) ∧ (haltScan s).pos = s.pos ∧ (haltScan s).cov = s.cov ∧ SamePort s (haltScan s) ∧
    (haltScan s).sup = s.sup ∧ (haltScan s).relay = s.relay ∧ (haltScan s).gate = s.gate ∧ (haltScan s).rate = s.rate ∧
    (haltScan s).acct.places = s.acct.places ∧ (haltScan s).acct.finisher = s.acct.finisher ∧
    (haltScan s).acct.finishing = s.acct.finishing ∧ (haltScan s).cache.flush = s.cache.flush ∧
    (haltScan s).settle = s.settle ∧ SameRun s (haltScan s) ∧ SameRings s (haltScan s) := by
  unfold haltScan
  dsimp only
  repeat' split
  all_goals simp

@[simp] theorem haltCommand_frame (s : State) :
    SameTime s (haltCommand s) ∧ (haltCommand s).pos = s.pos ∧ (haltCommand s).cov = s.cov ∧
    SamePort s (haltCommand s) ∧ (haltCommand s).sup = s.sup ∧ (haltCommand s).relay = s.relay ∧
    (haltCommand s).gate = s.gate ∧ (haltCommand s).rate = s.rate ∧ (haltCommand s).acct.places = s.acct.places ∧
    (haltCommand s).acct.finisher = s.acct.finisher ∧ (haltCommand s).acct.finishing = s.acct.finishing ∧
    (haltCommand s).cache.flush = s.cache.flush ∧ (haltCommand s).settle = s.settle ∧ SameRun s (haltCommand s) ∧
    SameRings s (haltCommand s) := by
  unfold haltCommand
  repeat' split
  all_goals simp

@[simp] theorem haltWalk_frame (s : State) :
    SameTime s (haltWalk s) ∧ (haltWalk s).pos = s.pos ∧ (haltWalk s).cov = s.cov ∧ SamePort s (haltWalk s) ∧
    (haltWalk s).sup = s.sup ∧ (haltWalk s).relay = s.relay ∧ (haltWalk s).gate = s.gate ∧ (haltWalk s).rate = s.rate ∧
    (haltWalk s).acct = s.acct ∧ (haltWalk s).cache = s.cache ∧ (haltWalk s).settle.partners = s.settle.partners ∧
    (haltWalk s).settle.region = s.settle.region ∧ SameRunStep s (haltWalk s) ∧ SameView s (haltWalk s) := by
  unfold haltWalk
  dsimp only
  repeat' split
  all_goals simp

@[simp] theorem haltFlush_frame (s : State) :
    SameTime s (haltFlush s) ∧ (haltFlush s).pos = s.pos ∧ (haltFlush s).cov = s.cov ∧ SamePort s (haltFlush s) ∧
    (haltFlush s).sup = s.sup ∧ (haltFlush s).relay = s.relay ∧ (haltFlush s).gate = s.gate ∧
    (haltFlush s).rate = s.rate ∧ (haltFlush s).acct = s.acct ∧ (haltFlush s).settle = s.settle ∧
    SameRun s (haltFlush s) ∧ SameRings s (haltFlush s) := by
  unfold haltFlush
  dsimp only
  repeat' split
  all_goals simp

@[simp] theorem haltReport_frame (s : State) :
    SameTime s (haltReport s) ∧ (haltReport s).pos = s.pos ∧ (haltReport s).cov = s.cov ∧ SamePort s (haltReport s) ∧
    (haltReport s).sup = s.sup ∧ (haltReport s).relay = s.relay ∧ SameBooks s (haltReport s) ∧
    (haltReport s).cmd = s.cmd ∧ SameRings s (haltReport s) := by
  unfold haltReport
  repeat' split
  all_goals simp

@[simp] theorem enterHalted_frame (s : State) :
    SameTime s (enterHalted s) ∧ (enterHalted s).pos = s.pos ∧ (enterHalted s).cov.hold = s.cov.hold ∧
    SameFlow s (enterHalted s) ∧ (enterHalted s).sup = s.sup ∧ (enterHalted s).relay = s.relay ∧
    (enterHalted s).gate.map = s.gate.map ∧ (enterHalted s).rate.tariffs = s.rate.tariffs ∧
    (enterHalted s).rate.loaded = s.rate.loaded ∧ (enterHalted s).acct.places = s.acct.places ∧
    (enterHalted s).acct.finisher = s.acct.finisher ∧ (enterHalted s).acct.finishing = s.acct.finishing ∧
    (enterHalted s).settle.partners = s.settle.partners ∧ (enterHalted s).settle.region = s.settle.region ∧
    (enterHalted s).cmd.configured = s.cmd.configured ∧ SameView s (enterHalted s) := by
  unfold enterHalted
  dsimp only
  simp

@[simp] theorem memoryError_frame (t : OwnTxn) (s : State) :
    SameTime s (memoryError t s) ∧ (memoryError t s).pos = s.pos ∧ (memoryError t s).cov = s.cov ∧
    SamePort s (memoryError t s) ∧ (memoryError t s).sup = s.sup ∧ (memoryError t s).relay = s.relay ∧
    SameBooks s (memoryError t s) ∧ (memoryError t s).cmd = s.cmd ∧ SameRings s (memoryError t s) := by
  unfold memoryError
  dsimp only
  repeat' split
  all_goals simp

@[simp] theorem fillFailed_frame (i : Nat) (s : State) :
    SameTime s (fillFailed i s) ∧ (fillFailed i s).pos = s.pos ∧ (fillFailed i s).cov = s.cov ∧
    SameFlow s (fillFailed i s) ∧ (fillFailed i s).sup = s.sup ∧ (fillFailed i s).relay = s.relay ∧
    (fillFailed i s).gate = s.gate ∧ (fillFailed i s).rate = s.rate ∧ (fillFailed i s).acct = s.acct ∧
    (fillFailed i s).cache.misses = s.cache.misses ∧ (fillFailed i s).cache.flush = s.cache.flush ∧
    (fillFailed i s).settle = s.settle ∧ (fillFailed i s).cmd = s.cmd ∧ (fillFailed i s).rep = s.rep := by
  unfold fillFailed
  dsimp only
  repeat' split
  all_goals simp

@[simp] theorem writeBackFailed_frame (i : Nat) (s : State) :
    SameTime s (writeBackFailed i s) ∧ (writeBackFailed i s).pos = s.pos ∧ (writeBackFailed i s).cov = s.cov ∧
    (writeBackFailed i s).path = s.path ∧ (writeBackFailed i s).sup = s.sup ∧ (writeBackFailed i s).relay = s.relay ∧
    (writeBackFailed i s).gate = s.gate ∧ (writeBackFailed i s).rate = s.rate ∧ (writeBackFailed i s).acct = s.acct ∧
    (writeBackFailed i s).cache.lru = s.cache.lru ∧
    (writeBackFailed i s).cache.flush = s.cache.flush ∧ (writeBackFailed i s).settle = s.settle ∧
    (writeBackFailed i s).cmd = s.cmd ∧ (writeBackFailed i s).rep = s.rep := by
  unfold writeBackFailed
  simp

@[simp] theorem tellFailed_frame (t : OwnTxn) (s : State) :
    SameTime s (tellFailed t s) ∧ (tellFailed t s).pos = s.pos ∧ (tellFailed t s).cov = s.cov ∧
    SameFlow s (tellFailed t s) ∧ (tellFailed t s).sup = s.sup ∧ (tellFailed t s).relay = s.relay ∧
    (tellFailed t s).gate = s.gate ∧ (tellFailed t s).rate = s.rate ∧ (tellFailed t s).acct = s.acct ∧
    (tellFailed t s).cache.flush = s.cache.flush ∧
    (tellFailed t s).settle = s.settle ∧ SameRunStep s (tellFailed t s) ∧ (tellFailed t s).rep = s.rep := by
  unfold tellFailed
  repeat' split
  all_goals simp

@[simp] theorem abandon_frame (t : OwnTxn) (s : State) :
    SameTime s (abandon t s) ∧ (abandon t s).pos = s.pos ∧ (abandon t s).cov.hold = s.cov.hold ∧
    SameFlow s (abandon t s) ∧ (abandon t s).sup = s.sup ∧ (abandon t s).relay = s.relay ∧
    (abandon t s).gate.map = s.gate.map ∧ (abandon t s).rate.tariffs = s.rate.tariffs ∧
    (abandon t s).rate.loaded = s.rate.loaded ∧ (abandon t s).acct.places = s.acct.places ∧
    (abandon t s).acct.finisher = s.acct.finisher ∧ (abandon t s).acct.finishing = s.acct.finishing ∧
    (abandon t s).settle.partners = s.settle.partners ∧ (abandon t s).settle.region = s.settle.region ∧
    (abandon t s).cmd.configured = s.cmd.configured ∧ SameView s (abandon t s) := by
  unfold abandon
  dsimp only
  repeat' split
  all_goals simp

@[simp] theorem ownError_frame (ahead : Nat) (s : State) :
    SameTime s (ownError ahead s) ∧ (ownError ahead s).pos = s.pos ∧ (ownError ahead s).cov.hold = s.cov.hold ∧
    (ownError ahead s).path.baseSel = s.path.baseSel ∧ (ownError ahead s).sup = s.sup ∧
    (ownError ahead s).relay = s.relay ∧ (ownError ahead s).gate.map = s.gate.map ∧
    (ownError ahead s).rate.tariffs = s.rate.tariffs ∧ (ownError ahead s).rate.loaded = s.rate.loaded ∧
    (ownError ahead s).acct.places = s.acct.places ∧ (ownError ahead s).acct.finisher = s.acct.finisher ∧
    (ownError ahead s).acct.finishing = s.acct.finishing ∧ (ownError ahead s).settle.partners = s.settle.partners ∧
    (ownError ahead s).settle.region = s.settle.region ∧ (ownError ahead s).cmd.configured = s.cmd.configured ∧
    SameView s (ownError ahead s) := by
  unfold ownError
  dsimp only
  repeat' split
  all_goals simp

@[simp] theorem foldl_abortEntry_frame (l : List Nat) (s : State) :
    let t := l.foldl (fun s e => endEntry false e .aborted (entryOf s e).link s) s
    SameTime s t ∧ t.pos = s.pos ∧ t.cov = s.cov ∧ SamePort s t ∧ t.sup = s.sup ∧ SameBooks s t ∧ SameButCounts s t ∧
    t.rep = s.rep := by
  intro t
  refine foldl_frame (R := fun s t => SameTime s t ∧ t.pos = s.pos ∧ t.cov = s.cov ∧ SamePort s t ∧ t.sup = s.sup ∧ SameBooks s t ∧ SameButCounts s t ∧ t.rep = s.rep) (by simp) (fun s t a h => ?_) l s
  simp_all

@[simp] theorem abortLists_frame (s : State) :
    SameTime s (abortLists s) ∧ (abortLists s).pos = s.pos ∧ (abortLists s).cov = s.cov ∧ SamePort s (abortLists s) ∧
    (abortLists s).sup = s.sup ∧ SameBooks s (abortLists s) ∧ SameButCounts s (abortLists s) ∧
    (abortLists s).rep = s.rep := by
  unfold abortLists
  simp

@[simp] theorem stopDone_frame (s : State) :
    SameTime s (stopDone s) ∧ (stopDone s).pos = s.pos ∧ (stopDone s).cov = s.cov ∧ SamePort s (stopDone s) ∧
    (stopDone s).sup = s.sup ∧ (stopDone s).relay = s.relay ∧ SameBooks s (stopDone s) ∧
    (stopDone s).cmd.configured = s.cmd.configured ∧ SameRings s (stopDone s) := by
  unfold stopDone
  simp

@[simp] theorem beginStep_frame (n : Nat) (s : State) :
    SameTime s (beginStep n s) ∧ (beginStep n s).pos = s.pos ∧ (beginStep n s).cov.hold = s.cov.hold ∧
    SameFlow s (beginStep n s) ∧ (beginStep n s).sup.forced = s.sup.forced ∧ (beginStep n s).gate = s.gate ∧
    (beginStep n s).rate = s.rate ∧ (beginStep n s).acct.wait = s.acct.wait ∧
    (beginStep n s).acct.reserved = s.acct.reserved ∧ (beginStep n s).acct.places = s.acct.places ∧
    (beginStep n s).acct.scan = s.acct.scan ∧ (beginStep n s).cache.flush = s.cache.flush ∧
    (beginStep n s).settle.partners = s.settle.partners ∧ (beginStep n s).settle.region = s.settle.region ∧
    (beginStep n s).cmd.configured = s.cmd.configured ∧ SameView s (beginStep n s) := by
  unfold beginStep
  dsimp only
  repeat' split
  all_goals simp

@[simp] theorem advanceStop_frame (n : Nat) (s : State) :
    SameTime s (advanceStop n s) ∧ (advanceStop n s).pos = s.pos ∧ (advanceStop n s).cov.hold = s.cov.hold ∧
    SameFlow s (advanceStop n s) ∧ (advanceStop n s).sup.forced = s.sup.forced ∧ (advanceStop n s).gate = s.gate ∧
    (advanceStop n s).rate = s.rate ∧ (advanceStop n s).acct.wait = s.acct.wait ∧
    (advanceStop n s).acct.reserved = s.acct.reserved ∧ (advanceStop n s).acct.places = s.acct.places ∧
    (advanceStop n s).acct.scan = s.acct.scan ∧ (advanceStop n s).cache.flush = s.cache.flush ∧
    (advanceStop n s).settle.partners = s.settle.partners ∧ (advanceStop n s).settle.region = s.settle.region ∧
    (advanceStop n s).cmd.configured = s.cmd.configured ∧ SameView s (advanceStop n s) := by
  induction n generalizing s with
  | zero => simp [advanceStop]
  | succ n ih =>
    unfold advanceStop
    split
    all_goals simp_all

@[simp] theorem stopAdvance_frame (s : State) :
    SameTime s (stopAdvance s) ∧ (stopAdvance s).pos = s.pos ∧ (stopAdvance s).cov.hold = s.cov.hold ∧
    SameFlow s (stopAdvance s) ∧ (stopAdvance s).sup.forced = s.sup.forced ∧ (stopAdvance s).gate = s.gate ∧
    (stopAdvance s).rate = s.rate ∧ (stopAdvance s).acct.wait = s.acct.wait ∧
    (stopAdvance s).acct.reserved = s.acct.reserved ∧ (stopAdvance s).acct.places = s.acct.places ∧
    (stopAdvance s).acct.scan = s.acct.scan ∧ (stopAdvance s).cache.flush = s.cache.flush ∧
    (stopAdvance s).settle.partners = s.settle.partners ∧ (stopAdvance s).settle.region = s.settle.region ∧
    (stopAdvance s).cmd.configured = s.cmd.configured ∧ SameView s (stopAdvance s) := by
  unfold stopAdvance
  simp

@[simp] theorem stopRunning_frame (s : State) :
    SameTime s (stopRunning s) ∧ (stopRunning s).pos = s.pos ∧ (stopRunning s).cov.hold = s.cov.hold ∧
    SameFlow s (stopRunning s) ∧ (stopRunning s).sup.forced = s.sup.forced ∧ (stopRunning s).gate = s.gate ∧
    (stopRunning s).rate = s.rate ∧ (stopRunning s).acct.wait = s.acct.wait ∧
    (stopRunning s).acct.reserved = s.acct.reserved ∧ (stopRunning s).acct.places = s.acct.places ∧
    (stopRunning s).acct.scan = s.acct.scan ∧ (stopRunning s).cache.flush = s.cache.flush ∧
    (stopRunning s).settle.partners = s.settle.partners ∧ (stopRunning s).settle.region = s.settle.region ∧
    (stopRunning s).cmd.configured = s.cmd.configured ∧ SameView s (stopRunning s) := by
  unfold stopRunning
  dsimp only
  simp

@[simp] theorem foldl_abortPost_frame (l : List (Nat × Entry)) (s : State) :
    let t := l.foldl (fun s p =>
      if p.2.completionHeld then setEntry p.1 { entryOf s p.1 with offCount := true } s
      else endEntry false p.1 .aborted p.2.link s) s
    SameTime s t ∧ t.pos = s.pos ∧ t.cov = s.cov ∧ SamePort s t ∧ t.sup = s.sup ∧ SameBooks s t ∧ SameButCounts s t ∧
    t.rep = s.rep := by
  intro t
  refine foldl_frame (R := fun s t => SameTime s t ∧ t.pos = s.pos ∧ t.cov = s.cov ∧ SamePort s t ∧ t.sup = s.sup ∧ SameBooks s t ∧ SameButCounts s t ∧ t.rep = s.rep) (by simp) (fun s t a h => ?_) l s
  split <;> simp_all

@[simp] theorem abortPosted_frame (s : State) :
    SameTime s (abortPosted s) ∧ (abortPosted s).pos = s.pos ∧ (abortPosted s).cov = s.cov ∧
    SamePort s (abortPosted s) ∧ (abortPosted s).sup = s.sup ∧ SameBooks s (abortPosted s) ∧
    SameButCounts s (abortPosted s) ∧ (abortPosted s).rep = s.rep := by
  unfold abortPosted
  repeat' split
  all_goals simp

@[simp] theorem postedWaitExpiry_frame (s : State) :
    SameTime s (postedWaitExpiry s) ∧ (postedWaitExpiry s).pos = s.pos ∧ (postedWaitExpiry s).cov.hold = s.cov.hold ∧
    SameFlow s (postedWaitExpiry s) ∧ (postedWaitExpiry s).sup.forced = s.sup.forced ∧
    (postedWaitExpiry s).gate = s.gate ∧ (postedWaitExpiry s).rate = s.rate ∧
    (postedWaitExpiry s).acct.wait = s.acct.wait ∧ (postedWaitExpiry s).acct.reserved = s.acct.reserved ∧
    (postedWaitExpiry s).acct.places = s.acct.places ∧ (postedWaitExpiry s).acct.scan = s.acct.scan ∧
    (postedWaitExpiry s).cache.flush = s.cache.flush ∧ (postedWaitExpiry s).settle.partners = s.settle.partners ∧
    (postedWaitExpiry s).settle.region = s.settle.region ∧ (postedWaitExpiry s).cmd.configured = s.cmd.configured ∧
    SameView s (postedWaitExpiry s) := by
  unfold postedWaitExpiry
  dsimp only
  repeat' split
  all_goals simp

@[simp] theorem clearRelay_frame (s : State) :
    SameTime s (clearRelay s) ∧ (clearRelay s).pos = s.pos ∧ (clearRelay s).cov = s.cov ∧ (clearRelay s).path = s.path ∧
    (clearRelay s).sup = s.sup ∧ SameBooks s (clearRelay s) ∧ (clearRelay s).cmd = s.cmd ∧ (clearRelay s).rep = s.rep := by
  unfold clearRelay
  simp

@[simp] theorem clearFinisher_frame (s : State) :
    SameTime s (clearFinisher s) ∧ (clearFinisher s).pos = s.pos ∧ (clearFinisher s).cov = s.cov ∧
    (clearFinisher s).path = s.path ∧ (clearFinisher s).sup = s.sup ∧ (clearFinisher s).relay = s.relay ∧
    (clearFinisher s).gate = s.gate ∧ (clearFinisher s).rate = s.rate ∧ (clearFinisher s).cache = s.cache ∧
    (clearFinisher s).settle = s.settle ∧ (clearFinisher s).cmd = s.cmd ∧ SameView s (clearFinisher s) := by
  unfold clearFinisher
  dsimp only
  simp

@[simp] theorem foldl_clearLink_frame (l : List Nat) (s : State) :
    let t := l.foldl (fun s k => if (linkOf s k).health = .unconfigured then s else disableLink k s) s
    SameTime s t ∧ t.pos = s.pos ∧ t.cov = s.cov ∧ SamePort s t ∧ SameSelector s t ∧ t.relay = s.relay ∧ SameBooks s t ∧
    t.cmd = s.cmd ∧ SameRings s t := by
  intro t
  refine foldl_frame (R := fun s t => SameTime s t ∧ t.pos = s.pos ∧ t.cov = s.cov ∧ SamePort s t ∧ SameSelector s t ∧ t.relay = s.relay ∧ SameBooks s t ∧ t.cmd = s.cmd ∧ SameRings s t) (by simp) (fun s t a h => ?_) l s
  split <;> simp_all

@[simp] theorem clearLinks_frame (s : State) :
    SameTime s (clearLinks s) ∧ (clearLinks s).pos = s.pos ∧ (clearLinks s).cov.hold = s.cov.hold ∧
    SamePort s (clearLinks s) ∧ (clearLinks s).sup.forced = s.sup.forced ∧ SameLists s (clearLinks s) ∧
    SameBooks s (clearLinks s) ∧ (clearLinks s).cmd = s.cmd ∧ SameRings s (clearLinks s) := by
  unfold clearLinks
  dsimp only
  repeat' split
  all_goals simp

@[simp] theorem clearHalted_frame (s : State) :
    SameTime s (clearHalted s) ∧ (clearHalted s).pos = s.pos ∧ (clearHalted s).cov.hold = s.cov.hold ∧
    (clearHalted s).path.baseSel = s.path.baseSel ∧ (clearHalted s).sup.forced = s.sup.forced ∧
    (clearHalted s).gate.map = s.gate.map ∧ (clearHalted s).rate.tariffs = s.rate.tariffs ∧
    (clearHalted s).rate.loaded = s.rate.loaded ∧ (clearHalted s).settle = s.settle ∧
    (clearHalted s).cmd.configured = s.cmd.configured ∧ SameView s (clearHalted s) := by
  unfold clearHalted
  dsimp only
  repeat' split
  all_goals simp

@[simp] theorem adoptConfig_frame (p : ConfigureParams) (s : State) :
    (adoptConfig p s).pending = s.pending ∧ (adoptConfig p s).clock = s.clock ∧
    (adoptConfig p s).pos.zones = s.pos.zones ∧ (adoptConfig p s).pos.current = s.pos.current ∧
    (adoptConfig p s).cov = s.cov ∧ (adoptConfig p s).path = s.path ∧ SameLinks s (adoptConfig p s) ∧
    SameBooks s (adoptConfig p s) ∧ (adoptConfig p s).rep = s.rep := by
  unfold adoptConfig
  simp

@[simp] theorem adoptionExpiries_frame (s : State) :
    SameTime s (adoptionExpiries s) ∧ SameZone s (adoptionExpiries s) ∧ (adoptionExpiries s).cov.hold = s.cov.hold ∧
    SamePort s (adoptionExpiries s) ∧ SameLinks s (adoptionExpiries s) ∧ SameLists s (adoptionExpiries s) ∧
    SameBooks s (adoptionExpiries s) ∧ (adoptionExpiries s).cmd = s.cmd ∧ SameRings s (adoptionExpiries s) := by
  unfold adoptionExpiries
  simp

@[simp] theorem doConfigure_frame (p : ConfigureParams) (s : State) :
    (doConfigure p s).pending = s.pending ∧ (doConfigure p s).clock = s.clock ∧
    (doConfigure p s).pos.zones = s.pos.zones ∧ (doConfigure p s).pos.current = s.pos.current ∧
    (doConfigure p s).cov.hold = s.cov.hold ∧ SamePort s (doConfigure p s) ∧ SameLinks s (doConfigure p s) ∧
    SameBooks s (doConfigure p s) ∧ SameRings s (doConfigure p s) := by
  unfold doConfigure
  repeat' split
  all_goals simp

@[simp] theorem beginStart_frame (s : State) :
    SameTime s (beginStart s) ∧ (beginStart s).pos = s.pos ∧ (beginStart s).cov = s.cov ∧ SamePort s (beginStart s) ∧
    (beginStart s).sup = s.sup ∧ (beginStart s).relay = s.relay ∧ (beginStart s).gate.queue = s.gate.queue ∧
    (beginStart s).gate.haltDiscards = s.gate.haltDiscards ∧ (beginStart s).gate.waiting = s.gate.waiting ∧
    (beginStart s).rate = s.rate ∧ (beginStart s).acct.places = s.acct.places ∧
    (beginStart s).acct.finisher = s.acct.finisher ∧ (beginStart s).acct.finishing = s.acct.finishing ∧
    (beginStart s).cache.flush = s.cache.flush ∧ (beginStart s).settle = s.settle ∧
    (beginStart s).cmd.configured = s.cmd.configured ∧ (beginStart s).rep = s.rep := by
  unfold beginStart
  simp

@[simp] theorem doStart_frame (s : State) :
    SameTime s (doStart s) ∧ (doStart s).pos = s.pos ∧ (doStart s).cov = s.cov ∧ SamePort s (doStart s) ∧
    (doStart s).sup = s.sup ∧ (doStart s).relay = s.relay ∧ (doStart s).gate.queue = s.gate.queue ∧
    (doStart s).gate.haltDiscards = s.gate.haltDiscards ∧ (doStart s).gate.waiting = s.gate.waiting ∧
    (doStart s).rate = s.rate ∧ (doStart s).acct.places = s.acct.places ∧ (doStart s).acct.finisher = s.acct.finisher ∧
    (doStart s).acct.finishing = s.acct.finishing ∧ (doStart s).cache.flush = s.cache.flush ∧
    (doStart s).settle = s.settle ∧ (doStart s).cmd.configured = s.cmd.configured ∧ SameRings s (doStart s) := by
  unfold doStart
  repeat' split
  all_goals simp

@[simp] theorem doStop_frame (s : State) :
    SameTime s (doStop s) ∧ (doStop s).pos = s.pos ∧ (doStop s).cov.hold = s.cov.hold ∧ SameFlow s (doStop s) ∧
    (doStop s).sup.forced = s.sup.forced ∧ (doStop s).gate = s.gate ∧ (doStop s).rate = s.rate ∧
    (doStop s).acct.wait = s.acct.wait ∧ (doStop s).acct.reserved = s.acct.reserved ∧
    (doStop s).acct.places = s.acct.places ∧ (doStop s).acct.scan = s.acct.scan ∧
    (doStop s).cache.flush = s.cache.flush ∧ (doStop s).settle.partners = s.settle.partners ∧
    (doStop s).settle.region = s.settle.region ∧ (doStop s).cmd.configured = s.cmd.configured ∧ SameView s (doStop s) := by
  unfold doStop
  repeat' split
  all_goals simp

@[simp] theorem doLoadZone_frame (p : LoadZoneParams) (s : State) :
    SameTime s (doLoadZone p s) ∧ (doLoadZone p s).pos.minQuality = s.pos.minQuality ∧
    (doLoadZone p s).pos.fixLoss = s.pos.fixLoss ∧ (doLoadZone p s).cov.hold = s.cov.hold ∧
    SamePort s (doLoadZone p s) ∧ SameLinks s (doLoadZone p s) ∧ SameLists s (doLoadZone p s) ∧
    (doLoadZone p s).gate = s.gate ∧ (doLoadZone p s).rate = s.rate ∧ (doLoadZone p s).acct = s.acct ∧
    (doLoadZone p s).cache = s.cache ∧ (doLoadZone p s).settle.partners = s.settle.partners ∧
    SameRun s (doLoadZone p s) ∧ SameRings s (doLoadZone p s) := by
  unfold doLoadZone
  repeat' split
  all_goals simp

@[simp] theorem doPosition_frame (p : PositionParams) (s : State) :
    SameTime s (doPosition p s) ∧ (doPosition p s).pos.zones = s.pos.zones ∧
    (doPosition p s).pos.minQuality = s.pos.minQuality ∧ (doPosition p s).pos.fixLoss = s.pos.fixLoss ∧
    (doPosition p s).cov.hold = s.cov.hold ∧ SamePort s (doPosition p s) ∧ SameLinks s (doPosition p s) ∧
    SameLists s (doPosition p s) ∧ (doPosition p s).gate = s.gate ∧ (doPosition p s).rate = s.rate ∧
    (doPosition p s).acct = s.acct ∧ (doPosition p s).cache = s.cache ∧
    (doPosition p s).settle.partners = s.settle.partners ∧ SameRun s (doPosition p s) ∧ SameRings s (doPosition p s) := by
  unfold doPosition
  dsimp only
  repeat' split
  all_goals simp

@[simp] theorem doCoverageHold_frame (s : State) :
    SameTime s (doCoverageHold s) ∧ (doCoverageHold s).pos = s.pos ∧ SamePort s (doCoverageHold s) ∧
    (doCoverageHold s).sup = s.sup ∧ (doCoverageHold s).relay = s.relay ∧ SameBooks s (doCoverageHold s) ∧
    SameRun s (doCoverageHold s) ∧ SameRings s (doCoverageHold s) := by
  unfold doCoverageHold
  repeat' split
  all_goals simp

@[simp] theorem doCoverageRelease_frame (s : State) :
    SameTime s (doCoverageRelease s) ∧ (doCoverageRelease s).pos = s.pos ∧ SamePort s (doCoverageRelease s) ∧
    (doCoverageRelease s).sup = s.sup ∧ (doCoverageRelease s).relay = s.relay ∧ SameBooks s (doCoverageRelease s) ∧
    SameRun s (doCoverageRelease s) ∧ SameRings s (doCoverageRelease s) := by
  unfold doCoverageRelease
  repeat' split
  all_goals simp

@[simp] theorem loadLink_frame (k : Nat) (r : LinkRec) (s : State) :
    SameTime s (loadLink k r s) ∧ (loadLink k r s).pos = s.pos ∧ (loadLink k r s).cov.hold = s.cov.hold ∧
    SamePort s (loadLink k r s) ∧ (loadLink k r s).sup.forced = s.sup.forced ∧ SameLists s (loadLink k r s) ∧
    SameBooks s (loadLink k r s) ∧ (loadLink k r s).cmd = s.cmd ∧ SameRings s (loadLink k r s) := by
  unfold loadLink
  dsimp only
  repeat' split
  all_goals simp

@[simp] theorem doLoadLink_frame (p : LoadLinkParams) (s : State) :
    SameTime s (doLoadLink p s) ∧ (doLoadLink p s).pos = s.pos ∧ (doLoadLink p s).cov.hold = s.cov.hold ∧
    SamePort s (doLoadLink p s) ∧ (doLoadLink p s).sup.forced = s.sup.forced ∧ SameLists s (doLoadLink p s) ∧
    SameBooks s (doLoadLink p s) ∧ SameRun s (doLoadLink p s) ∧ SameRings s (doLoadLink p s) := by
  unfold doLoadLink
  dsimp only
  repeat' split
  all_goals simp

@[simp] theorem doLinkEnable_frame (k : Nat) (s : State) :
    SameTime s (doLinkEnable k s) ∧ (doLinkEnable k s).pos = s.pos ∧ (doLinkEnable k s).cov.hold = s.cov.hold ∧
    SamePort s (doLinkEnable k s) ∧ (doLinkEnable k s).sup.forced = s.sup.forced ∧ SameLists s (doLinkEnable k s) ∧
    SameBooks s (doLinkEnable k s) ∧ SameRun s (doLinkEnable k s) ∧ SameRings s (doLinkEnable k s) := by
  unfold doLinkEnable
  dsimp only
  repeat' split
  all_goals simp

@[simp] theorem doLinkReset_frame (k : Nat) (s : State) :
    SameTime s (doLinkReset k s) ∧ (doLinkReset k s).pos = s.pos ∧ (doLinkReset k s).cov.hold = s.cov.hold ∧
    SamePort s (doLinkReset k s) ∧ (doLinkReset k s).sup.forced = s.sup.forced ∧ SameBooks s (doLinkReset k s) ∧
    SameRunStep s (doLinkReset k s) ∧ SameRings s (doLinkReset k s) := by
  unfold doLinkReset
  dsimp only
  repeat' split
  all_goals simp

@[simp] theorem doLinkQuality_frame (k : Nat) (score : Nat) (s : State) :
    SameTime s (doLinkQuality k score s) ∧ (doLinkQuality k score s).pos = s.pos ∧
    (doLinkQuality k score s).cov.hold = s.cov.hold ∧ SamePort s (doLinkQuality k score s) ∧
    (doLinkQuality k score s).sup.forced = s.sup.forced ∧ SameLists s (doLinkQuality k score s) ∧
    SameBooks s (doLinkQuality k score s) ∧ SameRun s (doLinkQuality k score s) ∧
    SameRings s (doLinkQuality k score s) := by
  unfold doLinkQuality
  dsimp only
  repeat' split
  all_goals simp

@[simp] theorem doLinkForce_frame (v : Nat) (s : State) :
    SameTime s (doLinkForce v s) ∧ (doLinkForce v s).pos = s.pos ∧ (doLinkForce v s).cov.hold = s.cov.hold ∧
    SamePort s (doLinkForce v s) ∧ SameLists s (doLinkForce v s) ∧ SameBooks s (doLinkForce v s) ∧
    SameRun s (doLinkForce v s) ∧ SameRings s (doLinkForce v s) := by
  unfold doLinkForce
  dsimp only
  repeat' split
  all_goals simp

@[simp] theorem doSetSchedule_frame (p : SetScheduleParams) (s : State) :
    SameTime s (doSetSchedule p s) ∧ (doSetSchedule p s).pos = s.pos ∧ (doSetSchedule p s).cov = s.cov ∧
    SamePort s (doSetSchedule p s) ∧ SameSelector s (doSetSchedule p s) ∧ SameBooks s (doSetSchedule p s) ∧
    SameRunStep s (doSetSchedule p s) ∧ SameRings s (doSetSchedule p s) := by
  unfold doSetSchedule
  repeat' split
  all_goals simp

@[simp] theorem doLoadTariff_frame (p : LoadTariffParams) (s : State) :
    SameTime s (doLoadTariff p s) ∧ (doLoadTariff p s).pos = s.pos ∧ (doLoadTariff p s).cov = s.cov ∧
    SamePort s (doLoadTariff p s) ∧ (doLoadTariff p s).sup = s.sup ∧ (doLoadTariff p s).relay = s.relay ∧
    (doLoadTariff p s).gate = s.gate ∧ (doLoadTariff p s).acct = s.acct ∧ (doLoadTariff p s).cache = s.cache ∧
    (doLoadTariff p s).settle = s.settle ∧ SameRun s (doLoadTariff p s) ∧ SameRings s (doLoadTariff p s) := by
  unfold doLoadTariff
  dsimp only
  repeat' split
  all_goals simp

@[simp] theorem doLoadPartner_frame (p : LoadPartnerParams) (s : State) :
    SameTime s (doLoadPartner p s) ∧ (doLoadPartner p s).pos = s.pos ∧ (doLoadPartner p s).cov = s.cov ∧
    SamePort s (doLoadPartner p s) ∧ (doLoadPartner p s).sup = s.sup ∧ (doLoadPartner p s).relay = s.relay ∧
    (doLoadPartner p s).gate = s.gate ∧ (doLoadPartner p s).rate = s.rate ∧ (doLoadPartner p s).acct = s.acct ∧
    (doLoadPartner p s).cache = s.cache ∧ (doLoadPartner p s).settle.region = s.settle.region ∧
    (doLoadPartner p s).settle.accums = s.settle.accums ∧ (doLoadPartner p s).settle.walk = s.settle.walk ∧
    (doLoadPartner p s).settle.walkCount = s.settle.walkCount ∧ SameRun s (doLoadPartner p s) ∧
    SameRings s (doLoadPartner p s) := by
  unfold doLoadPartner
  dsimp only
  repeat' split
  all_goals simp

@[simp] theorem doSettle_frame (s : State) :
    SameTime s (doSettle s) ∧ (doSettle s).pos = s.pos ∧ (doSettle s).cov = s.cov ∧ SamePort s (doSettle s) ∧
    (doSettle s).sup = s.sup ∧ (doSettle s).relay = s.relay ∧ (doSettle s).gate = s.gate ∧ (doSettle s).rate = s.rate ∧
    (doSettle s).acct = s.acct ∧ (doSettle s).cache = s.cache ∧ (doSettle s).settle.partners = s.settle.partners ∧
    (doSettle s).settle.region = s.settle.region ∧ SameRunStep s (doSettle s) ∧ SameView s (doSettle s) := by
  unfold doSettle
  repeat' split
  all_goals simp

@[simp] theorem doOpenAccount_frame (p : OpenAccountParams) (s : State) :
    SameTime s (doOpenAccount p s) ∧ (doOpenAccount p s).pos = s.pos ∧ (doOpenAccount p s).cov = s.cov ∧
    SamePort s (doOpenAccount p s) ∧ (doOpenAccount p s).sup = s.sup ∧ (doOpenAccount p s).relay = s.relay ∧
    (doOpenAccount p s).gate.queue = s.gate.queue ∧ (doOpenAccount p s).gate.haltDiscards = s.gate.haltDiscards ∧
    (doOpenAccount p s).gate.waiting = s.gate.waiting ∧ (doOpenAccount p s).rate = s.rate ∧
    (doOpenAccount p s).cache.flush = s.cache.flush ∧ (doOpenAccount p s).settle = s.settle ∧
    SameRun s (doOpenAccount p s) ∧ SameRings s (doOpenAccount p s) := by
  unfold doOpenAccount accountCommand
  repeat' split
  all_goals simp

@[simp] theorem doGrant_frame (p : GrantParams) (s : State) :
    SameTime s (doGrant p s) ∧ (doGrant p s).pos = s.pos ∧ (doGrant p s).cov = s.cov ∧ SamePort s (doGrant p s) ∧
    (doGrant p s).sup = s.sup ∧ (doGrant p s).relay = s.relay ∧ (doGrant p s).gate.queue = s.gate.queue ∧
    (doGrant p s).gate.haltDiscards = s.gate.haltDiscards ∧ (doGrant p s).gate.waiting = s.gate.waiting ∧
    (doGrant p s).rate = s.rate ∧ (doGrant p s).cache.flush = s.cache.flush ∧ (doGrant p s).settle = s.settle ∧
    SameRun s (doGrant p s) ∧ SameRings s (doGrant p s) := by
  unfold doGrant accountCommand
  repeat' split
  all_goals simp

@[simp] theorem doSuspend_frame (a : Nat) (s : State) :
    SameTime s (doSuspend a s) ∧ (doSuspend a s).pos = s.pos ∧ (doSuspend a s).cov = s.cov ∧
    SamePort s (doSuspend a s) ∧ (doSuspend a s).sup = s.sup ∧ (doSuspend a s).relay = s.relay ∧
    (doSuspend a s).gate.queue = s.gate.queue ∧ (doSuspend a s).gate.haltDiscards = s.gate.haltDiscards ∧
    (doSuspend a s).gate.waiting = s.gate.waiting ∧ (doSuspend a s).rate = s.rate ∧
    (doSuspend a s).cache.flush = s.cache.flush ∧ (doSuspend a s).settle = s.settle ∧ SameRun s (doSuspend a s) ∧
    SameRings s (doSuspend a s) := by
  unfold doSuspend accountCommand
  repeat' split
  all_goals simp

@[simp] theorem doResume_frame (a : Nat) (s : State) :
    SameTime s (doResume a s) ∧ (doResume a s).pos = s.pos ∧ (doResume a s).cov = s.cov ∧ SamePort s (doResume a s) ∧
    (doResume a s).sup = s.sup ∧ (doResume a s).relay = s.relay ∧ (doResume a s).gate.queue = s.gate.queue ∧
    (doResume a s).gate.haltDiscards = s.gate.haltDiscards ∧ (doResume a s).gate.waiting = s.gate.waiting ∧
    (doResume a s).rate = s.rate ∧ (doResume a s).cache.flush = s.cache.flush ∧ (doResume a s).settle = s.settle ∧
    SameRun s (doResume a s) ∧ SameRings s (doResume a s) := by
  unfold doResume accountCommand
  repeat' split
  all_goals simp

@[simp] theorem doCloseAccount_frame (a : Nat) (s : State) : GrantKeeps s (doCloseAccount a s) := by
  unfold doCloseAccount accountCommand
  repeat' split
  all_goals simp_all

@[simp] theorem markWriting_frame (s : State) :
    SameTime s (markWriting s) ∧ (markWriting s).pos = s.pos ∧ (markWriting s).cov = s.cov ∧
    (markWriting s).path = s.path ∧ (markWriting s).sup = s.sup ∧ (markWriting s).relay = s.relay ∧
    (markWriting s).gate = s.gate ∧ (markWriting s).rate = s.rate ∧ (markWriting s).acct = s.acct ∧
    (markWriting s).cache.lru = s.cache.lru ∧ (markWriting s).cache.misses = s.cache.misses ∧
    (markWriting s).cache.flush = s.cache.flush ∧ (markWriting s).settle = s.settle ∧ (markWriting s).cmd = s.cmd ∧
    (markWriting s).rep = s.rep := by
  unfold markWriting
  simp

@[simp] theorem doFlush_frame (s : State) :
    SameTime s (doFlush s) ∧ (doFlush s).pos = s.pos ∧ (doFlush s).cov = s.cov ∧ SamePort s (doFlush s) ∧
    (doFlush s).sup = s.sup ∧ (doFlush s).relay = s.relay ∧ (doFlush s).gate = s.gate ∧ (doFlush s).rate = s.rate ∧
    (doFlush s).acct = s.acct ∧ (doFlush s).settle = s.settle ∧ SameRun s (doFlush s) ∧ SameRings s (doFlush s) := by
  unfold doFlush
  dsimp only
  repeat' split
  all_goals simp

@[simp] theorem handCommand_frame (r : Request) (s : State) :
    (handCommand r s).pending = s.pending ∧ (handCommand r s).clock = s.clock ∧ SameFlow s (handCommand r s) ∧
    (handCommand r s).gate.haltDiscards = s.gate.haltDiscards ∧ SameView s (handCommand r s) := by
  unfold handCommand
  repeat' split
  all_goals simp

/-- What the return of a command fetch leaves unchanged before the command is handed over (R180). -/
theorem beginJob_frame {r : Option Request} {code : Nat} {notify : Bool} {s s' : State}
    (h : beginJob r code notify s = some s') :
    SameTime s s' ∧ s'.pos = s.pos ∧ s'.cov = s.cov ∧ s'.path.baseSel = s.path.baseSel ∧
    s'.path.queue = s.path.queue ∧ s'.path.waiting = s.path.waiting ∧ s'.path.head = s.path.head ∧ s'.sup = s.sup ∧
    s'.relay = s.relay ∧ SameBooks s s' ∧ SameRun s s' ∧ s'.rep = s.rep := by
  unfold beginJob at h
  split at h
  · split at h
    · cases h
    · cases h; simp
  · cases h

@[simp] theorem commandFetched_frame (r : Option Request) (code : Nat) (notify : Bool) (s : State) :
    (commandFetched r code notify s).pending = s.pending ∧ (commandFetched r code notify s).clock = s.clock ∧
    (commandFetched r code notify s).path.baseSel = s.path.baseSel ∧
    (commandFetched r code notify s).gate.haltDiscards = s.gate.haltDiscards ∧
    SameView s (commandFetched r code notify s) := by
  unfold commandFetched
  split
  · split <;> simp
  · have h := beginJob_frame ‹_›
    split <;> simp_all

@[simp] theorem recordFetched_frame (record : List Byte) (s : State) :
    (recordFetched record s).pending = s.pending ∧ (recordFetched record s).clock = s.clock ∧
    (recordFetched record s).path.baseSel = s.path.baseSel ∧ (recordFetched record s).gate.haltDiscards = s.gate.haltDiscards ∧
    SameView s (recordFetched record s) := by
  unfold recordFetched
  simp

end Sys2Proof.Machine
end

