-- ==== Sys2Proof/Laws/BoundsKept.lean ====
section
/-! SUPPORT. The capacities of R47, R108, R50, R4 and R185 through each operation. -/

namespace Sys2Proof.Machine

/-- The capacities of R47, R108, R50, R4 and R185, as what they bound. -/
def Bd (q : List OwnWrite) (g : List UsageEvent) (runs discards dropped : Nat) : Prop :=
  q.length ≤ 16 ∧ g.length ≤ 128 ∧ runs ≤ 8 ∧ discards ≤ 65535 ∧ dropped ≤ 255

theorem bounded_iff (s : State) : bounded s = true ↔
    Bd s.path.queue s.gate.queue s.path.runCount s.pos.discards s.rep.dropped := by
  simp [bounded, Bd, and_assoc]

theorem bd_foldl {α : Type} {f : State → α → State}
    (hf : ∀ s a, Bd s.path.queue s.gate.queue s.path.runCount s.pos.discards s.rep.dropped →
      Bd (f s a).path.queue (f s a).gate.queue (f s a).path.runCount (f s a).pos.discards (f s a).rep.dropped)
    (l : List α) {s : State} (hp : Bd s.path.queue s.gate.queue s.path.runCount s.pos.discards s.rep.dropped) :
    Bd (l.foldl f s).path.queue (l.foldl f s).gate.queue (l.foldl f s).path.runCount (l.foldl f s).pos.discards
      (l.foldl f s).rep.dropped :=
  List.foldlRecOn (motive := fun t => Bd t.path.queue t.gate.queue t.path.runCount t.pos.discards t.rep.dropped)
    l f hp fun t ht a _ => hf t a ht

/-- A write enters the queue only where it has room (R47). -/
theorem placeWrite_bd (w : OwnWrite) {s : State} (hp : Bd s.path.queue s.gate.queue s.path.runCount s.pos.discards
    s.rep.dropped) :
    Bd (placeWrite w s).path.queue (placeWrite w s).gate.queue (placeWrite w s).path.runCount (placeWrite w
        s).pos.discards (placeWrite w s).rep.dropped := by
  unfold placeWrite
  split
  · rename_i h
    simp [canEnter] at h
    obtain ⟨hq, hr⟩ := hp
    exact ⟨by simpa using h.1, hr⟩
  · exact hp

theorem issueRead_bd (b : Block) (addr : Nat) (beats : Nat) (use : ReadUse) {s : State} (hp : Bd s.path.queue
    s.gate.queue s.path.runCount s.pos.discards s.rep.dropped) :
    Bd (issueRead b addr beats use s).path.queue (issueRead b addr beats use s).gate.queue (issueRead b addr beats
        use s).path.runCount (issueRead b addr beats use s).pos.discards (issueRead b addr beats use s).rep.dropped
        := by
  unfold issueRead
  (repeat first | with_reducible exact hp | dsimp only | split)

theorem pumpReports_bd (n : Nat) {s : State} (hp : Bd s.path.queue s.gate.queue s.path.runCount s.pos.discards
    s.rep.dropped) :
    Bd (pumpReports n s).path.queue (pumpReports n s).gate.queue (pumpReports n s).path.runCount (pumpReports n
        s).pos.discards (pumpReports n s).rep.dropped := by
  induction n generalizing s with
  | zero => simpa [pumpReports] using hp
  | succ n ih =>
    unfold pumpReports
    (repeat first | with_reducible exact hp | with_reducible apply ih | with_reducible apply placeWrite_bd
                  | dsimp only | split)

theorem runReports_bd  {s : State} (hp : Bd s.path.queue s.gate.queue s.path.runCount s.pos.discards s.rep.dropped) :
    Bd (runReports s).path.queue (runReports s).gate.queue (runReports s).path.runCount (runReports s).pos.discards
        (runReports s).rep.dropped := by
  unfold runReports
  (repeat first | with_reducible exact hp | with_reducible apply pumpReports_bd | dsimp only | split)

theorem Bd.dropped {q g n d k} (h : Bd q g n d k) {k' : Nat} (hk : k' ≤ 255) : Bd q g n d k' :=
  ⟨h.1, h.2.1, h.2.2.1, h.2.2.2.1, hk⟩

theorem Bd.discards {q g n d k} (h : Bd q g n d k) {d' : Nat} (hd : d' ≤ 65535) : Bd q g n d' k :=
  ⟨h.1, h.2.1, h.2.2.1, hd, h.2.2.2.2⟩

theorem Bd.runs {q g n d k} (h : Bd q g n d k) {n' : Nat} (hn : n' ≤ 8) : Bd q g n' d k :=
  ⟨h.1, h.2.1, hn, h.2.2.2⟩

theorem Bd.events {q g n d k} (h : Bd q g n d k) {g' : List UsageEvent} (hg : g'.length ≤ 128) : Bd q g' n d k :=
  ⟨h.1, hg, h.2.2⟩

theorem Bd.writes {q g n d k} (h : Bd q g n d k) {q' : List OwnWrite} (hq : q'.length ≤ 16) : Bd q' g n d k :=
  ⟨hq, h.2⟩

theorem placeReport_bd (r : Report) {s : State} (hp : Bd s.path.queue s.gate.queue s.path.runCount s.pos.discards
    s.rep.dropped) :
    Bd (placeReport r s).path.queue (placeReport r s).gate.queue (placeReport r s).path.runCount (placeReport r
        s).pos.discards (placeReport r s).rep.dropped := by
  unfold placeReport
  split
  · exact hp
  · dsimp only
    apply runReports_bd
    exact hp.dropped (Nat.zero_le _)

theorem offerEvent_bd (r : Report) {s : State} (hp : Bd s.path.queue s.gate.queue s.path.runCount s.pos.discards
    s.rep.dropped) :
    Bd (offerEvent r s).path.queue (offerEvent r s).gate.queue (offerEvent r s).path.runCount (offerEvent r
        s).pos.discards (offerEvent r s).rep.dropped := by
  unfold offerEvent
  split
  · exact placeReport_bd _ hp
  · exact hp.dropped (by simp)

theorem event_bd (kind : Nat) (cause : Nat) (flags : Nat) (fields : List (Nat × Nat × Nat)) {s : State} (hp : Bd
    s.path.queue s.gate.queue s.path.runCount s.pos.discards s.rep.dropped) :
    Bd (event kind cause flags fields s).path.queue (event kind cause flags fields s).gate.queue (event kind cause
        flags fields s).path.runCount (event kind cause flags fields s).pos.discards (event kind cause flags fields
        s).rep.dropped := by
  unfold event
  (repeat first | with_reducible exact hp | with_reducible apply offerEvent_bd | dsimp only | split)

theorem tryFetch_bd  {s : State} (hp : Bd s.path.queue s.gate.queue s.path.runCount s.pos.discards s.rep.dropped) :
    Bd (tryFetch s).path.queue (tryFetch s).gate.queue (tryFetch s).path.runCount (tryFetch s).pos.discards
        (tryFetch s).rep.dropped := by
  unfold tryFetch
  (repeat first | with_reducible exact hp | with_reducible apply issueRead_bd | dsimp only | split)

theorem applyLatch_bd (l : Latch) {s : State} (hp : Bd s.path.queue s.gate.queue s.path.runCount s.pos.discards
    s.rep.dropped) :
    Bd (applyLatch l s).path.queue (applyLatch l s).gate.queue (applyLatch l s).path.runCount (applyLatch l
        s).pos.discards (applyLatch l s).rep.dropped := by
  unfold applyLatch
  (repeat first | with_reducible exact hp | with_reducible apply placeWrite_bd | dsimp only | split)

theorem applyLatches_bd  {s : State} (hp : Bd s.path.queue s.gate.queue s.path.runCount s.pos.discards
    s.rep.dropped) :
    Bd (applyLatches s).path.queue (applyLatches s).gate.queue (applyLatches s).path.runCount (applyLatches
        s).pos.discards (applyLatches s).rep.dropped := by
  unfold applyLatches
  (repeat first | with_reducible exact hp | with_reducible apply applyLatch_bd
                | with_reducible refine bd_foldl (fun s a hp => ?_) _ ?_ | dsimp only | split)

theorem finishJob_bd  {s : State} (hp : Bd s.path.queue s.gate.queue s.path.runCount s.pos.discards s.rep.dropped) :
    Bd (finishJob s).path.queue (finishJob s).gate.queue (finishJob s).path.runCount (finishJob s).pos.discards
        (finishJob s).rep.dropped := by
  unfold finishJob
  (repeat first | with_reducible exact hp | with_reducible apply offerEvent_bd | with_reducible apply tryFetch_bd
                | with_reducible apply applyLatches_bd | dsimp only | split)

theorem writeConsumer_bd  {s : State} (hp : Bd s.path.queue s.gate.queue s.path.runCount s.pos.discards
    s.rep.dropped) :
    Bd (writeConsumer s).path.queue (writeConsumer s).gate.queue (writeConsumer s).path.runCount (writeConsumer
        s).pos.discards (writeConsumer s).rep.dropped := by
  unfold writeConsumer
  (repeat first | with_reducible exact hp | with_reducible apply placeWrite_bd | with_reducible apply finishJob_bd
                | dsimp only | split)

theorem writeStatus_bd  {s : State} (hp : Bd s.path.queue s.gate.queue s.path.runCount s.pos.discards s.rep.dropped) :
    Bd (writeStatus s).path.queue (writeStatus s).gate.queue (writeStatus s).path.runCount (writeStatus
        s).pos.discards (writeStatus s).rep.dropped := by
  unfold writeStatus
  (repeat first | with_reducible exact hp | with_reducible apply placeWrite_bd
                | with_reducible apply writeConsumer_bd | dsimp only | split)

theorem complete_bd (st : Status) (vals : List (Nat × Nat)) (rewrites : List (Nat × Nat × Nat)) {s : State} (hp : Bd
    s.path.queue s.gate.queue s.path.runCount s.pos.discards s.rep.dropped) :
    Bd (complete st vals rewrites s).path.queue (complete st vals rewrites s).gate.queue (complete st vals rewrites
        s).path.runCount (complete st vals rewrites s).pos.discards (complete st vals rewrites s).rep.dropped := by
  unfold complete
  (repeat first | with_reducible exact hp | with_reducible apply placeWrite_bd | with_reducible apply writeStatus_bd
                | dsimp only | split)

theorem refuse_bd (st : Status) {s : State} (hp : Bd s.path.queue s.gate.queue s.path.runCount s.pos.discards
    s.rep.dropped) :
    Bd (refuse st s).path.queue (refuse st s).gate.queue (refuse st s).path.runCount (refuse st s).pos.discards
        (refuse st s).rep.dropped := by
  unfold refuse
  (repeat first | with_reducible exact hp | with_reducible apply complete_bd | dsimp only | split)

theorem covMove_bd (new : CovState) (cause : CovCause) {s : State} (hp : Bd s.path.queue s.gate.queue
    s.path.runCount s.pos.discards s.rep.dropped) :
    Bd (covMove new cause s).path.queue (covMove new cause s).gate.queue (covMove new cause s).path.runCount
        (covMove new cause s).pos.discards (covMove new cause s).rep.dropped := by
  unfold covMove
  (repeat first | with_reducible exact hp | with_reducible apply event_bd | dsimp only | split)

theorem openingTest_bd  {s : State} (hp : Bd s.path.queue s.gate.queue s.path.runCount s.pos.discards s.rep.dropped) :
    Bd (openingTest s).path.queue (openingTest s).gate.queue (openingTest s).path.runCount (openingTest
        s).pos.discards (openingTest s).rep.dropped := by
  unfold openingTest
  (repeat first | with_reducible exact hp | with_reducible apply covMove_bd | dsimp only | split)

theorem covDark_bd (cause : CovCause) {s : State} (hp : Bd s.path.queue s.gate.queue s.path.runCount s.pos.discards
    s.rep.dropped) :
    Bd (covDark cause s).path.queue (covDark cause s).gate.queue (covDark cause s).path.runCount (covDark cause
        s).pos.discards (covDark cause s).rep.dropped := by
  unfold covDark
  (repeat first | with_reducible exact hp | with_reducible apply covMove_bd | with_reducible apply openingTest_bd
                | dsimp only | split)

theorem covAttr_bd (c : Cover) {s : State} (hp : Bd s.path.queue s.gate.queue s.path.runCount s.pos.discards
    s.rep.dropped) :
    Bd (covAttr c s).path.queue (covAttr c s).gate.queue (covAttr c s).path.runCount (covAttr c s).pos.discards
        (covAttr c s).rep.dropped := by
  unfold covAttr
  (repeat first | with_reducible exact hp | with_reducible apply covMove_bd | with_reducible apply openingTest_bd
                | with_reducible apply covDark_bd | dsimp only | split)

theorem covLeaveRunning_bd  {s : State} (hp : Bd s.path.queue s.gate.queue s.path.runCount s.pos.discards
    s.rep.dropped) :
    Bd (covLeaveRunning s).path.queue (covLeaveRunning s).gate.queue (covLeaveRunning s).path.runCount
        (covLeaveRunning s).pos.discards (covLeaveRunning s).rep.dropped := by
  unfold covLeaveRunning
  (repeat first | with_reducible exact hp | with_reducible apply covDark_bd | dsimp only | split)

theorem covClose_bd (cause : CovCause) {s : State} (hp : Bd s.path.queue s.gate.queue s.path.runCount s.pos.discards
    s.rep.dropped) :
    Bd (covClose cause s).path.queue (covClose cause s).gate.queue (covClose cause s).path.runCount (covClose cause
        s).pos.discards (covClose cause s).rep.dropped := by
  unfold covClose
  (repeat first | with_reducible exact hp | with_reducible apply covMove_bd | with_reducible apply covDark_bd
                | dsimp only | split)

theorem covPositionLost_bd  {s : State} (hp : Bd s.path.queue s.gate.queue s.path.runCount s.pos.discards
    s.rep.dropped) :
    Bd (covPositionLost s).path.queue (covPositionLost s).gate.queue (covPositionLost s).path.runCount
        (covPositionLost s).pos.discards (covPositionLost s).rep.dropped := by
  unfold covPositionLost
  (repeat first | with_reducible exact hp | with_reducible apply covClose_bd | dsimp only | split)

theorem covBackhaul_bd (present : Bool) {s : State} (hp : Bd s.path.queue s.gate.queue s.path.runCount
    s.pos.discards s.rep.dropped) :
    Bd (covBackhaul present s).path.queue (covBackhaul present s).gate.queue (covBackhaul present s).path.runCount
        (covBackhaul present s).pos.discards (covBackhaul present s).rep.dropped := by
  unfold covBackhaul
  (repeat first | with_reducible exact hp | with_reducible apply openingTest_bd | dsimp only | split)

theorem covHold_bd  {s : State} (hp : Bd s.path.queue s.gate.queue s.path.runCount s.pos.discards s.rep.dropped) :
    Bd (covHold s).path.queue (covHold s).gate.queue (covHold s).path.runCount (covHold s).pos.discards (covHold
        s).rep.dropped := by
  unfold covHold
  (repeat first | with_reducible exact hp | with_reducible apply covClose_bd | dsimp only | split)

theorem covRelease_bd  {s : State} (hp : Bd s.path.queue s.gate.queue s.path.runCount s.pos.discards s.rep.dropped) :
    Bd (covRelease s).path.queue (covRelease s).gate.queue (covRelease s).path.runCount (covRelease s).pos.discards
        (covRelease s).rep.dropped := by
  unfold covRelease
  (repeat first | with_reducible exact hp | with_reducible apply openingTest_bd | dsimp only | split)

theorem lostGraceExpiry_bd  {s : State} (hp : Bd s.path.queue s.gate.queue s.path.runCount s.pos.discards
    s.rep.dropped) :
    Bd (lostGraceExpiry s).path.queue (lostGraceExpiry s).gate.queue (lostGraceExpiry s).path.runCount
        (lostGraceExpiry s).pos.discards (lostGraceExpiry s).rep.dropped := by
  unfold lostGraceExpiry
  (repeat first | with_reducible exact hp | with_reducible apply covClose_bd | dsimp only | split)

theorem backhaulLossExpiry_bd  {s : State} (hp : Bd s.path.queue s.gate.queue s.path.runCount s.pos.discards
    s.rep.dropped) :
    Bd (backhaulLossExpiry s).path.queue (backhaulLossExpiry s).gate.queue (backhaulLossExpiry s).path.runCount
        (backhaulLossExpiry s).pos.discards (backhaulLossExpiry s).rep.dropped := by
  unfold backhaulLossExpiry
  (repeat first | with_reducible exact hp | with_reducible apply covClose_bd | dsimp only | split)

theorem warmUpExpiry_bd  {s : State} (hp : Bd s.path.queue s.gate.queue s.path.runCount s.pos.discards
    s.rep.dropped) :
    Bd (warmUpExpiry s).path.queue (warmUpExpiry s).gate.queue (warmUpExpiry s).path.runCount (warmUpExpiry
        s).pos.discards (warmUpExpiry s).rep.dropped := by
  unfold warmUpExpiry
  (repeat first | with_reducible exact hp | with_reducible apply covMove_bd | dsimp only | split)

theorem drainExpiry_bd  {s : State} (hp : Bd s.path.queue s.gate.queue s.path.runCount s.pos.discards s.rep.dropped) :
    Bd (drainExpiry s).path.queue (drainExpiry s).gate.queue (drainExpiry s).path.runCount (drainExpiry
        s).pos.discards (drainExpiry s).rep.dropped := by
  unfold drainExpiry
  (repeat first | with_reducible exact hp | with_reducible apply covDark_bd | dsimp only | split)

theorem darkMinimumExpiry_bd  {s : State} (hp : Bd s.path.queue s.gate.queue s.path.runCount s.pos.discards
    s.rep.dropped) :
    Bd (darkMinimumExpiry s).path.queue (darkMinimumExpiry s).gate.queue (darkMinimumExpiry s).path.runCount
        (darkMinimumExpiry s).pos.discards (darkMinimumExpiry s).rep.dropped := by
  unfold darkMinimumExpiry
  (repeat first | with_reducible exact hp | with_reducible apply openingTest_bd | dsimp only | split)

theorem recomputeFlag_bd (cause : Nat) (p : Nat) {s : State} (hp : Bd s.path.queue s.gate.queue s.path.runCount
    s.pos.discards s.rep.dropped) :
    Bd (recomputeFlag cause p s).path.queue (recomputeFlag cause p s).gate.queue (recomputeFlag cause p
        s).path.runCount (recomputeFlag cause p s).pos.discards (recomputeFlag cause p s).rep.dropped := by
  unfold recomputeFlag
  (repeat first | with_reducible exact hp | with_reducible apply event_bd | dsimp only | split)

theorem settlePublish_bd (region : Nat) {s : State} (hp : Bd s.path.queue s.gate.queue s.path.runCount
    s.pos.discards s.rep.dropped) :
    Bd (settlePublish region s).path.queue (settlePublish region s).gate.queue (settlePublish region
        s).path.runCount (settlePublish region s).pos.discards (settlePublish region s).rep.dropped := by
  unfold settlePublish
  (repeat first | with_reducible exact hp | with_reducible apply recomputeFlag_bd
                | with_reducible refine bd_foldl (fun s a hp => ?_) _ ?_ | dsimp only | split)

theorem addAccum_bd (pair : Nat) (charge : Nat) (up : Nat) (down : Nat) (events : Nat) {s : State} (hp : Bd
    s.path.queue s.gate.queue s.path.runCount s.pos.discards s.rep.dropped) :
    Bd (addAccum pair charge up down events s).path.queue (addAccum pair charge up down events s).gate.queue
        (addAccum pair charge up down events s).path.runCount (addAccum pair charge up down events s).pos.discards
        (addAccum pair charge up down events s).rep.dropped := by
  simpa using hp

theorem cutPair_bd (w : Walk) (pair : Nat) {s : State} (hp : Bd s.path.queue s.gate.queue s.path.runCount
    s.pos.discards s.rep.dropped) :
    Bd (cutPair w pair s).path.queue (cutPair w pair s).gate.queue (cutPair w pair s).path.runCount (cutPair w pair
        s).pos.discards (cutPair w pair s).rep.dropped := by
  unfold cutPair
  (repeat first | with_reducible exact hp | with_reducible apply placeReport_bd | dsimp only | split)

theorem endWalk_bd (w : Walk) {s : State} (hp : Bd s.path.queue s.gate.queue s.path.runCount s.pos.discards
    s.rep.dropped) :
    Bd (endWalk w s).path.queue (endWalk w s).gate.queue (endWalk w s).path.runCount (endWalk w s).pos.discards
        (endWalk w s).rep.dropped := by
  unfold endWalk
  (repeat first | with_reducible exact hp | with_reducible apply complete_bd | dsimp only | split)

theorem runWalk_bd (n : Nat) {s : State} (hp : Bd s.path.queue s.gate.queue s.path.runCount s.pos.discards
    s.rep.dropped) :
    Bd (runWalk n s).path.queue (runWalk n s).gate.queue (runWalk n s).path.runCount (runWalk n s).pos.discards
        (runWalk n s).rep.dropped := by
  induction n generalizing s with
  | zero => simpa [runWalk] using hp
  | succ n ih =>
    unfold runWalk
    (repeat first | with_reducible exact hp | with_reducible apply ih | with_reducible apply cutPair_bd
                  | with_reducible apply endWalk_bd | dsimp only | split)

theorem goOnWalk_bd  {s : State} (hp : Bd s.path.queue s.gate.queue s.path.runCount s.pos.discards s.rep.dropped) :
    Bd (goOnWalk s).path.queue (goOnWalk s).gate.queue (goOnWalk s).path.runCount (goOnWalk s).pos.discards
        (goOnWalk s).rep.dropped := by
  unfold goOnWalk
  (repeat first | with_reducible exact hp | with_reducible apply runWalk_bd | dsimp only | split)

theorem beginWalk_bd (stopCause : Bool) {s : State} (hp : Bd s.path.queue s.gate.queue s.path.runCount
    s.pos.discards s.rep.dropped) :
    Bd (beginWalk stopCause s).path.queue (beginWalk stopCause s).gate.queue (beginWalk stopCause s).path.runCount
        (beginWalk stopCause s).pos.discards (beginWalk stopCause s).rep.dropped := by
  unfold beginWalk
  (repeat first | with_reducible exact hp | with_reducible apply goOnWalk_bd | dsimp only | split)

theorem setEntry_bd (e : Nat) (en : Entry) {s : State} (hp : Bd s.path.queue s.gate.queue s.path.runCount
    s.pos.discards s.rep.dropped) :
    Bd (setEntry e en s).path.queue (setEntry e en s).gate.queue (setEntry e en s).path.runCount (setEntry e en
        s).pos.discards (setEntry e en s).rep.dropped := by
  simpa using hp

theorem setLink_bd (k : Nat) (l : Link) {s : State} (hp : Bd s.path.queue s.gate.queue s.path.runCount
    s.pos.discards s.rep.dropped) :
    Bd (setLink k l s).path.queue (setLink k l s).gate.queue (setLink k l s).path.runCount (setLink k l
        s).pos.discards (setLink k l s).rep.dropped := by
  simpa using hp

theorem tryTake_bd  {s : State} (hp : Bd s.path.queue s.gate.queue s.path.runCount s.pos.discards s.rep.dropped) :
    Bd (tryTake s).path.queue (tryTake s).gate.queue (tryTake s).path.runCount (tryTake s).pos.discards (tryTake
        s).rep.dropped := by
  unfold tryTake
  (repeat first | with_reducible exact hp | with_reducible apply issueRead_bd | dsimp only | split)

theorem freeEntry_bd (e : Nat) {s : State} (hp : Bd s.path.queue s.gate.queue s.path.runCount s.pos.discards
    s.rep.dropped) :
    Bd (freeEntry e s).path.queue (freeEntry e s).gate.queue (freeEntry e s).path.runCount (freeEntry e
        s).pos.discards (freeEntry e s).rep.dropped := by
  simpa using hp

theorem endEntry_bd (inPass : Bool) (e : Nat) (f : Final) (link : Option Nat) {s : State} (hp : Bd s.path.queue
    s.gate.queue s.path.runCount s.pos.discards s.rep.dropped) :
    Bd (endEntry inPass e f link s).path.queue (endEntry inPass e f link s).gate.queue (endEntry inPass e f link
        s).path.runCount (endEntry inPass e f link s).pos.discards (endEntry inPass e f link s).rep.dropped := by
  unfold endEntry
  (repeat first | with_reducible exact hp | with_reducible apply placeWrite_bd | with_reducible apply setEntry_bd
                | with_reducible apply freeEntry_bd | dsimp only | split)

theorem installSchedule_bd (sch : Schedule) {s : State} (hp : Bd s.path.queue s.gate.queue s.path.runCount
    s.pos.discards s.rep.dropped) :
    Bd (installSchedule sch s).path.queue (installSchedule sch s).gate.queue (installSchedule sch s).path.runCount
        (installSchedule sch s).pos.discards (installSchedule sch s).rep.dropped := by
  simpa using hp

theorem scheduleModeChange_bd  {s : State} (hp : Bd s.path.queue s.gate.queue s.path.runCount s.pos.discards
    s.rep.dropped) :
    Bd (scheduleModeChange s).path.queue (scheduleModeChange s).gate.queue (scheduleModeChange s).path.runCount
        (scheduleModeChange s).pos.discards (scheduleModeChange s).rep.dropped := by
  simpa using hp

theorem examine_bd (n : Nat) (m : Nat) {s : State} (hp : Bd s.path.queue s.gate.queue s.path.runCount s.pos.discards
    s.rep.dropped) :
    Bd (examine n m s).1.path.queue (examine n m s).1.gate.queue (examine n m s).1.path.runCount (examine n m
        s).1.pos.discards (examine n m s).1.rep.dropped := by
  simpa using hp

theorem chooseWaiting_bd  {s : State} (hp : Bd s.path.queue s.gate.queue s.path.runCount s.pos.discards
    s.rep.dropped) :
    Bd (chooseWaiting s).1.path.queue (chooseWaiting s).1.gate.queue (chooseWaiting s).1.path.runCount
        (chooseWaiting s).1.pos.discards (chooseWaiting s).1.rep.dropped := by
  simpa using hp

theorem markPosted_bd (e : Nat) (k : Nat) {s : State} (hp : Bd s.path.queue s.gate.queue s.path.runCount
    s.pos.discards s.rep.dropped) :
Bd (markPosted e k s).path.queue (markPosted e k s).gate.queue (markPosted e k s).path.runCount (markPosted e k
        s).pos.discards (markPosted e k s).rep.dropped := by
  unfold markPosted
  (repeat first | with_reducible exact hp | with_reducible apply setEntry_bd | with_reducible apply setLink_bd
                | dsimp only | split)

theorem post_bd (e : Nat) (k : Nat) {s : State} (hp : Bd s.path.queue s.gate.queue s.path.runCount s.pos.discards
    s.rep.dropped) :
Bd (post e k s).path.queue (post e k s).gate.queue (post e k s).path.runCount (post e k s).pos.discards (post e k
        s).rep.dropped := by
  unfold post
  (repeat first | with_reducible exact hp | with_reducible apply markPosted_bd | with_reducible apply placeWrite_bd
                | dsimp only | split)

theorem dropPosts_bd (cut : Nat → Bool) {s : State} (hp : Bd s.path.queue s.gate.queue s.path.runCount s.pos.discards
    s.rep.dropped) :
Bd (dropPosts cut s).path.queue (dropPosts cut s).gate.queue (dropPosts cut s).path.runCount (dropPosts cut
        s).pos.discards (dropPosts cut s).rep.dropped := by
  unfold dropPosts
  (repeat first | with_reducible exact hp | dsimp only | split)

theorem judgeHead_bd (retry : Bool) (e : Nat) {s : State} (hp : Bd s.path.queue s.gate.queue s.path.runCount
    s.pos.discards s.rep.dropped) :
    Bd (judgeHead retry e s).1.path.queue (judgeHead retry e s).1.gate.queue (judgeHead retry e s).1.path.runCount
        (judgeHead retry e s).1.pos.discards (judgeHead retry e s).1.rep.dropped := by
  unfold judgeHead
  (repeat first | with_reducible exact hp | with_reducible apply endEntry_bd | with_reducible apply chooseWaiting_bd
                | with_reducible apply post_bd | dsimp only | split)

theorem passLoop_bd (n : Nat) {s : State} (hp : Bd s.path.queue s.gate.queue s.path.runCount s.pos.discards
    s.rep.dropped) :
    Bd (passLoop n s).path.queue (passLoop n s).gate.queue (passLoop n s).path.runCount (passLoop n s).pos.discards
        (passLoop n s).rep.dropped := by
  induction n generalizing s with
  | zero => simpa [passLoop] using hp
  | succ n ih =>
    unfold passLoop
    (repeat first | with_reducible exact hp | with_reducible apply ih | with_reducible apply judgeHead_bd
                  | dsimp only | split)

theorem dispatchPass_bd  {s : State} (hp : Bd s.path.queue s.gate.queue s.path.runCount s.pos.discards
    s.rep.dropped) :
    Bd (dispatchPass s).path.queue (dispatchPass s).gate.queue (dispatchPass s).path.runCount (dispatchPass
        s).pos.discards (dispatchPass s).rep.dropped := by
  unfold dispatchPass
  (repeat first | with_reducible exact hp | with_reducible apply passLoop_bd | dsimp only | split)

theorem uncount_bd (e : Nat) {s : State} (hp : Bd s.path.queue s.gate.queue s.path.runCount s.pos.discards
    s.rep.dropped) :
    Bd (uncount e s).path.queue (uncount e s).gate.queue (uncount e s).path.runCount (uncount e s).pos.discards
        (uncount e s).rep.dropped := by
  simpa using hp

theorem toRetry_bd (e : Nat) {s : State} (hp : Bd s.path.queue s.gate.queue s.path.runCount s.pos.discards
    s.rep.dropped) :
    Bd (toRetry e s).path.queue (toRetry e s).gate.queue (toRetry e s).path.runCount (toRetry e s).pos.discards
        (toRetry e s).rep.dropped := by
  simpa using hp

theorem failEntry_bd (e : Nat) {s : State} (hp : Bd s.path.queue s.gate.queue s.path.runCount s.pos.discards
    s.rep.dropped) :
    Bd (failEntry e s).path.queue (failEntry e s).gate.queue (failEntry e s).path.runCount (failEntry e
        s).pos.discards (failEntry e s).rep.dropped := by
  unfold failEntry
  (repeat first | with_reducible exact hp | with_reducible apply endEntry_bd | with_reducible apply toRetry_bd
                | dsimp only | split)

theorem releaseLink_bd (k : Nat) {s : State} (hp : Bd s.path.queue s.gate.queue s.path.runCount s.pos.discards
    s.rep.dropped) :
    Bd (releaseLink k s).path.queue (releaseLink k s).gate.queue (releaseLink k s).path.runCount (releaseLink k
        s).pos.discards (releaseLink k s).rep.dropped := by
  unfold releaseLink
  (repeat first | with_reducible exact hp | with_reducible apply setEntry_bd | with_reducible apply setLink_bd
                | with_reducible apply failEntry_bd | with_reducible refine bd_foldl (fun s a hp => ?_) _ ?_
                | dsimp only | split)

theorem setLine_bd (i : Nat) (l : Line) {s : State} (hp : Bd s.path.queue s.gate.queue s.path.runCount
    s.pos.discards s.rep.dropped) :
    Bd (setLine i l s).path.queue (setLine i l s).gate.queue (setLine i l s).path.runCount (setLine i l
        s).pos.discards (setLine i l s).rep.dropped := by
  simpa using hp

theorem beginWriteBack_bd (i : Nat) {s : State} (hp : Bd s.path.queue s.gate.queue s.path.runCount s.pos.discards
    s.rep.dropped) :
    Bd (beginWriteBack i s).path.queue (beginWriteBack i s).gate.queue (beginWriteBack i s).path.runCount
        (beginWriteBack i s).pos.discards (beginWriteBack i s).rep.dropped := by
  unfold beginWriteBack
  (repeat first | with_reducible exact hp | with_reducible apply placeWrite_bd | with_reducible apply setLine_bd
                | dsimp only | split)

theorem touchLine_bd (i : Nat) {s : State} (hp : Bd s.path.queue s.gate.queue s.path.runCount s.pos.discards
    s.rep.dropped) :
    Bd (touchLine i s).path.queue (touchLine i s).gate.queue (touchLine i s).path.runCount (touchLine i
        s).pos.discards (touchLine i s).rep.dropped := by
  simpa using hp

theorem assignVictim_bd (i : Nat) (m : Miss) {s : State} (hp : Bd s.path.queue s.gate.queue s.path.runCount
    s.pos.discards s.rep.dropped) :
    Bd (assignVictim i m s).path.queue (assignVictim i m s).gate.queue (assignVictim i m s).path.runCount
        (assignVictim i m s).pos.discards (assignVictim i m s).rep.dropped := by
  unfold assignVictim
  (repeat first | with_reducible exact hp | with_reducible apply issueRead_bd | with_reducible apply setLine_bd
                | with_reducible apply touchLine_bd | dsimp only | split)

theorem beginEvictions_bd (n : Nat) {s : State} (hp : Bd s.path.queue s.gate.queue s.path.runCount s.pos.discards
    s.rep.dropped) :
    Bd (beginEvictions n s).path.queue (beginEvictions n s).gate.queue (beginEvictions n s).path.runCount
        (beginEvictions n s).pos.discards (beginEvictions n s).rep.dropped := by
  induction n generalizing s with
  | zero => simpa [beginEvictions] using hp
  | succ n ih =>
    unfold beginEvictions
    (repeat first | with_reducible exact hp | with_reducible apply ih | with_reducible apply setLine_bd
                  | with_reducible apply beginWriteBack_bd | dsimp only | split)

theorem endEviction_bd (i : Nat) {s : State} (hp : Bd s.path.queue s.gate.queue s.path.runCount s.pos.discards
    s.rep.dropped) :
Bd (endEviction i s).path.queue (endEviction i s).gate.queue (endEviction i s).path.runCount (endEviction i
        s).pos.discards (endEviction i s).rep.dropped := by
  simpa using hp

theorem seekVictims_bd (n : Nat) {s : State} (hp : Bd s.path.queue s.gate.queue s.path.runCount s.pos.discards
    s.rep.dropped) :
    Bd (seekVictims n s).path.queue (seekVictims n s).gate.queue (seekVictims n s).path.runCount (seekVictims n
        s).pos.discards (seekVictims n s).rep.dropped := by
  induction n generalizing s with
  | zero => simpa [seekVictims] using hp
  | succ n ih =>
    unfold seekVictims
    (repeat first | with_reducible exact hp | with_reducible apply ih | with_reducible apply assignVictim_bd
                  | with_reducible apply beginEvictions_bd | dsimp only | split)

theorem serveMisses_bd  {s : State} (hp : Bd s.path.queue s.gate.queue s.path.runCount s.pos.discards s.rep.dropped) :
    Bd (serveMisses s).path.queue (serveMisses s).gate.queue (serveMisses s).path.runCount (serveMisses
        s).pos.discards (serveMisses s).rep.dropped := by
  unfold serveMisses
  (repeat first | with_reducible exact hp | with_reducible apply seekVictims_bd | dsimp only | split)

theorem requestLine_bd (r : Requester) (a : Nat) {s : State} (hp : Bd s.path.queue s.gate.queue s.path.runCount
    s.pos.discards s.rep.dropped) :
    Bd (requestLine r a s).path.queue (requestLine r a s).gate.queue (requestLine r a s).path.runCount (requestLine
        r a s).pos.discards (requestLine r a s).rep.dropped := by
  unfold requestLine
  (repeat first | with_reducible exact hp | with_reducible apply setLine_bd | with_reducible apply serveMisses_bd
                | dsimp only | split)

theorem mapLines_bd (f : Line → Line) {s : State} (hp : Bd s.path.queue s.gate.queue s.path.runCount s.pos.discards
    s.rep.dropped) :
    Bd (mapLines f s).path.queue (mapLines f s).gate.queue (mapLines f s).path.runCount (mapLines f s).pos.discards
        (mapLines f s).rep.dropped := by
  simpa using hp

theorem withdraw_bd (r : Requester) {s : State} (hp : Bd s.path.queue s.gate.queue s.path.runCount s.pos.discards
    s.rep.dropped) :
    Bd (withdraw r s).path.queue (withdraw r s).gate.queue (withdraw r s).path.runCount (withdraw r s).pos.discards
        (withdraw r s).rep.dropped := by
  simpa using hp

theorem changeLine_bd (i : Nat) (r : AcctRec) {s : State} (hp : Bd s.path.queue s.gate.queue s.path.runCount
    s.pos.discards s.rep.dropped) :
    Bd (changeLine i r s).path.queue (changeLine i r s).gate.queue (changeLine i r s).path.runCount (changeLine i r
        s).pos.discards (changeLine i r s).rep.dropped := by
  simpa using hp

theorem answerRead_bd (a : Nat) (ans : Answer) {s : State} (hp : Bd s.path.queue s.gate.queue s.path.runCount
    s.pos.discards s.rep.dropped) :
    Bd (answerRead a ans s).path.queue (answerRead a ans s).gate.queue (answerRead a ans s).path.runCount
        (answerRead a ans s).pos.discards (answerRead a ans s).rep.dropped := by
  unfold answerRead
  (repeat first | with_reducible exact hp | dsimp only | split)

theorem readGrant_bd (i : Nat) {s : State} (hp : Bd s.path.queue s.gate.queue s.path.runCount s.pos.discards
    s.rep.dropped) :
    Bd (readGrant i s).path.queue (readGrant i s).gate.queue (readGrant i s).path.runCount (readGrant i
        s).pos.discards (readGrant i s).rep.dropped := by
  unfold readGrant
  (repeat first | with_reducible exact hp | with_reducible apply beginWriteBack_bd
                | with_reducible apply answerRead_bd | dsimp only | split)

theorem presentRead_bd (a : Nat) {s : State} (hp : Bd s.path.queue s.gate.queue s.path.runCount s.pos.discards
    s.rep.dropped) :
    Bd (presentRead a s).path.queue (presentRead a s).gate.queue (presentRead a s).path.runCount (presentRead a
        s).pos.discards (presentRead a s).rep.dropped := by
  unfold presentRead
  (repeat first | with_reducible exact hp | with_reducible apply setLine_bd | with_reducible apply answerRead_bd
                | with_reducible apply readGrant_bd | dsimp only | split)

theorem ageExpiry_bd (i : Nat) {s : State} (hp : Bd s.path.queue s.gate.queue s.path.runCount s.pos.discards
    s.rep.dropped) :
    Bd (ageExpiry i s).path.queue (ageExpiry i s).gate.queue (ageExpiry i s).path.runCount (ageExpiry i
        s).pos.discards (ageExpiry i s).rep.dropped := by
  unfold ageExpiry
  (repeat first | with_reducible exact hp | with_reducible apply beginWriteBack_bd | dsimp only | split)

theorem answerWaitingReads_bd  {s : State} (hp : Bd s.path.queue s.gate.queue s.path.runCount s.pos.discards
    s.rep.dropped) :
    Bd (answerWaitingReads s).path.queue (answerWaitingReads s).gate.queue (answerWaitingReads s).path.runCount
        (answerWaitingReads s).pos.discards (answerWaitingReads s).rep.dropped := by
  unfold answerWaitingReads
  (repeat first | with_reducible exact hp | with_reducible apply answerRead_bd
                | with_reducible refine bd_foldl (fun s a hp => ?_) _ ?_ | dsimp only | split)

theorem invalidateAll_bd  {s : State} (hp : Bd s.path.queue s.gate.queue s.path.runCount s.pos.discards
    s.rep.dropped) :
    Bd (invalidateAll s).path.queue (invalidateAll s).gate.queue (invalidateAll s).path.runCount (invalidateAll
        s).pos.discards (invalidateAll s).rep.dropped := by
  unfold invalidateAll
  (repeat first | with_reducible exact hp | with_reducible apply answerWaitingReads_bd | dsimp only | split)

theorem writeBackAll_bd  {s : State} (hp : Bd s.path.queue s.gate.queue s.path.runCount s.pos.discards
    s.rep.dropped) :
    Bd (writeBackAll s).path.queue (writeBackAll s).gate.queue (writeBackAll s).path.runCount (writeBackAll
        s).pos.discards (writeBackAll s).rep.dropped := by
  unfold writeBackAll
  (repeat first | with_reducible exact hp | with_reducible apply beginWriteBack_bd
                | with_reducible refine bd_foldl (fun s a hp => ?_) _ ?_ | dsimp only | split)

theorem swapTo_bd (t : Option Nat) (cause : SwapCause) {s : State} (hp : Bd s.path.queue s.gate.queue
    s.path.runCount s.pos.discards s.rep.dropped) :
    Bd (swapTo t cause s).path.queue (swapTo t cause s).gate.queue (swapTo t cause s).path.runCount (swapTo t cause
        s).pos.discards (swapTo t cause s).rep.dropped := by
  unfold swapTo
  (repeat first | with_reducible exact hp | with_reducible apply event_bd | dsimp only | split)

theorem noDeferred_bd  {s : State} (hp : Bd s.path.queue s.gate.queue s.path.runCount s.pos.discards s.rep.dropped) :
    Bd (noDeferred s).path.queue (noDeferred s).gate.queue (noDeferred s).path.runCount (noDeferred s).pos.discards
        (noDeferred s).rep.dropped := by
  simpa using hp

theorem bringActive_bd (modeSwap : Bool) {s : State} (hp : Bd s.path.queue s.gate.queue s.path.runCount
    s.pos.discards s.rep.dropped) :
    Bd (bringActive modeSwap s).path.queue (bringActive modeSwap s).gate.queue (bringActive modeSwap
        s).path.runCount (bringActive modeSwap s).pos.discards (bringActive modeSwap s).rep.dropped := by
  unfold bringActive
  (repeat first | with_reducible exact hp | with_reducible apply swapTo_bd | with_reducible apply noDeferred_bd
                | dsimp only | split)

theorem publishBackhaul_bd  {s : State} (hp : Bd s.path.queue s.gate.queue s.path.runCount s.pos.discards
    s.rep.dropped) :
    Bd (publishBackhaul s).path.queue (publishBackhaul s).gate.queue (publishBackhaul s).path.runCount
        (publishBackhaul s).pos.discards (publishBackhaul s).rep.dropped := by
  unfold publishBackhaul
  (repeat first | with_reducible exact hp | with_reducible apply covBackhaul_bd | dsimp only | split)

theorem clearActive_bd  {s : State} (hp : Bd s.path.queue s.gate.queue s.path.runCount s.pos.discards s.rep.dropped) :
    Bd (clearActive s).path.queue (clearActive s).gate.queue (clearActive s).path.runCount (clearActive
        s).pos.discards (clearActive s).rep.dropped := by
  unfold clearActive
  (repeat first | with_reducible exact hp | with_reducible apply swapTo_bd | with_reducible apply noDeferred_bd
                | dsimp only | split)

theorem tellMode_bd (old : LinkMode) {s : State} (hp : Bd s.path.queue s.gate.queue s.path.runCount s.pos.discards
    s.rep.dropped) :
    Bd (tellMode old s).path.queue (tellMode old s).gate.queue (tellMode old s).path.runCount (tellMode old
        s).pos.discards (tellMode old s).rep.dropped := by
  simpa using hp

theorem selectorEval_bd  {s : State} (hp : Bd s.path.queue s.gate.queue s.path.runCount s.pos.discards
    s.rep.dropped) :
    Bd (selectorEval s).path.queue (selectorEval s).gate.queue (selectorEval s).path.runCount (selectorEval
        s).pos.discards (selectorEval s).rep.dropped := by
  unfold selectorEval
  (repeat first | with_reducible exact hp | with_reducible apply bringActive_bd
                | with_reducible apply publishBackhaul_bd | with_reducible apply clearActive_bd
                | with_reducible apply tellMode_bd | dsimp only | split)

theorem linkStateReport_bd (k : Nat) (old : Health) (cause : LinkCause) {s : State} (hp : Bd s.path.queue
    s.gate.queue s.path.runCount s.pos.discards s.rep.dropped) :
    Bd (linkStateReport k old cause s).path.queue (linkStateReport k old cause s).gate.queue (linkStateReport k old
        cause s).path.runCount (linkStateReport k old cause s).pos.discards (linkStateReport k old cause
        s).rep.dropped := by
  unfold linkStateReport
  (repeat first | with_reducible exact hp | with_reducible apply event_bd | dsimp only | split)

theorem moveHealth_bd (k : Nat) (h : Health) (cause : LinkCause) {s : State} (hp : Bd s.path.queue s.gate.queue
    s.path.runCount s.pos.discards s.rep.dropped) :
    Bd (moveHealth k h cause s).path.queue (moveHealth k h cause s).gate.queue (moveHealth k h cause
        s).path.runCount (moveHealth k h cause s).pos.discards (moveHealth k h cause s).rep.dropped := by
  unfold moveHealth
  (repeat first | with_reducible exact hp | with_reducible apply setLink_bd | with_reducible apply selectorEval_bd
                | with_reducible apply linkStateReport_bd | dsimp only | split)

theorem evaluateLink_bd (k : Nat) (cause : LinkCause) {s : State} (hp : Bd s.path.queue s.gate.queue s.path.runCount
    s.pos.discards s.rep.dropped) :
    Bd (evaluateLink k cause s).path.queue (evaluateLink k cause s).gate.queue (evaluateLink k cause
        s).path.runCount (evaluateLink k cause s).pos.discards (evaluateLink k cause s).rep.dropped := by
  unfold evaluateLink
  (repeat first | with_reducible exact hp | with_reducible apply moveHealth_bd | dsimp only | split)

theorem carrierChange_bd (k : Nat) (high : Bool) {s : State} (hp : Bd s.path.queue s.gate.queue s.path.runCount
    s.pos.discards s.rep.dropped) :
    Bd (carrierChange k high s).path.queue (carrierChange k high s).gate.queue (carrierChange k high
        s).path.runCount (carrierChange k high s).pos.discards (carrierChange k high s).rep.dropped := by
  unfold carrierChange
  (repeat first | with_reducible exact hp | with_reducible apply setLink_bd | with_reducible apply evaluateLink_bd
                | dsimp only | split)

theorem probationExpiry_bd (k : Nat) {s : State} (hp : Bd s.path.queue s.gate.queue s.path.runCount s.pos.discards
    s.rep.dropped) :
    Bd (probationExpiry k s).path.queue (probationExpiry k s).gate.queue (probationExpiry k s).path.runCount
        (probationExpiry k s).pos.discards (probationExpiry k s).rep.dropped := by
  unfold probationExpiry
  (repeat first | with_reducible exact hp | with_reducible apply moveHealth_bd | dsimp only | split)

theorem completionTimeoutExpiry_bd (k : Nat) {s : State} (hp : Bd s.path.queue s.gate.queue s.path.runCount
    s.pos.discards s.rep.dropped) :
    Bd (completionTimeoutExpiry k s).path.queue (completionTimeoutExpiry k s).gate.queue (completionTimeoutExpiry k
        s).path.runCount (completionTimeoutExpiry k s).pos.discards (completionTimeoutExpiry k s).rep.dropped := by
  unfold completionTimeoutExpiry
  (repeat first | with_reducible exact hp | with_reducible apply moveHealth_bd | dsimp only | split)

theorem deferredSwapExpiry_bd  {s : State} (hp : Bd s.path.queue s.gate.queue s.path.runCount s.pos.discards
    s.rep.dropped) :
    Bd (deferredSwapExpiry s).path.queue (deferredSwapExpiry s).gate.queue (deferredSwapExpiry s).path.runCount
        (deferredSwapExpiry s).pos.discards (deferredSwapExpiry s).rep.dropped := by
  unfold deferredSwapExpiry
  (repeat first | with_reducible exact hp | with_reducible apply noDeferred_bd
                | with_reducible apply selectorEval_bd | dsimp only | split)

theorem linkCompleted_bd (k : Nat) {s : State} (hp : Bd s.path.queue s.gate.queue s.path.runCount s.pos.discards
    s.rep.dropped) :
    Bd (linkCompleted k s).path.queue (linkCompleted k s).gate.queue (linkCompleted k s).path.runCount
        (linkCompleted k s).pos.discards (linkCompleted k s).rep.dropped := by
  unfold linkCompleted
  (repeat first | with_reducible exact hp | with_reducible apply moveHealth_bd
                | with_reducible apply evaluateLink_bd | with_reducible apply completionTimeoutExpiry_bd
                | dsimp only | split)

theorem disableLink_bd (k : Nat) {s : State} (hp : Bd s.path.queue s.gate.queue s.path.runCount s.pos.discards
    s.rep.dropped) :
    Bd (disableLink k s).path.queue (disableLink k s).gate.queue (disableLink k s).path.runCount (disableLink k
        s).pos.discards (disableLink k s).rep.dropped := by
  unfold disableLink
  (repeat first | with_reducible exact hp | with_reducible apply setLink_bd
                | with_reducible apply linkStateReport_bd | dsimp only | split)

theorem disableLinks_bd (ks : List Nat) {s : State} (hp : Bd s.path.queue s.gate.queue s.path.runCount
    s.pos.discards s.rep.dropped) :
    Bd (disableLinks ks s).path.queue (disableLinks ks s).gate.queue (disableLinks ks s).path.runCount (disableLinks
        ks s).pos.discards (disableLinks ks s).rep.dropped := by
  unfold disableLinks
  (repeat first | with_reducible exact hp | with_reducible apply selectorEval_bd
                | with_reducible apply disableLink_bd | with_reducible refine bd_foldl (fun s a hp => ?_) _ ?_
                | dsimp only | split)

theorem disableAll_bd  {s : State} (hp : Bd s.path.queue s.gate.queue s.path.runCount s.pos.discards s.rep.dropped) :
    Bd (disableAll s).path.queue (disableAll s).gate.queue (disableAll s).path.runCount (disableAll s).pos.discards
        (disableAll s).rep.dropped := by
  unfold disableAll
  (repeat first | with_reducible exact hp | with_reducible apply disableLinks_bd | dsimp only | split)

theorem enableLink_bd (k : Nat) {s : State} (hp : Bd s.path.queue s.gate.queue s.path.runCount s.pos.discards
    s.rep.dropped) :
    Bd (enableLink k s).path.queue (enableLink k s).gate.queue (enableLink k s).path.runCount (enableLink k
        s).pos.discards (enableLink k s).rep.dropped := by
  unfold enableLink
  (repeat first | with_reducible exact hp | with_reducible apply setLink_bd | with_reducible apply moveHealth_bd
                | with_reducible apply evaluateLink_bd | dsimp only | split)

theorem resetLink_bd (k : Nat) {s : State} (hp : Bd s.path.queue s.gate.queue s.path.runCount s.pos.discards
    s.rep.dropped) :
Bd (resetLink k s).path.queue (resetLink k s).gate.queue (resetLink k s).path.runCount (resetLink k s).pos.discards
        (resetLink k s).rep.dropped := by
  unfold resetLink
  (repeat first | with_reducible exact hp | with_reducible apply setLink_bd | with_reducible apply releaseLink_bd
                | with_reducible apply selectorEval_bd | with_reducible apply linkStateReport_bd
                | with_reducible apply dropPosts_bd | dsimp only | split)

theorem discard_bd {s : State} (hp : Bd s.path.queue s.gate.queue s.path.runCount s.pos.discards s.rep.dropped) :
    Bd (discard s).path.queue (discard s).gate.queue (discard s).path.runCount (discard s).pos.discards (discard
        s).rep.dropped := hp.discards (by simp)

theorem setRx_bd (p : Rx × List Byte) {s : State} (hp : Bd s.path.queue s.gate.queue s.path.runCount s.pos.discards
    s.rep.dropped) :
    Bd (setRx p s).path.queue (setRx p s).gate.queue (setRx p s).path.runCount (setRx p s).pos.discards (setRx p
        s).rep.dropped := by
  unfold setRx
  (repeat first | with_reducible exact hp | dsimp only | split)

theorem zoneReport_bd (z : Zone) (cause : ZoneCause) (prev : Option Nat) (coords : Option (Int × Int)) {s : State}
    (hp : Bd s.path.queue s.gate.queue s.path.runCount s.pos.discards s.rep.dropped) :
    Bd (zoneReport z cause prev coords s).path.queue (zoneReport z cause prev coords s).gate.queue (zoneReport z
        cause prev coords s).path.runCount (zoneReport z cause prev coords s).pos.discards (zoneReport z cause prev
        coords s).rep.dropped := by
  unfold zoneReport
  (repeat first | with_reducible exact hp | with_reducible apply event_bd | dsimp only | split)

theorem publishZone_bd (cause : ZoneCause) (prev : Option Nat) (coords : Option (Int × Int)) {s : State} (hp : Bd
    s.path.queue s.gate.queue s.path.runCount s.pos.discards s.rep.dropped) :
    Bd (publishZone cause prev coords s).path.queue (publishZone cause prev coords s).gate.queue (publishZone cause
        prev coords s).path.runCount (publishZone cause prev coords s).pos.discards (publishZone cause prev coords
        s).rep.dropped := by
  unfold publishZone
  (repeat first | with_reducible exact hp | with_reducible apply covAttr_bd | with_reducible apply settlePublish_bd
                | with_reducible apply selectorEval_bd | with_reducible apply zoneReport_bd | dsimp only | split)

theorem becomeCurrent_bd (z : Nat) (cause : ZoneCause) (coords : Option (Int × Int)) {s : State} (hp : Bd
    s.path.queue s.gate.queue s.path.runCount s.pos.discards s.rep.dropped) :
    Bd (becomeCurrent z cause coords s).path.queue (becomeCurrent z cause coords s).gate.queue (becomeCurrent z
        cause coords s).path.runCount (becomeCurrent z cause coords s).pos.discards (becomeCurrent z cause coords
        s).rep.dropped := by
  unfold becomeCurrent
  (repeat first | with_reducible exact hp | with_reducible apply publishZone_bd | dsimp only | split)

theorem evaluatePending_bd (c : Nat) (lat : Int) (lon : Int) {s : State} (hp : Bd s.path.queue s.gate.queue
    s.path.runCount s.pos.discards s.rep.dropped) :
    Bd (evaluatePending c lat lon s).path.queue (evaluatePending c lat lon s).gate.queue (evaluatePending c lat lon
        s).path.runCount (evaluatePending c lat lon s).pos.discards (evaluatePending c lat lon s).rep.dropped := by
  unfold evaluatePending
  (repeat first | with_reducible exact hp | with_reducible apply becomeCurrent_bd | dsimp only | split)

theorem evaluateZone_bd (lat : Int) (lon : Int) {s : State} (hp : Bd s.path.queue s.gate.queue s.path.runCount
    s.pos.discards s.rep.dropped) :
    Bd (evaluateZone lat lon s).path.queue (evaluateZone lat lon s).gate.queue (evaluateZone lat lon
        s).path.runCount (evaluateZone lat lon s).pos.discards (evaluateZone lat lon s).rep.dropped := by
  unfold evaluateZone
  (repeat first | with_reducible exact hp | with_reducible apply becomeCurrent_bd
                | with_reducible apply evaluatePending_bd | dsimp only | split)

theorem positionReport_bd (cause : PosCause) {s : State} (hp : Bd s.path.queue s.gate.queue s.path.runCount
    s.pos.discards s.rep.dropped) :
    Bd (positionReport cause s).path.queue (positionReport cause s).gate.queue (positionReport cause
        s).path.runCount (positionReport cause s).pos.discards (positionReport cause s).rep.dropped := by
  unfold positionReport
  (repeat first | with_reducible exact hp | with_reducible apply event_bd | dsimp only | split)

theorem positionValid_bd  {s : State} (hp : Bd s.path.queue s.gate.queue s.path.runCount s.pos.discards
    s.rep.dropped) :
    Bd (positionValid s).path.queue (positionValid s).gate.queue (positionValid s).path.runCount (positionValid
        s).pos.discards (positionValid s).rep.dropped := by
  unfold positionValid
  (repeat first | with_reducible exact hp | with_reducible apply openingTest_bd
                | with_reducible apply positionReport_bd | dsimp only | split)

theorem takeFix_bd (quality : Nat) (lat lon : Int) (source : FixSource) {s : State}
    (hp : Bd s.path.queue s.gate.queue s.path.runCount s.pos.discards s.rep.dropped) :
    Bd (takeFix quality lat lon source s).path.queue (takeFix quality lat lon source s).gate.queue (takeFix quality
        lat lon source s).path.runCount (takeFix quality lat lon source s).pos.discards (takeFix quality lat lon
        source s).rep.dropped := by
  unfold takeFix
  apply evaluateZone_bd
  split
  all_goals
    dsimp only
    refine Bd.discards (positionValid_bd ?_) (Nat.zero_le _)
    exact hp

theorem judgeFrame_bd (buf : List Byte) {s : State} (hp : Bd s.path.queue s.gate.queue s.path.runCount
    s.pos.discards s.rep.dropped) :
    Bd (judgeFrame buf s).path.queue (judgeFrame buf s).gate.queue (judgeFrame buf s).path.runCount (judgeFrame buf
        s).pos.discards (judgeFrame buf s).rep.dropped := by
  unfold judgeFrame
  (repeat first | with_reducible exact hp | with_reducible apply discard_bd | with_reducible apply setRx_bd
                | with_reducible apply takeFix_bd | with_reducible refine bd_foldl (fun s a hp => ?_) _ ?_
                | dsimp only | split)

theorem navByte_bd (b : Byte) {s : State} (hp : Bd s.path.queue s.gate.queue s.path.runCount s.pos.discards
    s.rep.dropped) :
    Bd (navByte b s).path.queue (navByte b s).gate.queue (navByte b s).path.runCount (navByte b s).pos.discards
        (navByte b s).rep.dropped := by
  unfold navByte
  (repeat first | with_reducible exact hp | with_reducible apply setRx_bd | with_reducible apply judgeFrame_bd
                | dsimp only | split)

theorem navFramingError_bd  {s : State} (hp : Bd s.path.queue s.gate.queue s.path.runCount s.pos.discards
    s.rep.dropped) :
    Bd (navFramingError s).path.queue (navFramingError s).gate.queue (navFramingError s).path.runCount
        (navFramingError s).pos.discards (navFramingError s).rep.dropped := by
  unfold navFramingError
  (repeat first | with_reducible exact hp | with_reducible apply discard_bd | with_reducible apply setRx_bd
                | dsimp only | split)

theorem fixLossExpiry_bd  {s : State} (hp : Bd s.path.queue s.gate.queue s.path.runCount s.pos.discards
    s.rep.dropped) :
    Bd (fixLossExpiry s).path.queue (fixLossExpiry s).gate.queue (fixLossExpiry s).path.runCount (fixLossExpiry
        s).pos.discards (fixLossExpiry s).rep.dropped := by
  unfold fixLossExpiry
  (repeat first | with_reducible exact hp | with_reducible apply covPositionLost_bd
                | with_reducible apply positionReport_bd | dsimp only | split)

theorem loadZone_bd (i : Nat) (z : Zone) {s : State} (hp : Bd s.path.queue s.gate.queue s.path.runCount
    s.pos.discards s.rep.dropped) :
    Bd (loadZone i z s).path.queue (loadZone i z s).gate.queue (loadZone i z s).path.runCount (loadZone i z
        s).pos.discards (loadZone i z s).rep.dropped := by
  unfold loadZone
  (repeat first | with_reducible exact hp | with_reducible apply publishZone_bd
                | with_reducible apply becomeCurrent_bd | dsimp only | split)

theorem loadTariff_bd (region : Nat) (cls : Nat) (t : Tariff) {s : State} (hp : Bd s.path.queue s.gate.queue
    s.path.runCount s.pos.discards s.rep.dropped) :
    Bd (loadTariff region cls t s).path.queue (loadTariff region cls t s).gate.queue (loadTariff region cls t
        s).path.runCount (loadTariff region cls t s).pos.discards (loadTariff region cls t s).rep.dropped := by
  simpa using hp

theorem setGate_bd (a : Nat) (e : GateEntry) {s : State} (hp : Bd s.path.queue s.gate.queue s.path.runCount
    s.pos.discards s.rep.dropped) :
    Bd (setGate a e s).path.queue (setGate a e s).gate.queue (setGate a e s).path.runCount (setGate a e
        s).pos.discards (setGate a e s).rep.dropped := by
  unfold setGate
  (repeat first | with_reducible exact hp | dsimp only | split)

theorem writeGate_bd (a : Nat) (opened : Bool) {s : State} (hp : Bd s.path.queue s.gate.queue s.path.runCount
    s.pos.discards s.rep.dropped) :
    Bd (writeGate a opened s).path.queue (writeGate a opened s).gate.queue (writeGate a opened s).path.runCount
        (writeGate a opened s).pos.discards (writeGate a opened s).rep.dropped := by
  unfold writeGate
  (repeat first | with_reducible exact hp | with_reducible apply setGate_bd | dsimp only | split)

theorem creditToGate_bd (before : AcctRec) (after : AcctRec) (a : Nat) {s : State} (hp : Bd s.path.queue
    s.gate.queue s.path.runCount s.pos.discards s.rep.dropped) :
    Bd (creditToGate before after a s).path.queue (creditToGate before after a s).gate.queue (creditToGate before
        after a s).path.runCount (creditToGate before after a s).pos.discards (creditToGate before after a
        s).rep.dropped := by
  unfold creditToGate
  (repeat first | with_reducible exact hp | with_reducible apply writeGate_bd | dsimp only | split)

theorem settleRating_bd (r : AcctRec) (e : UsageEvent) (charge : Nat) {s : State} (hp : Bd s.path.queue s.gate.queue
    s.path.runCount s.pos.discards s.rep.dropped) :
    Bd (settleRating r e charge s).path.queue (settleRating r e charge s).gate.queue (settleRating r e charge
        s).path.runCount (settleRating r e charge s).pos.discards (settleRating r e charge s).rep.dropped := by
  simpa using hp

theorem offerCredit_bd (before : AcctRec) (after : AcctRec) (a : Nat) {s : State} (hp : Bd s.path.queue s.gate.queue
    s.path.runCount s.pos.discards s.rep.dropped) :
    Bd (offerCredit before after a s).path.queue (offerCredit before after a s).gate.queue (offerCredit before after
        a s).path.runCount (offerCredit before after a s).pos.discards (offerCredit before after a s).rep.dropped :=
        by
  unfold offerCredit
  (repeat first | with_reducible exact hp | with_reducible apply event_bd | dsimp only | split)

theorem rateGrant_bd (i : Nat) (e : UsageEvent) {s : State} (hp : Bd s.path.queue s.gate.queue s.path.runCount
    s.pos.discards s.rep.dropped) :
    Bd (rateGrant i e s).path.queue (rateGrant i e s).gate.queue (rateGrant i e s).path.runCount (rateGrant i e
        s).pos.discards (rateGrant i e s).rep.dropped := by
  unfold rateGrant
  (repeat first | with_reducible exact hp | with_reducible apply event_bd | with_reducible apply changeLine_bd
                | with_reducible apply creditToGate_bd | with_reducible apply settleRating_bd
                | with_reducible apply offerCredit_bd | dsimp only | split)

theorem tryRate_bd  {s : State} (hp : Bd s.path.queue s.gate.queue s.path.runCount s.pos.discards s.rep.dropped) :
    Bd (tryRate s).path.queue (tryRate s).gate.queue (tryRate s).path.runCount (tryRate s).pos.discards (tryRate
        s).rep.dropped := by
  unfold tryRate
  (repeat first | with_reducible exact hp | with_reducible apply requestLine_bd | dsimp only | split)

theorem setAcct_bd (a : AccountManager) {s : State} (hp : Bd s.path.queue s.gate.queue s.path.runCount
    s.pos.discards s.rep.dropped) :
    Bd (setAcct a s).path.queue (setAcct a s).gate.queue (setAcct a s).path.runCount (setAcct a s).pos.discards
        (setAcct a s).rep.dropped := by
  simpa using hp

theorem judgeFinisher_bd  {s : State} (hp : Bd s.path.queue s.gate.queue s.path.runCount s.pos.discards
    s.rep.dropped) :
    Bd (judgeFinisher s).path.queue (judgeFinisher s).gate.queue (judgeFinisher s).path.runCount (judgeFinisher
        s).pos.discards (judgeFinisher s).rep.dropped := by
  unfold judgeFinisher
  (repeat first | with_reducible exact hp | with_reducible apply requestLine_bd | with_reducible apply setAcct_bd
                | dsimp only | split)

theorem settleRoundUp_bd (r : AcctRec) (charge : Nat) {s : State} (hp : Bd s.path.queue s.gate.queue s.path.runCount
    s.pos.discards s.rep.dropped) :
    Bd (settleRoundUp r charge s).path.queue (settleRoundUp r charge s).gate.queue (settleRoundUp r charge
        s).path.runCount (settleRoundUp r charge s).pos.discards (settleRoundUp r charge s).rep.dropped := by
  simpa using hp

theorem finishRecord_bd (scan : Bool) (a : Nat) (i : Nat) (p : Place) {s : State} (hp : Bd s.path.queue s.gate.queue
    s.path.runCount s.pos.discards s.rep.dropped) :
    Bd (finishRecord scan a i p s).1.path.queue (finishRecord scan a i p s).1.gate.queue (finishRecord scan a i p
        s).1.path.runCount (finishRecord scan a i p s).1.pos.discards (finishRecord scan a i p s).1.rep.dropped :=
        by
  simpa using hp

theorem offerBilling_bd (b : Report → Billing) (r : Report) {s : State} (hp : Bd s.path.queue s.gate.queue
    s.path.runCount s.pos.discards s.rep.dropped) :
    Bd (offerBilling b r s).path.queue (offerBilling b r s).gate.queue (offerBilling b r s).path.runCount
        (offerBilling b r s).pos.discards (offerBilling b r s).rep.dropped := by
  unfold offerBilling
  (repeat first | with_reducible exact hp | with_reducible apply placeReport_bd | dsimp only | split)

theorem finisherWork_bd (i : Nat) {s : State} (hp : Bd s.path.queue s.gate.queue s.path.runCount s.pos.discards
    s.rep.dropped) :
    Bd (finisherWork i s).path.queue (finisherWork i s).gate.queue (finisherWork i s).path.runCount (finisherWork i
        s).pos.discards (finisherWork i s).rep.dropped := by
  unfold finisherWork
  (repeat first | with_reducible exact hp | with_reducible apply setAcct_bd | with_reducible apply finishRecord_bd
                | with_reducible apply offerBilling_bd | dsimp only | split)

theorem refuseOpen_bd (st : Status) (r : AcctRec) {s : State} (hp : Bd s.path.queue s.gate.queue s.path.runCount
    s.pos.discards s.rep.dropped) :
    Bd (refuseOpen st r s).path.queue (refuseOpen st r s).gate.queue (refuseOpen st r s).path.runCount (refuseOpen
        st r s).pos.discards (refuseOpen st r s).rep.dropped := by
  unfold refuseOpen
  (repeat first | with_reducible exact hp | with_reducible apply complete_bd | dsimp only | split)

theorem openWork_bd (p : OpenAccountParams) (i : Nat) {s : State} (hp : Bd s.path.queue s.gate.queue s.path.runCount
    s.pos.discards s.rep.dropped) :
    Bd (openWork p i s).path.queue (openWork p i s).gate.queue (openWork p i s).path.runCount (openWork p i
        s).pos.discards (openWork p i s).rep.dropped := by
  unfold openWork
  (repeat first | with_reducible exact hp | with_reducible apply complete_bd | with_reducible apply changeLine_bd
                | with_reducible apply setGate_bd | with_reducible apply refuseOpen_bd | dsimp only | split)

theorem refuseGrant_bd (st : Status) (r : AcctRec) {s : State} (hp : Bd s.path.queue s.gate.queue s.path.runCount
    s.pos.discards s.rep.dropped) :
    Bd (refuseGrant st r s).path.queue (refuseGrant st r s).gate.queue (refuseGrant st r s).path.runCount
        (refuseGrant st r s).pos.discards (refuseGrant st r s).rep.dropped := by
  unfold refuseGrant
  (repeat first | with_reducible exact hp | with_reducible apply complete_bd | dsimp only | split)

theorem grantWork_bd (p : GrantParams) (i : Nat) {s : State} (hp : Bd s.path.queue s.gate.queue s.path.runCount
    s.pos.discards s.rep.dropped) :
    Bd (grantWork p i s).path.queue (grantWork p i s).gate.queue (grantWork p i s).path.runCount (grantWork p i
        s).pos.discards (grantWork p i s).rep.dropped := by
  unfold grantWork
  (repeat first | with_reducible exact hp | with_reducible apply complete_bd | with_reducible apply changeLine_bd
                | with_reducible apply writeGate_bd | with_reducible apply refuseGrant_bd | dsimp only | split)

theorem suspendWork_bd (a : Nat) (i : Nat) {s : State} (hp : Bd s.path.queue s.gate.queue s.path.runCount
    s.pos.discards s.rep.dropped) :
    Bd (suspendWork a i s).path.queue (suspendWork a i s).gate.queue (suspendWork a i s).path.runCount (suspendWork
        a i s).pos.discards (suspendWork a i s).rep.dropped := by
  unfold suspendWork
  (repeat first | with_reducible exact hp | with_reducible apply complete_bd | with_reducible apply changeLine_bd
                | with_reducible apply writeGate_bd | dsimp only | split)

theorem resumeWork_bd (a : Nat) (i : Nat) {s : State} (hp : Bd s.path.queue s.gate.queue s.path.runCount
    s.pos.discards s.rep.dropped) :
    Bd (resumeWork a i s).path.queue (resumeWork a i s).gate.queue (resumeWork a i s).path.runCount (resumeWork a i
        s).pos.discards (resumeWork a i s).rep.dropped := by
  unfold resumeWork
  (repeat first | with_reducible exact hp | with_reducible apply complete_bd | with_reducible apply changeLine_bd
                | with_reducible apply writeGate_bd | dsimp only | split)

theorem closeWork_bd (a : Nat) (i : Nat) {s : State} (hp : Bd s.path.queue s.gate.queue s.path.runCount
    s.pos.discards s.rep.dropped) :
    Bd (closeWork a i s).path.queue (closeWork a i s).gate.queue (closeWork a i s).path.runCount (closeWork a i
        s).pos.discards (closeWork a i s).rep.dropped := by
  unfold closeWork
  (repeat first | with_reducible exact hp | with_reducible apply complete_bd | with_reducible apply changeLine_bd
                | with_reducible apply writeGate_bd | with_reducible apply setAcct_bd
                | with_reducible apply judgeFinisher_bd | dsimp only | split)

theorem commandWork_bd (i : Nat) {s : State} (hp : Bd s.path.queue s.gate.queue s.path.runCount s.pos.discards
    s.rep.dropped) :
    Bd (commandWork i s).path.queue (commandWork i s).gate.queue (commandWork i s).path.runCount (commandWork i
        s).pos.discards (commandWork i s).rep.dropped := by
  unfold commandWork
  (repeat first | with_reducible exact hp | with_reducible apply setAcct_bd | with_reducible apply openWork_bd
                | with_reducible apply grantWork_bd | with_reducible apply suspendWork_bd
                | with_reducible apply resumeWork_bd | with_reducible apply closeWork_bd | dsimp only | split)

theorem requestCommandLine_bd (a : Nat) {s : State} (hp : Bd s.path.queue s.gate.queue s.path.runCount
    s.pos.discards s.rep.dropped) :
    Bd (requestCommandLine a s).path.queue (requestCommandLine a s).gate.queue (requestCommandLine a
        s).path.runCount (requestCommandLine a s).pos.discards (requestCommandLine a s).rep.dropped := by
  unfold requestCommandLine
  (repeat first | with_reducible exact hp | with_reducible apply touchLine_bd | with_reducible apply requestLine_bd
                | with_reducible apply setAcct_bd | with_reducible apply commandWork_bd | dsimp only | split)

theorem closeTakesPlace_bd (a : Nat) {s : State} (hp : Bd s.path.queue s.gate.queue s.path.runCount s.pos.discards
    s.rep.dropped) :
    Bd (closeTakesPlace a s).path.queue (closeTakesPlace a s).gate.queue (closeTakesPlace a s).path.runCount
        (closeTakesPlace a s).pos.discards (closeTakesPlace a s).rep.dropped := by
  unfold closeTakesPlace
  (repeat first | with_reducible exact hp | with_reducible apply setAcct_bd
                | with_reducible apply requestCommandLine_bd | dsimp only | split)

theorem finishDone_bd  {s : State} (hp : Bd s.path.queue s.gate.queue s.path.runCount s.pos.discards s.rep.dropped) :
    Bd (finishDone s).path.queue (finishDone s).gate.queue (finishDone s).path.runCount (finishDone s).pos.discards
        (finishDone s).rep.dropped := by
  unfold finishDone
  (repeat first | with_reducible exact hp | with_reducible apply setAcct_bd | with_reducible apply judgeFinisher_bd
                | with_reducible apply closeTakesPlace_bd | dsimp only | split)

theorem scanNext_bd  {s : State} (hp : Bd s.path.queue s.gate.queue s.path.runCount s.pos.discards s.rep.dropped) :
    Bd (scanNext s).path.queue (scanNext s).gate.queue (scanNext s).path.runCount (scanNext s).pos.discards
        (scanNext s).rep.dropped := by
  unfold scanNext
  (repeat first | with_reducible exact hp | with_reducible apply complete_bd | with_reducible apply openingTest_bd
                | with_reducible apply tryTake_bd | with_reducible apply requestLine_bd
                | with_reducible apply tryRate_bd | with_reducible apply setAcct_bd | dsimp only | split)

theorem scanWork_bd (i : Nat) {s : State} (hp : Bd s.path.queue s.gate.queue s.path.runCount s.pos.discards
    s.rep.dropped) :
    Bd (scanWork i s).path.queue (scanWork i s).gate.queue (scanWork i s).path.runCount (scanWork i s).pos.discards
        (scanWork i s).rep.dropped := by
  unfold scanWork
  (repeat first | with_reducible exact hp | with_reducible apply event_bd | with_reducible apply changeLine_bd
                | with_reducible apply setGate_bd | with_reducible apply setAcct_bd
                | with_reducible apply finishRecord_bd | with_reducible apply offerBilling_bd | dsimp only | split)

theorem scanPlaced_bd  {s : State} (hp : Bd s.path.queue s.gate.queue s.path.runCount s.pos.discards s.rep.dropped) :
    Bd (scanPlaced s).path.queue (scanPlaced s).gate.queue (scanPlaced s).path.runCount (scanPlaced s).pos.discards
        (scanPlaced s).rep.dropped := by
  unfold scanPlaced
  (repeat first | with_reducible exact hp | with_reducible apply setAcct_bd | with_reducible apply scanNext_bd
                | dsimp only | split)

theorem cutWaiting_bd  {s : State} (hp : Bd s.path.queue s.gate.queue s.path.runCount s.pos.discards s.rep.dropped) :
    Bd (cutWaiting s).path.queue (cutWaiting s).gate.queue (cutWaiting s).path.runCount (cutWaiting s).pos.discards
        (cutWaiting s).rep.dropped := by
  unfold cutWaiting
  (repeat first | with_reducible exact hp | with_reducible apply cutPair_bd | with_reducible apply goOnWalk_bd
                | dsimp only | split)

theorem placeWaiter_bd (b : Billing) {s : State} (hp : Bd s.path.queue s.gate.queue s.path.runCount s.pos.discards
    s.rep.dropped) :
    Bd (placeWaiter b s).path.queue (placeWaiter b s).gate.queue (placeWaiter b s).path.runCount (placeWaiter b
        s).pos.discards (placeWaiter b s).rep.dropped := by
  unfold placeWaiter
  (repeat first | with_reducible exact hp | with_reducible apply placeReport_bd | with_reducible apply finishDone_bd
                | with_reducible apply scanPlaced_bd | with_reducible apply cutWaiting_bd | dsimp only | split)

theorem placeWaitersLoop_bd (n : Nat) {s : State} (hp : Bd s.path.queue s.gate.queue s.path.runCount s.pos.discards
    s.rep.dropped) :
    Bd (placeWaitersLoop n s).path.queue (placeWaitersLoop n s).gate.queue (placeWaitersLoop n s).path.runCount
        (placeWaitersLoop n s).pos.discards (placeWaitersLoop n s).rep.dropped := by
  induction n generalizing s with
  | zero => simpa [placeWaitersLoop] using hp
  | succ n ih =>
    unfold placeWaitersLoop
    (repeat first | with_reducible exact hp | with_reducible apply ih | with_reducible apply placeWaiter_bd
                  | dsimp only | split)

theorem endRating_bd {s : State} (hp : Bd s.path.queue s.gate.queue s.path.runCount s.pos.discards s.rep.dropped) :
    Bd (endRating s).path.queue (endRating s).gate.queue (endRating s).path.runCount (endRating s).pos.discards
        (endRating s).rep.dropped := by
  unfold endRating
  apply tryRate_bd
  apply judgeFinisher_bd
  refine hp.events ?_
  have := hp.2.1
  simp
  omega

theorem grantWorkOf_bd (r : Requester) (i : Nat) {s : State} (hp : Bd s.path.queue s.gate.queue s.path.runCount
    s.pos.discards s.rep.dropped) :
    Bd (grantWorkOf r i s).path.queue (grantWorkOf r i s).gate.queue (grantWorkOf r i s).path.runCount (grantWorkOf
        r i s).pos.discards (grantWorkOf r i s).rep.dropped := by
  unfold grantWorkOf
  (repeat first | with_reducible exact hp | with_reducible apply readGrant_bd | with_reducible apply rateGrant_bd
                | with_reducible apply finisherWork_bd | with_reducible apply commandWork_bd
                | with_reducible apply scanWork_bd | dsimp only | split)

theorem afterGrant_bd (r : Requester) {s : State} (hp : Bd s.path.queue s.gate.queue s.path.runCount s.pos.discards
    s.rep.dropped) :
    Bd (afterGrant r s).path.queue (afterGrant r s).gate.queue (afterGrant r s).path.runCount (afterGrant r
        s).pos.discards (afterGrant r s).rep.dropped := by
  unfold afterGrant
  (repeat first | with_reducible exact hp | with_reducible apply finishDone_bd | with_reducible apply scanNext_bd
                | with_reducible apply endRating_bd | dsimp only | split)

theorem serve_bd (n : Nat) (m : Nat) {s : State} (hp : Bd s.path.queue s.gate.queue s.path.runCount s.pos.discards
    s.rep.dropped) :
Bd (serve n m s).path.queue (serve n m s).gate.queue (serve n m s).path.runCount (serve n m s).pos.discards (serve n m
        s).rep.dropped := by
  induction n generalizing m s with
  | zero => simpa [serve] using hp
  | succ n ih =>
    unfold serve
    (repeat first | with_reducible exact hp | with_reducible apply ih | with_reducible apply setLine_bd
                  | with_reducible apply touchLine_bd | with_reducible apply grantWorkOf_bd
                  | with_reducible apply afterGrant_bd | with_reducible refine bd_foldl (fun s a hp => ?_) _ ?_
                  | dsimp only | split)

theorem grantLine_bd (i : Nat) {s : State} (hp : Bd s.path.queue s.gate.queue s.path.runCount s.pos.discards
    s.rep.dropped) :
    Bd (grantLine i s).path.queue (grantLine i s).gate.queue (grantLine i s).path.runCount (grantLine i
        s).pos.discards (grantLine i s).rep.dropped := by
  unfold grantLine
  (repeat first | with_reducible exact hp | with_reducible apply serveMisses_bd | with_reducible apply serve_bd
                | dsimp only | split)

theorem grantCalled_bd (old : State) {s : State} (hp : Bd s.path.queue s.gate.queue s.path.runCount s.pos.discards
    s.rep.dropped) :
Bd (grantCalled old s).path.queue (grantCalled old s).gate.queue (grantCalled old s).path.runCount (grantCalled old
        s).pos.discards (grantCalled old s).rep.dropped := by
  unfold grantCalled
  (repeat first | with_reducible exact hp | with_reducible apply grantLine_bd
                | with_reducible refine bd_foldl (fun s a hp => ?_) _ ?_ | dsimp only | split)

theorem placeWaiters_bd {s : State} (hp : Bd s.path.queue s.gate.queue s.path.runCount s.pos.discards s.rep.dropped) :
Bd (placeWaiters s).path.queue (placeWaiters s).gate.queue (placeWaiters s).path.runCount (placeWaiters
        s).pos.discards (placeWaiters s).rep.dropped := by
  unfold placeWaiters
  (repeat first | with_reducible exact hp | with_reducible apply grantCalled_bd
                | with_reducible apply placeWaitersLoop_bd | dsimp only | split)

theorem closeWaitExpiry_bd (n : Nat) {s : State} (hp : Bd s.path.queue s.gate.queue s.path.runCount s.pos.discards
    s.rep.dropped) :
    Bd (closeWaitExpiry n s).path.queue (closeWaitExpiry n s).gate.queue (closeWaitExpiry n s).path.runCount
        (closeWaitExpiry n s).pos.discards (closeWaitExpiry n s).rep.dropped := by
  unfold closeWaitExpiry
  (repeat first | with_reducible exact hp | with_reducible apply setEntry_bd | with_reducible apply setAcct_bd
                | with_reducible apply judgeFinisher_bd | with_reducible refine bd_foldl (fun s a hp => ?_) _ ?_
                | dsimp only | split)

theorem settleEvent_bd (old : State) {s : State} (hp : Bd s.path.queue s.gate.queue s.path.runCount s.pos.discards
    s.rep.dropped) :
    Bd (settleEvent old s).path.queue (settleEvent old s).gate.queue (settleEvent old s).path.runCount (settleEvent
        old s).pos.discards (settleEvent old s).rep.dropped := by
  unfold settleEvent
  (repeat first | with_reducible exact hp | with_reducible apply tryTake_bd | with_reducible apply dispatchPass_bd
                | with_reducible apply judgeFinisher_bd | dsimp only | split)

/-- An event enters the usage queue only where it has room (R108). -/
theorem enqueue_bd (e : UsageEvent) {s : State} (hp : Bd s.path.queue s.gate.queue s.path.runCount s.pos.discards
    s.rep.dropped)
    (hq : s.gate.queue.length < 128) :
    Bd (enqueue e s).path.queue (enqueue e s).gate.queue (enqueue e s).path.runCount (enqueue e s).pos.discards
        (enqueue e s).rep.dropped := by
  unfold enqueue
  apply tryRate_bd
  refine hp.events ?_
  simp
  omega

theorem badAccount_bd (region : Nat) (initiator : Nat) (slot : Nat) (a : Nat) {s : State} (hp : Bd s.path.queue
    s.gate.queue s.path.runCount s.pos.discards s.rep.dropped) :
    Bd (badAccount region initiator slot a s).path.queue (badAccount region initiator slot a s).gate.queue
        (badAccount region initiator slot a s).path.runCount (badAccount region initiator slot a s).pos.discards
        (badAccount region initiator slot a s).rep.dropped := by
  unfold badAccount
  (repeat first | with_reducible exact hp | with_reducible apply event_bd | dsimp only | split)

theorem judgeDownlink_bd (initiator slot : Nat) (d : List Byte) {s : State}
    (hp : Bd s.path.queue s.gate.queue s.path.runCount s.pos.discards s.rep.dropped) :
    Bd (judgeDownlink initiator slot d s).1.path.queue (judgeDownlink initiator slot d s).1.gate.queue
        (judgeDownlink initiator slot d s).1.path.runCount (judgeDownlink initiator slot d s).1.pos.discards
        (judgeDownlink initiator slot d s).1.rep.dropped := by
  unfold judgeDownlink
  dsimp only
  repeat' split
  all_goals first
    | exact hp
    | exact badAccount_bd _ _ _ _ hp
    | exact enqueue_bd _ hp (by simp_all [queueFull])

theorem entrySent_bd (e : Nat) (k : Nat) {s : State} (hp : Bd s.path.queue s.gate.queue s.path.runCount
    s.pos.discards s.rep.dropped) :
    Bd (entrySent e k s).path.queue (entrySent e k s).gate.queue (entrySent e k s).path.runCount (entrySent e k
        s).pos.discards (entrySent e k s).rep.dropped := by
  unfold entrySent
  (repeat first | with_reducible exact hp | with_reducible apply endEntry_bd | with_reducible apply uncount_bd
                | with_reducible apply linkCompleted_bd | dsimp only | split)

theorem completionFault_bd (kind : Nat) (flags : Nat) (k : Nat) (slot : Nat) (d : List Byte) {s : State} (hp : Bd
    s.path.queue s.gate.queue s.path.runCount s.pos.discards s.rep.dropped) :
    Bd (completionFault kind flags k slot d s).path.queue (completionFault kind flags k slot d s).gate.queue
        (completionFault kind flags k slot d s).path.runCount (completionFault kind flags k slot d s).pos.discards
        (completionFault kind flags k slot d s).rep.dropped := by
  unfold completionFault
  (repeat first | with_reducible exact hp | with_reducible apply event_bd | dsimp only | split)

theorem completeOk_bd (e k : Nat) {s : State} (hp : Bd s.path.queue s.gate.queue s.path.runCount s.pos.discards
    s.rep.dropped) :
    Bd (completeOk e k s).1.path.queue (completeOk e k s).1.gate.queue (completeOk e k s).1.path.runCount
        (completeOk e k s).1.pos.discards (completeOk e k s).1.rep.dropped := by
  unfold completeOk
  dsimp only
  split
  · split
    · exact setEntry_bd _ _ hp
    · exact entrySent_bd _ _ (enqueue_bd _ hp (by simp_all [queueFull]))
  · exact entrySent_bd _ _ hp

theorem completeFail_bd (e : Nat) (k : Nat) {s : State} (hp : Bd s.path.queue s.gate.queue s.path.runCount
    s.pos.discards s.rep.dropped) :
    Bd (completeFail e k s).path.queue (completeFail e k s).gate.queue (completeFail e k s).path.runCount
        (completeFail e k s).pos.discards (completeFail e k s).rep.dropped := by
  unfold completeFail
  (repeat first | with_reducible exact hp | with_reducible apply endEntry_bd | with_reducible apply uncount_bd
                | with_reducible apply failEntry_bd | with_reducible apply linkCompleted_bd | dsimp only | split)

theorem judgeCompletion_bd (k : Nat) (slot : Nat) (d : List Byte) {s : State} (hp : Bd s.path.queue s.gate.queue
    s.path.runCount s.pos.discards s.rep.dropped) :
    Bd (judgeCompletion k slot d s).1.path.queue (judgeCompletion k slot d s).1.gate.queue (judgeCompletion k slot d
        s).1.path.runCount (judgeCompletion k slot d s).1.pos.discards (judgeCompletion k slot d s).1.rep.dropped :=
        by
  unfold judgeCompletion
  (repeat first | with_reducible exact hp | with_reducible apply completionFault_bd
                | with_reducible apply completeOk_bd | with_reducible apply completeFail_bd | dsimp only | split)

theorem joinWait_bd (e : Nat) (en : Entry) {s : State} (hp : Bd s.path.queue s.gate.queue s.path.runCount
    s.pos.discards s.rep.dropped) :
    Bd (joinWait e en s).path.queue (joinWait e en s).gate.queue (joinWait e en s).path.runCount (joinWait e en
        s).pos.discards (joinWait e en s).rep.dropped := by
  simpa using hp

theorem judgeTake_bd (t : Take) (d : List Byte) {s : State} (hp : Bd s.path.queue s.gate.queue s.path.runCount
    s.pos.discards s.rep.dropped) :
    Bd (judgeTake t d s).path.queue (judgeTake t d s).gate.queue (judgeTake t d s).path.runCount (judgeTake t d
        s).pos.discards (judgeTake t d s).rep.dropped := by
  unfold judgeTake
  (repeat first | with_reducible exact hp | with_reducible apply setEntry_bd | with_reducible apply endEntry_bd
                | with_reducible apply badAccount_bd | with_reducible apply joinWait_bd | dsimp only | split)

theorem badIndex_bd (index : Nat) (v : Nat) (size : Nat) {s : State} (hp : Bd s.path.queue s.gate.queue
    s.path.runCount s.pos.discards s.rep.dropped) :
    Bd (badIndex index v size s).path.queue (badIndex index v size s).gate.queue (badIndex index v size
        s).path.runCount (badIndex index v size s).pos.discards (badIndex index v size s).rep.dropped := by
  unfold badIndex
  (repeat first | with_reducible exact hp | with_reducible apply event_bd | dsimp only | split)

theorem latchCommand_bd (l : Latch) {s : State} (hp : Bd s.path.queue s.gate.queue s.path.runCount s.pos.discards
    s.rep.dropped) :
    Bd (latchCommand l s).path.queue (latchCommand l s).gate.queue (latchCommand l s).path.runCount (latchCommand l
        s).pos.discards (latchCommand l s).rep.dropped := by
  unfold latchCommand
  (repeat first | with_reducible exact hp | with_reducible apply applyLatch_bd | dsimp only | split)

theorem commandProducer_bd (v : Nat) {s : State} (hp : Bd s.path.queue s.gate.queue s.path.runCount s.pos.discards
    s.rep.dropped) :
    Bd (commandProducer v s).path.queue (commandProducer v s).gate.queue (commandProducer v s).path.runCount
        (commandProducer v s).pos.discards (commandProducer v s).rep.dropped := by
  unfold commandProducer
  (repeat first | with_reducible exact hp | with_reducible apply tryFetch_bd | with_reducible apply badIndex_bd
                | dsimp only | split)

theorem restartReports_bd  {s : State} (hp : Bd s.path.queue s.gate.queue s.path.runCount s.pos.discards
    s.rep.dropped) :
    Bd (restartReports s).path.queue (restartReports s).gate.queue (restartReports s).path.runCount (restartReports
        s).pos.discards (restartReports s).rep.dropped := by
  unfold restartReports
  (repeat first | with_reducible exact hp | with_reducible apply issueRead_bd | with_reducible apply runReports_bd
                | dsimp only | split)

theorem latchReportBase_bd (v : Nat) {s : State} (hp : Bd s.path.queue s.gate.queue s.path.runCount s.pos.discards
    s.rep.dropped) :
    Bd (latchReportBase v s).path.queue (latchReportBase v s).gate.queue (latchReportBase v s).path.runCount
        (latchReportBase v s).pos.discards (latchReportBase v s).rep.dropped := by
  unfold latchReportBase
  (repeat first | with_reducible exact hp | with_reducible apply restartReports_bd | dsimp only | split)

theorem latchReportSize_bd (v : Nat) {s : State} (hp : Bd s.path.queue s.gate.queue s.path.runCount s.pos.discards
    s.rep.dropped) :
    Bd (latchReportSize v s).path.queue (latchReportSize v s).gate.queue (latchReportSize v s).path.runCount
        (latchReportSize v s).pos.discards (latchReportSize v s).rep.dropped := by
  unfold latchReportSize
  (repeat first | with_reducible exact hp | with_reducible apply restartReports_bd | dsimp only | split)

theorem reportConsumer_bd (v : Nat) {s : State} (hp : Bd s.path.queue s.gate.queue s.path.runCount s.pos.discards
    s.rep.dropped) :
    Bd (reportConsumer v s).path.queue (reportConsumer v s).gate.queue (reportConsumer v s).path.runCount
        (reportConsumer v s).pos.discards (reportConsumer v s).rep.dropped := by
  unfold reportConsumer
  (repeat first | with_reducible exact hp | with_reducible apply placeWaiters_bd | with_reducible apply badIndex_bd
                | dsimp only | split)

theorem handField_bd (f : ControlField) (v : Nat) {s : State} (hp : Bd s.path.queue s.gate.queue s.path.runCount
    s.pos.discards s.rep.dropped) :
    Bd (handField f v s).path.queue (handField f v s).gate.queue (handField f v s).path.runCount (handField f v
        s).pos.discards (handField f v s).rep.dropped := by
  unfold handField
  (repeat first | with_reducible exact hp | with_reducible apply latchCommand_bd
                | with_reducible apply commandProducer_bd | with_reducible apply latchReportBase_bd
                | with_reducible apply latchReportSize_bd | with_reducible apply reportConsumer_bd | dsimp only
                | split)

theorem pathFault_bd (t : Txn) (g : RegionKind) (kind : Nat) (dropped : Nat) {s : State} (hp : Bd s.path.queue
    s.gate.queue s.path.runCount s.pos.discards s.rep.dropped) :
    Bd (pathFault t g kind dropped s).path.queue (pathFault t g kind dropped s).gate.queue (pathFault t g kind
        dropped s).path.runCount (pathFault t g kind dropped s).pos.discards (pathFault t g kind dropped
        s).rep.dropped := by
  unfold pathFault
  (repeat first | with_reducible exact hp | with_reducible apply event_bd | dsimp only | split)

theorem flushOwed_bd  {s : State} (hp : Bd s.path.queue s.gate.queue s.path.runCount s.pos.discards s.rep.dropped) :
    Bd (flushOwed s).path.queue (flushOwed s).gate.queue (flushOwed s).path.runCount (flushOwed s).pos.discards
        (flushOwed s).rep.dropped := by
  unfold flushOwed
  (repeat first | with_reducible exact hp | dsimp only | split)

theorem answerHead_bd (h : Head) (data : List Byte) {s : State} (hp : Bd s.path.queue s.gate.queue s.path.runCount
    s.pos.discards s.rep.dropped) :
    Bd (answerHead h data s).path.queue (answerHead h data s).gate.queue (answerHead h data s).path.runCount
        (answerHead h data s).pos.discards (answerHead h data s).rep.dropped := by
  unfold answerHead
  (repeat first | with_reducible exact hp | with_reducible apply flushOwed_bd | dsimp only | split)

theorem moveHead_bd  {s : State} (hp : Bd s.path.queue s.gate.queue s.path.runCount s.pos.discards s.rep.dropped) :
    Bd (moveHead s).path.queue (moveHead s).gate.queue (moveHead s).path.runCount (moveHead s).pos.discards
        (moveHead s).rep.dropped := by
  unfold moveHead
  (repeat first | with_reducible exact hp | with_reducible apply answerHead_bd | dsimp only | split)

theorem setHead_bd (h : Head) {s : State} (hp : Bd s.path.queue s.gate.queue s.path.runCount s.pos.discards
    s.rep.dropped) :
    Bd (setHead h s).path.queue (setHead h s).gate.queue (setHead h s).path.runCount (setHead h s).pos.discards
        (setHead h s).rep.dropped := by
  unfold setHead
  (repeat first | with_reducible exact hp | dsimp only | split)

theorem takeRead_bd (t : Txn) {s : State} (hp : Bd s.path.queue s.gate.queue s.path.runCount s.pos.discards
    s.rep.dropped) :
    Bd (takeRead t s).path.queue (takeRead t s).gate.queue (takeRead t s).path.runCount (takeRead t s).pos.discards
        (takeRead t s).rep.dropped := by
  unfold takeRead
  (repeat first | with_reducible exact hp | with_reducible apply presentRead_bd | with_reducible apply setHead_bd
                | with_reducible refine bd_foldl (fun s a hp => ?_) _ ?_ | dsimp only | split)

theorem applyVerdict_bd (p : Producer) (r : State × Verdict)  (hp : Bd r.1.path.queue r.1.gate.queue
    r.1.path.runCount r.1.pos.discards r.1.rep.dropped) :
    Bd (applyVerdict p r).path.queue (applyVerdict p r).gate.queue (applyVerdict p r).path.runCount (applyVerdict p
        r).pos.discards (applyVerdict p r).rep.dropped := by
  unfold applyVerdict
  (repeat first | with_reducible exact hp | with_reducible apply setHead_bd | dsimp only | split)

theorem handOff_bd (t : Txn) (o : Outcome) {s : State} (hp : Bd s.path.queue s.gate.queue s.path.runCount
    s.pos.discards s.rep.dropped) :
    Bd (handOff t o s).path.queue (handOff t o s).gate.queue (handOff t o s).path.runCount (handOff t o
        s).pos.discards (handOff t o s).rep.dropped := by
  unfold handOff
  (repeat first | with_reducible exact hp | with_reducible apply tryTake_bd | with_reducible apply judgeDownlink_bd
                | with_reducible apply judgeCompletion_bd | with_reducible apply handField_bd
                | with_reducible apply applyVerdict_bd | with_reducible refine bd_foldl (fun s a hp => ?_) _ ?_
                | dsimp only | split)

theorem takeWrite_bd (t : Txn) {s : State} (hp : Bd s.path.queue s.gate.queue s.path.runCount s.pos.discards
    s.rep.dropped) :
    Bd (takeWrite t s).path.queue (takeWrite t s).gate.queue (takeWrite t s).path.runCount (takeWrite t
        s).pos.discards (takeWrite t s).rep.dropped := by
  unfold takeWrite
  (repeat first | with_reducible exact hp | with_reducible apply pathFault_bd | with_reducible apply setHead_bd
                | with_reducible apply handOff_bd | with_reducible refine bd_foldl (fun s a hp => ?_) _ ?_
                | dsimp only | split)

theorem takeTxn_bd (t : Txn) {s : State} (hp : Bd s.path.queue s.gate.queue s.path.runCount s.pos.discards
    s.rep.dropped) :
    Bd (takeTxn t s).path.queue (takeTxn t s).gate.queue (takeTxn t s).path.runCount (takeTxn t s).pos.discards
        (takeTxn t s).rep.dropped := by
  unfold takeTxn
  (repeat first | with_reducible exact hp | with_reducible apply takeRead_bd | with_reducible apply takeWrite_bd
                | dsimp only | split)

theorem dealWith_bd (t : Txn) {s : State} (hp : Bd s.path.queue s.gate.queue s.path.runCount s.pos.discards
    s.rep.dropped) :
Bd (dealWith t s).path.queue (dealWith t s).gate.queue (dealWith t s).path.runCount (dealWith t s).pos.discards
        (dealWith t s).rep.dropped := by
  unfold dealWith
  (repeat first | with_reducible exact hp | with_reducible apply settleEvent_bd | with_reducible apply moveHead_bd
                | with_reducible apply takeTxn_bd | dsimp only | split)

theorem pumpLoop_bd (n : Nat) {s : State} (hp : Bd s.path.queue s.gate.queue s.path.runCount s.pos.discards
    s.rep.dropped) :
Bd (pumpLoop n s).path.queue (pumpLoop n s).gate.queue (pumpLoop n s).path.runCount (pumpLoop n s).pos.discards
        (pumpLoop n s).rep.dropped := by
  induction n generalizing s with
  | zero => simpa [pumpLoop] using hp
  | succ n ih =>
    unfold pumpLoop
    (repeat first | with_reducible exact hp | with_reducible apply ih | with_reducible apply dealWith_bd | dsimp only
                  | split)

theorem pumpUpstream_bd  {s : State} (hp : Bd s.path.queue s.gate.queue s.path.runCount s.pos.discards
    s.rep.dropped) :
    Bd (pumpUpstream s).path.queue (pumpUpstream s).gate.queue (pumpUpstream s).path.runCount (pumpUpstream
        s).pos.discards (pumpUpstream s).rep.dropped := by
  unfold pumpUpstream
  (repeat first | with_reducible exact hp | with_reducible apply pumpLoop_bd | dsimp only | split)

theorem portEvent_bd (old : State) {s : State} (hp : Bd s.path.queue s.gate.queue s.path.runCount s.pos.discards
    s.rep.dropped) :
Bd (portEvent old s).path.queue (portEvent old s).gate.queue (portEvent old s).path.runCount (portEvent old
        s).pos.discards (portEvent old s).rep.dropped := by
  unfold portEvent
  (repeat first | with_reducible exact hp | with_reducible apply pumpUpstream_bd
                | with_reducible apply settleEvent_bd | with_reducible apply moveHead_bd | dsimp only | split)

theorem arrive_bd (t : Txn) {s : State} (hp : Bd s.path.queue s.gate.queue s.path.runCount s.pos.discards
    s.rep.dropped) :
    Bd (arrive t s).path.queue (arrive t s).gate.queue (arrive t s).path.runCount (arrive t s).pos.discards (arrive
        t s).rep.dropped := by
  unfold arrive
  (repeat first | with_reducible exact hp | with_reducible apply settleEvent_bd
                | with_reducible apply pumpUpstream_bd | dsimp only | split)

theorem releaseVerdict_bd (v : Verdict) {s : State} (hp : Bd s.path.queue s.gate.queue s.path.runCount
    s.pos.discards s.rep.dropped) :
    Bd (releaseVerdict v s).path.queue (releaseVerdict v s).gate.queue (releaseVerdict v s).path.runCount
        (releaseVerdict v s).pos.discards (releaseVerdict v s).rep.dropped := by
  unfold releaseVerdict
  (repeat first | with_reducible exact hp | with_reducible apply setHead_bd | dsimp only | split)

theorem noWaiting_bd  {s : State} (hp : Bd s.path.queue s.gate.queue s.path.runCount s.pos.discards s.rep.dropped) :
    Bd (noWaiting s).path.queue (noWaiting s).gate.queue (noWaiting s).path.runCount (noWaiting s).pos.discards
        (noWaiting s).rep.dropped := by
  unfold noWaiting
  (repeat first | with_reducible exact hp | dsimp only | split)

theorem dealWaiting_bd (w : WaitingEvent) {s : State} (hp : Bd s.path.queue s.gate.queue s.path.runCount
    s.pos.discards s.rep.dropped)
    (hq : s.gate.queue.length < 128) :
    Bd (dealWaiting w s).path.queue (dealWaiting w s).gate.queue (dealWaiting w s).path.runCount (dealWaiting w
        s).pos.discards (dealWaiting w s).rep.dropped := by
  unfold dealWaiting
  have hn := noWaiting_bd hp
  dsimp only
  split
  · exact releaseVerdict_bd _ (entrySent_bd _ _ (enqueue_bd _ hn hq))
  · split
    · exact releaseVerdict_bd _ (enqueue_bd _ hn hq)
    · exact tryRate_bd (releaseVerdict_bd _ hn)

theorem releaseWaiting_bd {s : State} (hp : Bd s.path.queue s.gate.queue s.path.runCount s.pos.discards
    s.rep.dropped) :
    Bd (releaseWaiting s).path.queue (releaseWaiting s).gate.queue (releaseWaiting s).path.runCount (releaseWaiting
        s).pos.discards (releaseWaiting s).rep.dropped := by
  unfold releaseWaiting
  repeat' split
  all_goals first
    | exact hp
    | exact portEvent_bd _ (dealWaiting_bd _ hp (by simp_all [waitingDue, queueFull]))

theorem noteIssue_bd (t : OwnTxn) {s : State} (hp : Bd s.path.queue s.gate.queue s.path.runCount s.pos.discards
    s.rep.dropped) :
    Bd (noteIssue t s).path.queue (noteIssue t s).gate.queue (noteIssue t s).path.runCount (noteIssue t
        s).pos.discards (noteIssue t s).rep.dropped := by
  unfold noteIssue
  (repeat first | with_reducible exact hp | dsimp only | split)

theorem removeOffer_queue (t : OwnTxn) (again : Bool) (p : PathMonitor) :
    (removeOffer t again p).queue.length ≤ p.queue.length := by
  unfold removeOffer
  repeat' split
  all_goals simp

theorem issueOwn_bd (t : OwnTxn) (again : Bool) {s : State} (hp : Bd s.path.queue s.gate.queue s.path.runCount
    s.pos.discards s.rep.dropped) :
    Bd (issueOwn t again s).path.queue (issueOwn t again s).gate.queue (issueOwn t again s).path.runCount (issueOwn
        t again s).pos.discards (issueOwn t again s).rep.dropped := by
  unfold issueOwn
  apply noteIssue_bd
  exact (hp.writes ((removeOffer_queue t again s.path).trans hp.1)).runs (Nat.zero_le _)

theorem issuePassing_bd (p : Passing) (count : Nat) {s : State}
    (hp : Bd s.path.queue s.gate.queue s.path.runCount s.pos.discards s.rep.dropped)
    (hc : count ≤ 8) :
    Bd (issuePassing p count s).path.queue (issuePassing p count s).gate.queue (issuePassing p count
        s).path.runCount (issuePassing p count s).pos.discards (issuePassing p count s).rep.dropped := hp.runs hc

theorem arbiterIssue_bd {s : State} (hp : Bd s.path.queue s.gate.queue s.path.runCount s.pos.discards s.rep.dropped) :
    Bd (arbiterIssue s).path.queue (arbiterIssue s).gate.queue (arbiterIssue s).path.runCount (arbiterIssue
        s).pos.discards (arbiterIssue s).rep.dropped := by
  unfold arbiterIssue
  repeat' split
  all_goals first
    | exact hp
    | exact issueOwn_bd _ _ hp
    | exact issuePassing_bd _ _ hp (by omega)

theorem writeEntered_bd (w : OwnWrite) {s : State} (hp : Bd s.path.queue s.gate.queue s.path.runCount s.pos.discards
    s.rep.dropped) :
Bd (writeEntered w s).path.queue (writeEntered w s).gate.queue (writeEntered w s).path.runCount (writeEntered w
        s).pos.discards (writeEntered w s).rep.dropped := by
  unfold writeEntered
  (repeat first | with_reducible exact hp | with_reducible apply runReports_bd | with_reducible apply finishJob_bd
                | with_reducible apply writeConsumer_bd | with_reducible apply writeStatus_bd
                | with_reducible apply freeEntry_bd | with_reducible apply dispatchPass_bd
                | with_reducible apply markPosted_bd | dsimp only | split)

theorem ownWriteEnters_bd {s : State} (hp : Bd s.path.queue s.gate.queue s.path.runCount s.pos.discards
    s.rep.dropped) :
    Bd (ownWriteEnters s).path.queue (ownWriteEnters s).gate.queue (ownWriteEnters s).path.runCount (ownWriteEnters
        s).pos.discards (ownWriteEnters s).rep.dropped := by
  unfold ownWriteEnters
  repeat' split
  all_goals first
    | exact hp
    | (refine settleEvent_bd _ (writeEntered_bd _ (hp.writes ?_))
       simp_all [entryDue])

theorem answered_bd  {s : State} (hp : Bd s.path.queue s.gate.queue s.path.runCount s.pos.discards s.rep.dropped) :
    Bd (answered s).path.queue (answered s).gate.queue (answered s).path.runCount (answered s).pos.discards
        (answered s).rep.dropped := by
  unfold answered
  (repeat first | with_reducible exact hp | dsimp only | split)

theorem passResponse_bd (p : Passing) (ok : Bool) (data : List Byte) {s : State} (hp : Bd s.path.queue s.gate.queue
    s.path.runCount s.pos.discards s.rep.dropped) :
    Bd (passResponse p ok data s).path.queue (passResponse p ok data s).gate.queue (passResponse p ok data
        s).path.runCount (passResponse p ok data s).pos.discards (passResponse p ok data s).rep.dropped := by
  unfold passResponse
  (repeat first | with_reducible exact hp | with_reducible apply flushOwed_bd | with_reducible apply answered_bd
                | dsimp only | split)

theorem takeReadDone_bd (data : List Byte) {s : State} (hp : Bd s.path.queue s.gate.queue s.path.runCount
    s.pos.discards s.rep.dropped) :
    Bd (takeReadDone data s).path.queue (takeReadDone data s).gate.queue (takeReadDone data s).path.runCount
        (takeReadDone data s).pos.discards (takeReadDone data s).rep.dropped := by
  unfold takeReadDone
  (repeat first | with_reducible exact hp | with_reducible apply settleEvent_bd | with_reducible apply judgeTake_bd
                | with_reducible apply answered_bd | dsimp only | split)

theorem fillLine_bd (i : Nat) (data : List Byte) {s : State} (hp : Bd s.path.queue s.gate.queue s.path.runCount
    s.pos.discards s.rep.dropped) :
    Bd (fillLine i data s).path.queue (fillLine i data s).gate.queue (fillLine i data s).path.runCount (fillLine i
        data s).pos.discards (fillLine i data s).rep.dropped := by
  unfold fillLine
  (repeat first | with_reducible exact hp | with_reducible apply setLine_bd | with_reducible apply grantLine_bd
                | dsimp only | split)

theorem fillDone_bd (data : List Byte) {s : State} (hp : Bd s.path.queue s.gate.queue s.path.runCount s.pos.discards
    s.rep.dropped) :
Bd (fillDone data s).path.queue (fillDone data s).gate.queue (fillDone data s).path.runCount (fillDone data
        s).pos.discards (fillDone data s).rep.dropped := by
  unfold fillDone
  (repeat first | with_reducible exact hp | with_reducible apply portEvent_bd | with_reducible apply answered_bd
                | with_reducible apply fillLine_bd | dsimp only | split)

theorem lineGrant_bd (i : Nat) {s : State} (hp : Bd s.path.queue s.gate.queue s.path.runCount s.pos.discards
    s.rep.dropped) :
Bd (lineGrant i s).path.queue (lineGrant i s).gate.queue (lineGrant i s).path.runCount (lineGrant i s).pos.discards
        (lineGrant i s).rep.dropped := by
  unfold lineGrant
  (repeat first | with_reducible exact hp | with_reducible apply portEvent_bd | with_reducible apply grantLine_bd
                | dsimp only | split)

theorem serveFlush_bd  {s : State} (hp : Bd s.path.queue s.gate.queue s.path.runCount s.pos.discards s.rep.dropped) :
    Bd (serveFlush s).path.queue (serveFlush s).gate.queue (serveFlush s).path.runCount (serveFlush s).pos.discards
        (serveFlush s).rep.dropped := by
  unfold serveFlush
  (repeat first | with_reducible exact hp | with_reducible apply complete_bd | dsimp only | split)

theorem countAtStop_bd (i : Nat) {s : State} (hp : Bd s.path.queue s.gate.queue s.path.runCount s.pos.discards
    s.rep.dropped) :
Bd (countAtStop i s).path.queue (countAtStop i s).gate.queue (countAtStop i s).path.runCount (countAtStop i
        s).pos.discards (countAtStop i s).rep.dropped := by
  unfold countAtStop
  (repeat first | with_reducible exact hp | with_reducible apply beginWriteBack_bd | dsimp only | split)

theorem writeBackDone_bd {s : State} (hp : Bd s.path.queue s.gate.queue s.path.runCount s.pos.discards s.rep.dropped)
    :
Bd (writeBackDone s).path.queue (writeBackDone s).gate.queue (writeBackDone s).path.runCount (writeBackDone
        s).pos.discards (writeBackDone s).rep.dropped := by
  unfold writeBackDone
  (repeat first | with_reducible exact hp | with_reducible apply setLine_bd | with_reducible apply serveMisses_bd
                | with_reducible apply settleEvent_bd | with_reducible apply answered_bd
                | with_reducible apply serveFlush_bd | with_reducible apply countAtStop_bd
                | with_reducible apply endEviction_bd | dsimp only | split)

theorem consumerReadDone_bd (data : List Byte) {s : State} (hp : Bd s.path.queue s.gate.queue s.path.runCount
    s.pos.discards s.rep.dropped) :
    Bd (consumerReadDone data s).path.queue (consumerReadDone data s).gate.queue (consumerReadDone data
        s).path.runCount (consumerReadDone data s).pos.discards (consumerReadDone data s).rep.dropped := by
  unfold consumerReadDone
  (repeat first | with_reducible exact hp | with_reducible apply settleEvent_bd
                | with_reducible apply reportConsumer_bd | with_reducible apply answered_bd | dsimp only | split)

theorem haltCapture_bd  {s : State} (hp : Bd s.path.queue s.gate.queue s.path.runCount s.pos.discards s.rep.dropped) :
    Bd (haltCapture s).path.queue (haltCapture s).gate.queue (haltCapture s).path.runCount (haltCapture
        s).pos.discards (haltCapture s).rep.dropped := by
  unfold haltCapture
  (repeat first | with_reducible exact hp | with_reducible apply releaseVerdict_bd | dsimp only | split)

theorem haltRating_bd  {s : State} (hp : Bd s.path.queue s.gate.queue s.path.runCount s.pos.discards s.rep.dropped) :
    Bd (haltRating s).path.queue (haltRating s).gate.queue (haltRating s).path.runCount (haltRating s).pos.discards
        (haltRating s).rep.dropped := by
  simpa using hp

theorem haltScan_bd  {s : State} (hp : Bd s.path.queue s.gate.queue s.path.runCount s.pos.discards s.rep.dropped) :
    Bd (haltScan s).path.queue (haltScan s).gate.queue (haltScan s).path.runCount (haltScan s).pos.discards
        (haltScan s).rep.dropped := by
  unfold haltScan
  (repeat first | with_reducible exact hp | with_reducible apply complete_bd | with_reducible apply withdraw_bd
                | with_reducible apply setAcct_bd | dsimp only | split)

theorem haltCommand_bd  {s : State} (hp : Bd s.path.queue s.gate.queue s.path.runCount s.pos.discards s.rep.dropped) :
    Bd (haltCommand s).path.queue (haltCommand s).gate.queue (haltCommand s).path.runCount (haltCommand
        s).pos.discards (haltCommand s).rep.dropped := by
  unfold haltCommand
  (repeat first | with_reducible exact hp | with_reducible apply refuse_bd | with_reducible apply withdraw_bd
                | with_reducible apply setAcct_bd | dsimp only | split)

theorem haltWalk_bd  {s : State} (hp : Bd s.path.queue s.gate.queue s.path.runCount s.pos.discards s.rep.dropped) :
    Bd (haltWalk s).path.queue (haltWalk s).gate.queue (haltWalk s).path.runCount (haltWalk s).pos.discards
        (haltWalk s).rep.dropped := by
  unfold haltWalk
  (repeat first | with_reducible exact hp | with_reducible apply complete_bd | dsimp only | split)

theorem haltFlush_bd  {s : State} (hp : Bd s.path.queue s.gate.queue s.path.runCount s.pos.discards s.rep.dropped) :
    Bd (haltFlush s).path.queue (haltFlush s).gate.queue (haltFlush s).path.runCount (haltFlush s).pos.discards
        (haltFlush s).rep.dropped := by
  unfold haltFlush
  (repeat first | with_reducible exact hp | with_reducible apply complete_bd | with_reducible apply mapLines_bd
                | dsimp only | split)

theorem haltReport_bd  {s : State} (hp : Bd s.path.queue s.gate.queue s.path.runCount s.pos.discards s.rep.dropped) :
    Bd (haltReport s).path.queue (haltReport s).gate.queue (haltReport s).path.runCount (haltReport s).pos.discards
        (haltReport s).rep.dropped := by
  unfold haltReport
  (repeat first | with_reducible exact hp | with_reducible apply event_bd | dsimp only | split)

theorem enterHalted_bd  {s : State} (hp : Bd s.path.queue s.gate.queue s.path.runCount s.pos.discards s.rep.dropped) :
    Bd (enterHalted s).path.queue (enterHalted s).gate.queue (enterHalted s).path.runCount (enterHalted
        s).pos.discards (enterHalted s).rep.dropped := by
  unfold enterHalted
  (repeat first | with_reducible exact hp | with_reducible apply covLeaveRunning_bd
                | with_reducible apply withdraw_bd | with_reducible apply haltCapture_bd
                | with_reducible apply haltRating_bd | with_reducible apply haltScan_bd
                | with_reducible apply haltCommand_bd | with_reducible apply haltWalk_bd
                | with_reducible apply haltFlush_bd | with_reducible apply haltReport_bd | dsimp only | split)

theorem memoryError_bd (t : OwnTxn) {s : State} (hp : Bd s.path.queue s.gate.queue s.path.runCount s.pos.discards
    s.rep.dropped) :
    Bd (memoryError t s).path.queue (memoryError t s).gate.queue (memoryError t s).path.runCount (memoryError t
        s).pos.discards (memoryError t s).rep.dropped := by
  unfold memoryError
  (repeat first | with_reducible exact hp | with_reducible apply event_bd | dsimp only | split)

theorem fillFailed_bd (i : Nat) {s : State} (hp : Bd s.path.queue s.gate.queue s.path.runCount s.pos.discards
    s.rep.dropped) :
    Bd (fillFailed i s).path.queue (fillFailed i s).gate.queue (fillFailed i s).path.runCount (fillFailed i
        s).pos.discards (fillFailed i s).rep.dropped := by
  unfold fillFailed
  (repeat first | with_reducible exact hp | with_reducible apply setLine_bd | with_reducible apply answerRead_bd
                | dsimp only | split)

theorem writeBackFailed_bd (i : Nat) {s : State} (hp : Bd s.path.queue s.gate.queue s.path.runCount s.pos.discards
    s.rep.dropped) :
    Bd (writeBackFailed i s).path.queue (writeBackFailed i s).gate.queue (writeBackFailed i s).path.runCount
        (writeBackFailed i s).pos.discards (writeBackFailed i s).rep.dropped := by
  simpa using hp

theorem tellFailed_bd (t : OwnTxn) {s : State} (hp : Bd s.path.queue s.gate.queue s.path.runCount s.pos.discards
    s.rep.dropped) :
    Bd (tellFailed t s).path.queue (tellFailed t s).gate.queue (tellFailed t s).path.runCount (tellFailed t
        s).pos.discards (tellFailed t s).rep.dropped := by
  unfold tellFailed
  (repeat first | with_reducible exact hp | with_reducible apply applyLatches_bd
                | with_reducible apply fillFailed_bd | with_reducible apply writeBackFailed_bd | dsimp only | split)

theorem abandon_bd (t : OwnTxn) {s : State} (hp : Bd s.path.queue s.gate.queue s.path.runCount s.pos.discards
    s.rep.dropped) :
    Bd (abandon t s).path.queue (abandon t s).gate.queue (abandon t s).path.runCount (abandon t s).pos.discards
        (abandon t s).rep.dropped := by
  unfold abandon
  (repeat first | with_reducible exact hp | with_reducible apply enterHalted_bd
                | with_reducible apply memoryError_bd | with_reducible apply tellFailed_bd | dsimp only | split)

theorem ownError_bd (ahead : Nat) {s : State} (hp : Bd s.path.queue s.gate.queue s.path.runCount s.pos.discards
    s.rep.dropped) :
    Bd (ownError ahead s).path.queue (ownError ahead s).gate.queue (ownError ahead s).path.runCount (ownError ahead
        s).pos.discards (ownError ahead s).rep.dropped := by
  unfold ownError
  (repeat first | with_reducible exact hp | with_reducible apply abandon_bd | dsimp only | split)

theorem abortLists_bd  {s : State} (hp : Bd s.path.queue s.gate.queue s.path.runCount s.pos.discards s.rep.dropped) :
    Bd (abortLists s).path.queue (abortLists s).gate.queue (abortLists s).path.runCount (abortLists s).pos.discards
        (abortLists s).rep.dropped := by
  unfold abortLists
  (repeat first | with_reducible exact hp | with_reducible apply endEntry_bd
                | with_reducible refine bd_foldl (fun s a hp => ?_) _ ?_ | dsimp only | split)

theorem stopDone_bd  {s : State} (hp : Bd s.path.queue s.gate.queue s.path.runCount s.pos.discards s.rep.dropped) :
    Bd (stopDone s).path.queue (stopDone s).gate.queue (stopDone s).path.runCount (stopDone s).pos.discards
        (stopDone s).rep.dropped := by
  unfold stopDone
  (repeat first | with_reducible exact hp | with_reducible apply complete_bd | dsimp only | split)

theorem beginStep_bd (n : Nat) {s : State} (hp : Bd s.path.queue s.gate.queue s.path.runCount s.pos.discards
    s.rep.dropped) :
    Bd (beginStep n s).path.queue (beginStep n s).gate.queue (beginStep n s).path.runCount (beginStep n
        s).pos.discards (beginStep n s).rep.dropped := by
  unfold beginStep
  (repeat first | with_reducible exact hp | with_reducible apply beginWalk_bd
                | with_reducible apply invalidateAll_bd | with_reducible apply disableAll_bd
                | with_reducible apply judgeFinisher_bd | with_reducible apply abortLists_bd
                | with_reducible apply writeBackAll_bd | with_reducible apply stopDone_bd | dsimp only | split)

theorem advanceStop_bd (n : Nat) {s : State} (hp : Bd s.path.queue s.gate.queue s.path.runCount s.pos.discards
    s.rep.dropped) :
    Bd (advanceStop n s).path.queue (advanceStop n s).gate.queue (advanceStop n s).path.runCount (advanceStop n
        s).pos.discards (advanceStop n s).rep.dropped := by
  induction n generalizing s with
  | zero => simpa [advanceStop] using hp
  | succ n ih =>
    unfold advanceStop
    (repeat first | with_reducible exact hp | with_reducible apply ih | with_reducible apply beginStep_bd
                  | dsimp only | split)

theorem stopAdvance_bd  {s : State} (hp : Bd s.path.queue s.gate.queue s.path.runCount s.pos.discards s.rep.dropped) :
    Bd (stopAdvance s).path.queue (stopAdvance s).gate.queue (stopAdvance s).path.runCount (stopAdvance
        s).pos.discards (stopAdvance s).rep.dropped := by
  unfold stopAdvance
  (repeat first | with_reducible exact hp | with_reducible apply advanceStop_bd | dsimp only | split)

theorem stopRunning_bd {s : State} (hp : Bd s.path.queue s.gate.queue s.path.runCount s.pos.discards s.rep.dropped) :
Bd (stopRunning s).path.queue (stopRunning s).gate.queue (stopRunning s).path.runCount (stopRunning s).pos.discards
        (stopRunning s).rep.dropped := by
  unfold stopRunning
  (repeat first | with_reducible exact hp | with_reducible apply covLeaveRunning_bd
                | with_reducible apply stopAdvance_bd | with_reducible apply dropPosts_bd | dsimp only | split)

theorem abortPosted_bd  {s : State} (hp : Bd s.path.queue s.gate.queue s.path.runCount s.pos.discards s.rep.dropped) :
    Bd (abortPosted s).path.queue (abortPosted s).gate.queue (abortPosted s).path.runCount (abortPosted
        s).pos.discards (abortPosted s).rep.dropped := by
  unfold abortPosted
  (repeat first | with_reducible exact hp | with_reducible apply setEntry_bd | with_reducible apply endEntry_bd
                | with_reducible refine bd_foldl (fun s a hp => ?_) _ ?_ | dsimp only | split)

theorem postedWaitExpiry_bd  {s : State} (hp : Bd s.path.queue s.gate.queue s.path.runCount s.pos.discards
    s.rep.dropped) :
    Bd (postedWaitExpiry s).path.queue (postedWaitExpiry s).gate.queue (postedWaitExpiry s).path.runCount
        (postedWaitExpiry s).pos.discards (postedWaitExpiry s).rep.dropped := by
  unfold postedWaitExpiry
  (repeat first | with_reducible exact hp | with_reducible apply disableLinks_bd
                | with_reducible apply stopAdvance_bd | with_reducible apply abortPosted_bd | dsimp only | split)

theorem clearRelay_bd  {s : State} (hp : Bd s.path.queue s.gate.queue s.path.runCount s.pos.discards s.rep.dropped) :
    Bd (clearRelay s).path.queue (clearRelay s).gate.queue (clearRelay s).path.runCount (clearRelay s).pos.discards
        (clearRelay s).rep.dropped := by
  simpa using hp

theorem clearFinisher_bd  {s : State} (hp : Bd s.path.queue s.gate.queue s.path.runCount s.pos.discards
    s.rep.dropped) :
    Bd (clearFinisher s).path.queue (clearFinisher s).gate.queue (clearFinisher s).path.runCount (clearFinisher
        s).pos.discards (clearFinisher s).rep.dropped := by
  unfold clearFinisher
  (repeat first | with_reducible exact hp | with_reducible apply setAcct_bd | dsimp only | split)

theorem clearLinks_bd  {s : State} (hp : Bd s.path.queue s.gate.queue s.path.runCount s.pos.discards s.rep.dropped) :
    Bd (clearLinks s).path.queue (clearLinks s).gate.queue (clearLinks s).path.runCount (clearLinks s).pos.discards
        (clearLinks s).rep.dropped := by
  unfold clearLinks
  (repeat first | with_reducible exact hp | with_reducible apply covBackhaul_bd | with_reducible apply tellMode_bd
                | with_reducible apply disableLink_bd | with_reducible refine bd_foldl (fun s a hp => ?_) _ ?_
                | dsimp only | split)

theorem clearHalted_bd {s : State} (hp : Bd s.path.queue s.gate.queue s.path.runCount s.pos.discards s.rep.dropped) :
    Bd (clearHalted s).path.queue (clearHalted s).gate.queue (clearHalted s).path.runCount (clearHalted
        s).pos.discards (clearHalted s).rep.dropped := by
  unfold clearHalted
  split
  · dsimp only
    apply complete_bd
    dsimp only
    apply clearLinks_bd
    apply clearFinisher_bd
    apply clearRelay_bd
    exact (invalidateAll_bd (s := { s with path := { s.path with runCount := 0 } })
      (hp.runs (Nat.zero_le _))).events (Nat.zero_le _)
  · exact hp

theorem adoptConfig_bd (p : ConfigureParams) {s : State} (hp : Bd s.path.queue s.gate.queue s.path.runCount
    s.pos.discards s.rep.dropped) :
    Bd (adoptConfig p s).path.queue (adoptConfig p s).gate.queue (adoptConfig p s).path.runCount (adoptConfig p
        s).pos.discards (adoptConfig p s).rep.dropped := by
  unfold adoptConfig
  (repeat first | with_reducible exact hp | dsimp only | split)

theorem adoptionExpiries_bd  {s : State} (hp : Bd s.path.queue s.gate.queue s.path.runCount s.pos.discards
    s.rep.dropped) :
    Bd (adoptionExpiries s).path.queue (adoptionExpiries s).gate.queue (adoptionExpiries s).path.runCount
        (adoptionExpiries s).pos.discards (adoptionExpiries s).rep.dropped := by
  unfold adoptionExpiries
  (repeat first | with_reducible exact hp | with_reducible apply lostGraceExpiry_bd
                | with_reducible apply backhaulLossExpiry_bd | with_reducible apply warmUpExpiry_bd
                | with_reducible apply drainExpiry_bd | with_reducible apply darkMinimumExpiry_bd
                | with_reducible apply deferredSwapExpiry_bd | with_reducible apply fixLossExpiry_bd | dsimp only
                | split)

theorem doConfigure_bd (p : ConfigureParams) {s : State} (hp : Bd s.path.queue s.gate.queue s.path.runCount
    s.pos.discards s.rep.dropped) :
    Bd (doConfigure p s).path.queue (doConfigure p s).gate.queue (doConfigure p s).path.runCount (doConfigure p
        s).pos.discards (doConfigure p s).rep.dropped := by
  unfold doConfigure
  (repeat first | with_reducible exact hp | with_reducible apply complete_bd | with_reducible apply refuse_bd
                | with_reducible apply adoptConfig_bd | with_reducible apply adoptionExpiries_bd | dsimp only
                | split)

theorem beginStart_bd  {s : State} (hp : Bd s.path.queue s.gate.queue s.path.runCount s.pos.discards s.rep.dropped) :
    Bd (beginStart s).path.queue (beginStart s).gate.queue (beginStart s).path.runCount (beginStart s).pos.discards
        (beginStart s).rep.dropped := by
  unfold beginStart
  (repeat first | with_reducible exact hp | with_reducible apply requestLine_bd | dsimp only | split)

theorem doStart_bd  {s : State} (hp : Bd s.path.queue s.gate.queue s.path.runCount s.pos.discards s.rep.dropped) :
    Bd (doStart s).path.queue (doStart s).gate.queue (doStart s).path.runCount (doStart s).pos.discards (doStart
        s).rep.dropped := by
  unfold doStart
  (repeat first | with_reducible exact hp | with_reducible apply refuse_bd | with_reducible apply beginStart_bd
                | dsimp only | split)

theorem doStop_bd  {s : State} (hp : Bd s.path.queue s.gate.queue s.path.runCount s.pos.discards s.rep.dropped) :
    Bd (doStop s).path.queue (doStop s).gate.queue (doStop s).path.runCount (doStop s).pos.discards (doStop
        s).rep.dropped := by
  unfold doStop
  (repeat first | with_reducible exact hp | with_reducible apply refuse_bd | with_reducible apply stopRunning_bd
                | dsimp only | split)

theorem doLoadZone_bd (p : LoadZoneParams) {s : State} (hp : Bd s.path.queue s.gate.queue s.path.runCount
    s.pos.discards s.rep.dropped) :
    Bd (doLoadZone p s).path.queue (doLoadZone p s).gate.queue (doLoadZone p s).path.runCount (doLoadZone p
        s).pos.discards (doLoadZone p s).rep.dropped := by
  unfold doLoadZone
  (repeat first | with_reducible exact hp | with_reducible apply complete_bd | with_reducible apply refuse_bd
                | with_reducible apply loadZone_bd | dsimp only | split)

theorem doPosition_bd (p : PositionParams) {s : State} (hp : Bd s.path.queue s.gate.queue s.path.runCount
    s.pos.discards s.rep.dropped) :
    Bd (doPosition p s).path.queue (doPosition p s).gate.queue (doPosition p s).path.runCount (doPosition p
        s).pos.discards (doPosition p s).rep.dropped := by
  unfold doPosition
  (repeat first | with_reducible exact hp | with_reducible apply complete_bd | with_reducible apply refuse_bd
                | with_reducible apply discard_bd | with_reducible apply takeFix_bd | dsimp only | split)

theorem doCoverageHold_bd  {s : State} (hp : Bd s.path.queue s.gate.queue s.path.runCount s.pos.discards
    s.rep.dropped) :
    Bd (doCoverageHold s).path.queue (doCoverageHold s).gate.queue (doCoverageHold s).path.runCount (doCoverageHold
        s).pos.discards (doCoverageHold s).rep.dropped := by
  unfold doCoverageHold
  (repeat first | with_reducible exact hp | with_reducible apply complete_bd | with_reducible apply refuse_bd
                | with_reducible apply covHold_bd | dsimp only | split)

theorem doCoverageRelease_bd  {s : State} (hp : Bd s.path.queue s.gate.queue s.path.runCount s.pos.discards
    s.rep.dropped) :
    Bd (doCoverageRelease s).path.queue (doCoverageRelease s).gate.queue (doCoverageRelease s).path.runCount
        (doCoverageRelease s).pos.discards (doCoverageRelease s).rep.dropped := by
  unfold doCoverageRelease
  (repeat first | with_reducible exact hp | with_reducible apply complete_bd | with_reducible apply refuse_bd
                | with_reducible apply covRelease_bd | dsimp only | split)

theorem loadLink_bd (k : Nat) (r : LinkRec) {s : State} (hp : Bd s.path.queue s.gate.queue s.path.runCount
    s.pos.discards s.rep.dropped) :
    Bd (loadLink k r s).path.queue (loadLink k r s).gate.queue (loadLink k r s).path.runCount (loadLink k r
        s).pos.discards (loadLink k r s).rep.dropped := by
  unfold loadLink
  (repeat first | with_reducible exact hp | with_reducible apply setLink_bd | with_reducible apply moveHealth_bd
                | dsimp only | split)

theorem doLoadLink_bd (p : LoadLinkParams) {s : State} (hp : Bd s.path.queue s.gate.queue s.path.runCount
    s.pos.discards s.rep.dropped) :
    Bd (doLoadLink p s).path.queue (doLoadLink p s).gate.queue (doLoadLink p s).path.runCount (doLoadLink p
        s).pos.discards (doLoadLink p s).rep.dropped := by
  unfold doLoadLink
  (repeat first | with_reducible exact hp | with_reducible apply complete_bd | with_reducible apply refuse_bd
                | with_reducible apply loadLink_bd | dsimp only | split)

theorem doLinkEnable_bd (k : Nat) {s : State} (hp : Bd s.path.queue s.gate.queue s.path.runCount s.pos.discards
    s.rep.dropped) :
    Bd (doLinkEnable k s).path.queue (doLinkEnable k s).gate.queue (doLinkEnable k s).path.runCount (doLinkEnable k
        s).pos.discards (doLinkEnable k s).rep.dropped := by
  unfold doLinkEnable
  (repeat first | with_reducible exact hp | with_reducible apply complete_bd | with_reducible apply refuse_bd
                | with_reducible apply enableLink_bd | dsimp only | split)

theorem doLinkReset_bd (k : Nat) {s : State} (hp : Bd s.path.queue s.gate.queue s.path.runCount s.pos.discards
    s.rep.dropped) :
    Bd (doLinkReset k s).path.queue (doLinkReset k s).gate.queue (doLinkReset k s).path.runCount (doLinkReset k
        s).pos.discards (doLinkReset k s).rep.dropped := by
  unfold doLinkReset
  (repeat first | with_reducible exact hp | with_reducible apply complete_bd | with_reducible apply refuse_bd
                | with_reducible apply resetLink_bd | dsimp only | split)

theorem doLinkQuality_bd (k : Nat) (score : Nat) {s : State} (hp : Bd s.path.queue s.gate.queue s.path.runCount
    s.pos.discards s.rep.dropped) :
    Bd (doLinkQuality k score s).path.queue (doLinkQuality k score s).gate.queue (doLinkQuality k score
        s).path.runCount (doLinkQuality k score s).pos.discards (doLinkQuality k score s).rep.dropped := by
  unfold doLinkQuality
  (repeat first | with_reducible exact hp | with_reducible apply complete_bd | with_reducible apply refuse_bd
                | with_reducible apply setLink_bd | with_reducible apply evaluateLink_bd | dsimp only | split)

theorem doLinkForce_bd (v : Nat) {s : State} (hp : Bd s.path.queue s.gate.queue s.path.runCount s.pos.discards
    s.rep.dropped) :
    Bd (doLinkForce v s).path.queue (doLinkForce v s).gate.queue (doLinkForce v s).path.runCount (doLinkForce v
        s).pos.discards (doLinkForce v s).rep.dropped := by
  unfold doLinkForce
  (repeat first | with_reducible exact hp | with_reducible apply complete_bd | with_reducible apply refuse_bd
                | with_reducible apply selectorEval_bd | dsimp only | split)

theorem doSetSchedule_bd (p : SetScheduleParams) {s : State} (hp : Bd s.path.queue s.gate.queue s.path.runCount
    s.pos.discards s.rep.dropped) :
    Bd (doSetSchedule p s).path.queue (doSetSchedule p s).gate.queue (doSetSchedule p s).path.runCount
        (doSetSchedule p s).pos.discards (doSetSchedule p s).rep.dropped := by
  unfold doSetSchedule
  (repeat first | with_reducible exact hp | with_reducible apply complete_bd | with_reducible apply refuse_bd
                | with_reducible apply installSchedule_bd | with_reducible apply dispatchPass_bd | dsimp only
                | split)

theorem doLoadTariff_bd (p : LoadTariffParams) {s : State} (hp : Bd s.path.queue s.gate.queue s.path.runCount
    s.pos.discards s.rep.dropped) :
    Bd (doLoadTariff p s).path.queue (doLoadTariff p s).gate.queue (doLoadTariff p s).path.runCount (doLoadTariff p
        s).pos.discards (doLoadTariff p s).rep.dropped := by
  unfold doLoadTariff
  (repeat first | with_reducible exact hp | with_reducible apply complete_bd | with_reducible apply refuse_bd
                | with_reducible apply loadTariff_bd | dsimp only | split)

theorem doLoadPartner_bd (p : LoadPartnerParams) {s : State} (hp : Bd s.path.queue s.gate.queue s.path.runCount
    s.pos.discards s.rep.dropped) :
    Bd (doLoadPartner p s).path.queue (doLoadPartner p s).gate.queue (doLoadPartner p s).path.runCount
        (doLoadPartner p s).pos.discards (doLoadPartner p s).rep.dropped := by
  unfold doLoadPartner
  (repeat first | with_reducible exact hp | with_reducible apply complete_bd | with_reducible apply refuse_bd
                | with_reducible apply recomputeFlag_bd | dsimp only | split)

theorem doSettle_bd  {s : State} (hp : Bd s.path.queue s.gate.queue s.path.runCount s.pos.discards s.rep.dropped) :
    Bd (doSettle s).path.queue (doSettle s).gate.queue (doSettle s).path.runCount (doSettle s).pos.discards
        (doSettle s).rep.dropped := by
  unfold doSettle
  (repeat first | with_reducible exact hp | with_reducible apply refuse_bd | with_reducible apply beginWalk_bd
                | dsimp only | split)

theorem accountCommand_bd (a : Nat) {go : State → State}
    (hg : ∀ s, Bd s.path.queue s.gate.queue s.path.runCount s.pos.discards s.rep.dropped →
      Bd (go s).path.queue (go s).gate.queue (go s).path.runCount (go s).pos.discards (go s).rep.dropped) {s : State}
    (hp : Bd s.path.queue s.gate.queue s.path.runCount s.pos.discards s.rep.dropped) :
    Bd (accountCommand a go s).path.queue (accountCommand a go s).gate.queue (accountCommand a go s).path.runCount
        (accountCommand a go s).pos.discards (accountCommand a go s).rep.dropped := by
  unfold accountCommand
  repeat' split
  all_goals first
    | exact refuse_bd _ hp
    | exact hg _ hp

theorem doOpenAccount_bd (p : OpenAccountParams) {s : State} (hp : Bd s.path.queue s.gate.queue s.path.runCount
    s.pos.discards s.rep.dropped) :
    Bd (doOpenAccount p s).path.queue (doOpenAccount p s).gate.queue (doOpenAccount p s).path.runCount
        (doOpenAccount p s).pos.discards (doOpenAccount p s).rep.dropped := by
  refine accountCommand_bd _ (fun s hp => ?_) hp
  split
  · exact refuse_bd _ hp
  · exact requestCommandLine_bd _ hp

theorem doGrant_bd (p : GrantParams) {s : State} (hp : Bd s.path.queue s.gate.queue s.path.runCount s.pos.discards
    s.rep.dropped) :
    Bd (doGrant p s).path.queue (doGrant p s).gate.queue (doGrant p s).path.runCount (doGrant p s).pos.discards
        (doGrant p s).rep.dropped :=
  accountCommand_bd _ (fun _ hp => requestCommandLine_bd _ hp) hp

theorem doSuspend_bd (a : Nat) {s : State} (hp : Bd s.path.queue s.gate.queue s.path.runCount s.pos.discards
    s.rep.dropped) :
    Bd (doSuspend a s).path.queue (doSuspend a s).gate.queue (doSuspend a s).path.runCount (doSuspend a
        s).pos.discards (doSuspend a s).rep.dropped :=
  accountCommand_bd _ (fun _ hp => requestCommandLine_bd _ hp) hp

theorem doResume_bd (a : Nat) {s : State} (hp : Bd s.path.queue s.gate.queue s.path.runCount s.pos.discards
    s.rep.dropped) :
    Bd (doResume a s).path.queue (doResume a s).gate.queue (doResume a s).path.runCount (doResume a s).pos.discards
        (doResume a s).rep.dropped :=
  accountCommand_bd _ (fun _ hp => requestCommandLine_bd _ hp) hp

theorem doCloseAccount_bd (a : Nat) {s : State} (hp : Bd s.path.queue s.gate.queue s.path.runCount s.pos.discards
    s.rep.dropped) :
    Bd (doCloseAccount a s).path.queue (doCloseAccount a s).gate.queue (doCloseAccount a s).path.runCount
        (doCloseAccount a s).pos.discards (doCloseAccount a s).rep.dropped :=
  accountCommand_bd _ (fun _ hp => grantCalled_bd _ (closeTakesPlace_bd _ hp)) hp

theorem markWriting_bd  {s : State} (hp : Bd s.path.queue s.gate.queue s.path.runCount s.pos.discards s.rep.dropped) :
    Bd (markWriting s).path.queue (markWriting s).gate.queue (markWriting s).path.runCount (markWriting
        s).pos.discards (markWriting s).rep.dropped := by
  simpa using hp

theorem doFlush_bd  {s : State} (hp : Bd s.path.queue s.gate.queue s.path.runCount s.pos.discards s.rep.dropped) :
    Bd (doFlush s).path.queue (doFlush s).gate.queue (doFlush s).path.runCount (doFlush s).pos.discards (doFlush
        s).rep.dropped := by
  unfold doFlush
  (repeat first | with_reducible exact hp | with_reducible apply complete_bd | with_reducible apply refuse_bd
                | with_reducible apply writeBackAll_bd | with_reducible apply serveFlush_bd
                | with_reducible apply markWriting_bd | dsimp only | split)

theorem handCommand_bd (r : Request) {s : State} (hp : Bd s.path.queue s.gate.queue s.path.runCount s.pos.discards
    s.rep.dropped) :
    Bd (handCommand r s).path.queue (handCommand r s).gate.queue (handCommand r s).path.runCount (handCommand r
        s).pos.discards (handCommand r s).rep.dropped := by
  unfold handCommand
  (repeat first | with_reducible exact hp | with_reducible apply doConfigure_bd | with_reducible apply doStart_bd
                | with_reducible apply doStop_bd | with_reducible apply doLoadZone_bd
                | with_reducible apply doPosition_bd | with_reducible apply doCoverageHold_bd
                | with_reducible apply doCoverageRelease_bd | with_reducible apply doLoadLink_bd
                | with_reducible apply doLinkEnable_bd | with_reducible apply doLinkReset_bd
                | with_reducible apply doLinkQuality_bd | with_reducible apply doLinkForce_bd
                | with_reducible apply doSetSchedule_bd | with_reducible apply doLoadTariff_bd
                | with_reducible apply doLoadPartner_bd | with_reducible apply doSettle_bd
                | with_reducible apply doOpenAccount_bd | with_reducible apply doGrant_bd
                | with_reducible apply doSuspend_bd | with_reducible apply doResume_bd
                | with_reducible apply doCloseAccount_bd | with_reducible apply doFlush_bd | dsimp only | split)

theorem beginJob_bd {r : Option Request} {code : Nat} {notify : Bool} {s s' : State}
    (hp : Bd s.path.queue s.gate.queue s.path.runCount s.pos.discards s.rep.dropped)
    (h : beginJob r code notify s = some s') :
    Bd s'.path.queue s'.gate.queue s'.path.runCount s'.pos.discards s'.rep.dropped := by
  unfold beginJob at h
  split at h
  · split at h
    · cases h
    · cases h
      exact hp
  · cases h

theorem commandFetched_bd (r : Option Request) (code : Nat) (notify : Bool) {s : State}
    (hp : Bd s.path.queue s.gate.queue s.path.runCount s.pos.discards s.rep.dropped) :
    Bd (commandFetched r code notify s).path.queue (commandFetched r code notify s).gate.queue (commandFetched r
        code notify s).path.runCount (commandFetched r code notify s).pos.discards (commandFetched r code notify
        s).rep.dropped := by
  unfold commandFetched
  split
  · split
    · exact answered_bd hp
    · exact hp
  · have h := beginJob_bd hp ‹_›
    apply settleEvent_bd
    split
    · exact handCommand_bd _ h
    · exact refuse_bd _ h

theorem recordFetched_bd (record : List Byte) {s : State} (hp : Bd s.path.queue s.gate.queue s.path.runCount
    s.pos.discards s.rep.dropped) :
    Bd (recordFetched record s).path.queue (recordFetched record s).gate.queue (recordFetched record
        s).path.runCount (recordFetched record s).pos.discards (recordFetched record s).rep.dropped := by
  unfold recordFetched
  (repeat first | with_reducible exact hp | with_reducible apply commandFetched_bd | dsimp only | split)

end Sys2Proof.Machine
end

