-- ==== Sys2Proof/Laws/Placing.lean ====
section
/-! SUPPORT. No operation but the arbiter and the entry of a waiting write takes an own write from where it was placed: each
operation below only adds own writes, at the tail of the queue or of those that wait (R47). -/

namespace Sys2Proof.Machine

/-- The own writes of `q` are those of `p` with more behind them, in the queue and among those that wait. -/
def grows (p q : PathMonitor) : Prop :=
  (∃ a, q.queue = p.queue ++ a) ∧ ∃ b, q.waiting = p.waiting ++ b

@[simp] theorem grows.refl (p : PathMonitor) : grows p p := ⟨⟨[], by simp⟩, [], by simp⟩

theorem grows.trans {p q r : PathMonitor} (h : grows p q) (h' : grows q r) : grows p r := by
  obtain ⟨⟨a, ha⟩, b, hb⟩ := h
  obtain ⟨⟨c, hc⟩, d, hd⟩ := h'
  exact ⟨⟨a ++ c, by simp [hc, ha]⟩, b ++ d, by simp [hd, hb]⟩

/-- Only the queue and the waiting writes matter. -/
theorem grows.mk {p q : PathMonitor} (h : grows p q) {bs up hd st rd ri fl rc sq ow uo} :
    grows p { baseSel := bs, upstream := up, head := hd, stream := st, queue := q.queue, waiting := q.waiting,
              reads := rd, reissue := ri, inFlight := fl, runCount := rc, seq := sq, owed := ow, upOut := uo } := h

variable {r₀ : PathMonitor}

theorem grows_foldl {α : Type} {f : State → α → State} (hf : ∀ s a, grows r₀ s.path → grows r₀ (f s a).path) (l : List α)
    {s : State} (h : grows r₀ s.path) : grows r₀ (l.foldl f s).path :=
  List.foldlRecOn (motive := fun t => grows r₀ t.path) l f h fun t ht a _ => hf t a ht

theorem placeWrite_grows (w : OwnWrite) {s : State} (h : grows r₀ s.path) : grows r₀ (placeWrite w s).path := by
  refine h.trans ?_
  unfold placeWrite
  split
  · exact ⟨⟨[_], rfl⟩, [], by simp⟩
  · exact ⟨⟨[], by simp⟩, [_], rfl⟩

theorem issueRead_grows (b : Block) (addr : Nat) (beats : Nat) (use : ReadUse) {s : State} (hg : grows r₀ s.path) :
    grows r₀ (issueRead b addr beats use s).path := hg

theorem pumpReports_grows (n : Nat) {s : State} (hg : grows r₀ s.path) :
    grows r₀ (pumpReports n s).path := by
  induction n generalizing s with
  | zero => simpa [pumpReports] using hg
  | succ n ih =>
    unfold pumpReports
    try dsimp only
    repeat' split
    all_goals (repeat first | with_reducible exact hg | with_reducible apply ih | with_reducible apply placeWrite_grows)

theorem runReports_grows  {s : State} (hg : grows r₀ s.path) :
    grows r₀ (runReports s).path := by
  unfold runReports
  try dsimp only
  all_goals (repeat first | with_reducible exact hg | with_reducible apply pumpReports_grows)

theorem placeReport_grows (r : Report) {s : State} (hg : grows r₀ s.path) :
    grows r₀ (placeReport r s).path := by
  unfold placeReport
  try dsimp only
  repeat' split
  all_goals (repeat first | with_reducible exact hg | with_reducible apply runReports_grows)

theorem offerEvent_grows (r : Report) {s : State} (hg : grows r₀ s.path) :
    grows r₀ (offerEvent r s).path := by
  unfold offerEvent
  try dsimp only
  repeat' split
  all_goals (repeat first | with_reducible exact hg | with_reducible apply placeReport_grows)

theorem event_grows (kind : Nat) (cause : Nat) (flags : Nat) (fields : List (Nat × Nat × Nat)) {s : State} (hg : grows r₀ s.path) :
    grows r₀ (event kind cause flags fields s).path := by
  unfold event
  try dsimp only
  all_goals (repeat first | with_reducible exact hg | with_reducible apply offerEvent_grows)

theorem tryFetch_grows  {s : State} (hg : grows r₀ s.path) :
    grows r₀ (tryFetch s).path := by
  unfold tryFetch
  try dsimp only
  repeat' split
  all_goals (repeat first | with_reducible exact hg | with_reducible apply issueRead_grows)

theorem applyLatch_grows (l : Latch) {s : State} (hg : grows r₀ s.path) :
    grows r₀ (applyLatch l s).path := by
  unfold applyLatch
  try dsimp only
  repeat' split
  all_goals (repeat first | with_reducible exact hg | with_reducible apply placeWrite_grows)

theorem applyLatches_grows  {s : State} (hg : grows r₀ s.path) :
    grows r₀ (applyLatches s).path := by
  unfold applyLatches
  try dsimp only
  all_goals (repeat first | with_reducible exact hg | with_reducible apply applyLatch_grows | with_reducible refine grows_foldl (fun s a hg => ?_) _ ?_ | dsimp only | split)

theorem finishJob_grows  {s : State} (hg : grows r₀ s.path) :
    grows r₀ (finishJob s).path := by
  unfold finishJob
  try dsimp only
  repeat' split
  all_goals (repeat first | with_reducible exact hg | with_reducible apply offerEvent_grows | with_reducible apply tryFetch_grows | with_reducible apply applyLatches_grows)

theorem writeConsumer_grows  {s : State} (hg : grows r₀ s.path) :
    grows r₀ (writeConsumer s).path := by
  unfold writeConsumer
  try dsimp only
  repeat' split
  all_goals (repeat first | with_reducible exact hg | with_reducible apply placeWrite_grows | with_reducible apply finishJob_grows)

theorem writeStatus_grows  {s : State} (hg : grows r₀ s.path) :
    grows r₀ (writeStatus s).path := by
  unfold writeStatus
  try dsimp only
  repeat' split
  all_goals (repeat first | with_reducible exact hg | with_reducible apply placeWrite_grows | with_reducible apply writeConsumer_grows)

theorem complete_grows (st : Status) (vals : List (Nat × Nat)) (rewrites : List (Nat × Nat × Nat)) {s : State} (hg : grows r₀ s.path) :
    grows r₀ (complete st vals rewrites s).path := by
  unfold complete
  try dsimp only
  repeat' split
  all_goals (repeat first | with_reducible exact hg | with_reducible apply placeWrite_grows | with_reducible apply writeStatus_grows)

theorem refuse_grows (st : Status) {s : State} (hg : grows r₀ s.path) :
    grows r₀ (refuse st s).path := by
  unfold refuse
  try dsimp only
  all_goals (repeat first | with_reducible exact hg | with_reducible apply complete_grows)

theorem covMove_grows (new : CovState) (cause : CovCause) {s : State} (hg : grows r₀ s.path) :
    grows r₀ (covMove new cause s).path := by
  unfold covMove
  try dsimp only
  repeat' split
  all_goals (repeat first | with_reducible exact hg | with_reducible apply event_grows)

theorem openingTest_grows  {s : State} (hg : grows r₀ s.path) :
    grows r₀ (openingTest s).path := by
  unfold openingTest
  try dsimp only
  repeat' split
  all_goals (repeat first | with_reducible exact hg | with_reducible apply covMove_grows)

theorem covDark_grows (cause : CovCause) {s : State} (hg : grows r₀ s.path) :
    grows r₀ (covDark cause s).path := by
  unfold covDark
  try dsimp only
  repeat' split
  all_goals (repeat first | with_reducible exact hg | with_reducible apply covMove_grows | with_reducible apply openingTest_grows)

theorem covClose_grows (cause : CovCause) {s : State} (hg : grows r₀ s.path) :
    grows r₀ (covClose cause s).path := by
  unfold covClose
  try dsimp only
  repeat' split
  all_goals (repeat first | with_reducible exact hg | with_reducible apply covMove_grows | with_reducible apply covDark_grows)

theorem covBackhaul_grows (present : Bool) {s : State} (hg : grows r₀ s.path) :
    grows r₀ (covBackhaul present s).path := by
  unfold covBackhaul
  try dsimp only
  repeat' split
  all_goals (repeat first | with_reducible exact hg | with_reducible apply openingTest_grows)

theorem covHold_grows  {s : State} (hg : grows r₀ s.path) :
    grows r₀ (covHold s).path := by
  unfold covHold
  try dsimp only
  repeat' split
  all_goals (repeat first | with_reducible exact hg | with_reducible apply covClose_grows)

theorem covRelease_grows  {s : State} (hg : grows r₀ s.path) :
    grows r₀ (covRelease s).path := by
  unfold covRelease
  try dsimp only
  repeat' split
  all_goals (repeat first | with_reducible exact hg | with_reducible apply openingTest_grows)

theorem recomputeFlag_grows (cause : Nat) (p : Nat) {s : State} (hg : grows r₀ s.path) :
    grows r₀ (recomputeFlag cause p s).path := by
  unfold recomputeFlag
  try dsimp only
  repeat' split
  all_goals (repeat first | with_reducible exact hg | with_reducible apply event_grows)

theorem cutPair_grows (w : Walk) (pair : Nat) {s : State} (hg : grows r₀ s.path) :
    grows r₀ (cutPair w pair s).path := by
  unfold cutPair
  try dsimp only
  all_goals (repeat first | with_reducible exact hg | with_reducible apply placeReport_grows)

theorem endWalk_grows (w : Walk) {s : State} (hg : grows r₀ s.path) :
    grows r₀ (endWalk w s).path := by
  unfold endWalk
  try dsimp only
  repeat' split
  all_goals (repeat first | with_reducible exact hg | with_reducible apply complete_grows)

theorem runWalk_grows (n : Nat) {s : State} (hg : grows r₀ s.path) :
    grows r₀ (runWalk n s).path := by
  induction n generalizing s with
  | zero => simpa [runWalk] using hg
  | succ n ih =>
    unfold runWalk
    try dsimp only
    repeat' split
    all_goals (repeat first | with_reducible exact hg | with_reducible apply ih | with_reducible apply cutPair_grows | with_reducible apply endWalk_grows)

theorem goOnWalk_grows  {s : State} (hg : grows r₀ s.path) :
    grows r₀ (goOnWalk s).path := by
  unfold goOnWalk
  try dsimp only
  all_goals (repeat first | with_reducible exact hg | with_reducible apply runWalk_grows)

theorem setEntry_grows (e : Nat) (en : Entry) {s : State} (hg : grows r₀ s.path) :
    grows r₀ (setEntry e en s).path := by simpa using hg

theorem setLink_grows (k : Nat) (l : Link) {s : State} (hg : grows r₀ s.path) :
    grows r₀ (setLink k l s).path := by simpa using hg

theorem tryTake_grows  {s : State} (hg : grows r₀ s.path) :
    grows r₀ (tryTake s).path := by
  unfold tryTake
  try dsimp only
  repeat' split
  all_goals (repeat first | with_reducible exact hg | with_reducible apply issueRead_grows)

theorem freeEntry_grows (e : Nat) {s : State} (hg : grows r₀ s.path) :
    grows r₀ (freeEntry e s).path := by simpa using hg

theorem endEntry_grows (inPass : Bool) (e : Nat) (f : Final) (link : Option Nat) {s : State} (hg : grows r₀ s.path) :
    grows r₀ (endEntry inPass e f link s).path := by
  unfold endEntry
  try dsimp only
  repeat' split
  all_goals (repeat first | with_reducible exact hg | with_reducible apply placeWrite_grows | with_reducible apply setEntry_grows | with_reducible apply freeEntry_grows)

theorem installSchedule_grows (sch : Schedule) {s : State} (hg : grows r₀ s.path) :
    grows r₀ (installSchedule sch s).path := by simpa using hg

theorem scheduleModeChange_grows  {s : State} (hg : grows r₀ s.path) :
    grows r₀ (scheduleModeChange s).path := by simpa using hg

theorem examine_grows (n : Nat) (m : Nat) {s : State} (hg : grows r₀ s.path) :
    grows r₀ (examine n m s).1.path := by simpa using hg

theorem chooseWaiting_grows  {s : State} (hg : grows r₀ s.path) :
    grows r₀ (chooseWaiting s).1.path := by simpa using hg

theorem markPosted_grows (e : Nat) (k : Nat) {s : State} (hg : grows r₀ s.path) :
    grows r₀ (markPosted e k s).path := by simpa using hg

theorem post_grows (e : Nat) (k : Nat) {s : State} (hg : grows r₀ s.path) :
    grows r₀ (post e k s).path := by
  unfold post
  try dsimp only
  repeat' split
  all_goals (repeat first | with_reducible exact hg | with_reducible apply markPosted_grows | with_reducible apply placeWrite_grows)

theorem judgeHead_grows (retry : Bool) (e : Nat) {s : State} (hg : grows r₀ s.path) :
    grows r₀ (judgeHead retry e s).1.path := by
  unfold judgeHead
  try dsimp only
  repeat' split
  all_goals (repeat first | with_reducible exact hg | with_reducible apply endEntry_grows | with_reducible apply chooseWaiting_grows | with_reducible apply post_grows)

theorem passLoop_grows (n : Nat) {s : State} (hg : grows r₀ s.path) :
    grows r₀ (passLoop n s).path := by
  induction n generalizing s with
  | zero => simpa [passLoop] using hg
  | succ n ih =>
    unfold passLoop
    try dsimp only
    repeat' split
    all_goals (repeat first | with_reducible exact hg | with_reducible apply ih | with_reducible apply judgeHead_grows)

theorem dispatchPass_grows  {s : State} (hg : grows r₀ s.path) :
    grows r₀ (dispatchPass s).path := by
  unfold dispatchPass
  try dsimp only
  repeat' split
  all_goals (repeat first | with_reducible exact hg | with_reducible apply passLoop_grows)

theorem uncount_grows (e : Nat) {s : State} (hg : grows r₀ s.path) :
    grows r₀ (uncount e s).path := by simpa using hg

theorem toRetry_grows (e : Nat) {s : State} (hg : grows r₀ s.path) :
    grows r₀ (toRetry e s).path := by simpa using hg

theorem failEntry_grows (e : Nat) {s : State} (hg : grows r₀ s.path) :
    grows r₀ (failEntry e s).path := by
  unfold failEntry
  try dsimp only
  repeat' split
  all_goals (repeat first | with_reducible exact hg | with_reducible apply endEntry_grows | with_reducible apply toRetry_grows)

theorem releaseLink_grows (k : Nat) {s : State} (hg : grows r₀ s.path) :
    grows r₀ (releaseLink k s).path := by
  unfold releaseLink
  try dsimp only
  all_goals (repeat first | with_reducible exact hg | with_reducible apply setEntry_grows | with_reducible apply setLink_grows | with_reducible apply failEntry_grows | with_reducible refine grows_foldl (fun s a hg => ?_) _ ?_ | dsimp only | split)

theorem setLine_grows (i : Nat) (l : Line) {s : State} (hg : grows r₀ s.path) :
    grows r₀ (setLine i l s).path := by simpa using hg

theorem beginWriteBack_grows (i : Nat) {s : State} (hg : grows r₀ s.path) :
    grows r₀ (beginWriteBack i s).path := by
  unfold beginWriteBack
  try dsimp only
  repeat' split
  all_goals (repeat first | with_reducible exact hg | with_reducible apply placeWrite_grows | with_reducible apply setLine_grows)

theorem touchLine_grows (i : Nat) {s : State} (hg : grows r₀ s.path) :
    grows r₀ (touchLine i s).path := by simpa using hg

theorem assignVictim_grows (i : Nat) (m : Miss) {s : State} (hg : grows r₀ s.path) :
    grows r₀ (assignVictim i m s).path := by
  unfold assignVictim
  try dsimp only
  all_goals (repeat first | with_reducible exact hg | with_reducible apply issueRead_grows | with_reducible apply setLine_grows | with_reducible apply touchLine_grows)

theorem beginEvictions_grows (n : Nat) {s : State} (hg : grows r₀ s.path) :
    grows r₀ (beginEvictions n s).path := by
  induction n generalizing s with
  | zero => simpa [beginEvictions] using hg
  | succ n ih =>
    unfold beginEvictions
    try dsimp only
    repeat' split
    all_goals (repeat first | with_reducible exact hg | with_reducible apply ih | with_reducible apply setLine_grows | with_reducible apply beginWriteBack_grows)

theorem seekVictims_grows (n : Nat) {s : State} (hg : grows r₀ s.path) :
    grows r₀ (seekVictims n s).path := by
  induction n generalizing s with
  | zero => simpa [seekVictims] using hg
  | succ n ih =>
    unfold seekVictims
    try dsimp only
    repeat' split
    all_goals (repeat first | with_reducible exact hg | with_reducible apply ih | with_reducible apply assignVictim_grows | with_reducible apply beginEvictions_grows)

theorem serveMisses_grows  {s : State} (hg : grows r₀ s.path) :
    grows r₀ (serveMisses s).path := by
  unfold serveMisses
  try dsimp only
  repeat' split
  all_goals (repeat first | with_reducible exact hg | with_reducible apply seekVictims_grows)

theorem requestLine_grows (r : Requester) (a : Nat) {s : State} (hg : grows r₀ s.path) :
    grows r₀ (requestLine r a s).path := by
  unfold requestLine
  try dsimp only
  repeat' split
  all_goals (repeat first | with_reducible exact hg | with_reducible apply setLine_grows | with_reducible apply serveMisses_grows)

theorem changeLine_grows (i : Nat) (r : AcctRec) {s : State} (hg : grows r₀ s.path) :
    grows r₀ (changeLine i r s).path := by simpa using hg

theorem answerRead_grows (a : Nat) (ans : Answer) {s : State} (hg : grows r₀ s.path) :
    grows r₀ (answerRead a ans s).path := by
  unfold answerRead
  try dsimp only
  repeat' split
  all_goals (repeat first | with_reducible exact hg)
  all_goals (try ((try dsimp only);  refine grows.mk ?_; (repeat first | with_reducible exact hg)))

theorem readGrant_grows (i : Nat) {s : State} (hg : grows r₀ s.path) :
    grows r₀ (readGrant i s).path := by
  unfold readGrant
  try dsimp only
  repeat' split
  all_goals (repeat first | with_reducible exact hg | with_reducible apply beginWriteBack_grows | with_reducible apply answerRead_grows)

theorem presentRead_grows (a : Nat) {s : State} (hg : grows r₀ s.path) :
    grows r₀ (presentRead a s).path := by
  unfold presentRead
  try dsimp only
  repeat' split
  all_goals (repeat first | with_reducible exact hg | with_reducible apply setLine_grows | with_reducible apply answerRead_grows | with_reducible apply readGrant_grows)

theorem ageExpiry_grows (i : Nat) {s : State} (hg : grows r₀ s.path) :
    grows r₀ (ageExpiry i s).path := by
  unfold ageExpiry
  try dsimp only
  repeat' split
  all_goals (repeat first | with_reducible exact hg | with_reducible apply beginWriteBack_grows)

theorem writeBackAll_grows  {s : State} (hg : grows r₀ s.path) :
    grows r₀ (writeBackAll s).path := by
  unfold writeBackAll
  try dsimp only
  all_goals (repeat first | with_reducible exact hg | with_reducible apply beginWriteBack_grows | with_reducible refine grows_foldl (fun s a hg => ?_) _ ?_ | dsimp only | split)

theorem swapTo_grows (t : Option Nat) (cause : SwapCause) {s : State} (hg : grows r₀ s.path) :
    grows r₀ (swapTo t cause s).path := by
  unfold swapTo
  try dsimp only
  all_goals (repeat first | with_reducible exact hg | with_reducible apply event_grows)

theorem noDeferred_grows  {s : State} (hg : grows r₀ s.path) :
    grows r₀ (noDeferred s).path := by simpa using hg

theorem bringActive_grows (modeSwap : Bool) {s : State} (hg : grows r₀ s.path) :
    grows r₀ (bringActive modeSwap s).path := by
  unfold bringActive
  try dsimp only
  repeat' split
  all_goals (repeat first | with_reducible exact hg | with_reducible apply swapTo_grows | with_reducible apply noDeferred_grows)

theorem publishBackhaul_grows  {s : State} (hg : grows r₀ s.path) :
    grows r₀ (publishBackhaul s).path := by
  unfold publishBackhaul
  try dsimp only
  repeat' split
  all_goals (repeat first | with_reducible exact hg | with_reducible apply covBackhaul_grows)

theorem clearActive_grows  {s : State} (hg : grows r₀ s.path) :
    grows r₀ (clearActive s).path := by
  unfold clearActive
  try dsimp only
  repeat' split
  all_goals (repeat first | with_reducible exact hg | with_reducible apply swapTo_grows | with_reducible apply noDeferred_grows)

theorem tellMode_grows (old : LinkMode) {s : State} (hg : grows r₀ s.path) :
    grows r₀ (tellMode old s).path := by simpa using hg

theorem selectorEval_grows  {s : State} (hg : grows r₀ s.path) :
    grows r₀ (selectorEval s).path := by
  unfold selectorEval
  try dsimp only
  repeat' split
  all_goals (repeat first | with_reducible exact hg | with_reducible apply bringActive_grows | with_reducible apply publishBackhaul_grows | with_reducible apply clearActive_grows | with_reducible apply tellMode_grows)

theorem linkStateReport_grows (k : Nat) (old : Health) (cause : LinkCause) {s : State} (hg : grows r₀ s.path) :
    grows r₀ (linkStateReport k old cause s).path := by
  unfold linkStateReport
  try dsimp only
  all_goals (repeat first | with_reducible exact hg | with_reducible apply event_grows)

theorem moveHealth_grows (k : Nat) (h : Health) (cause : LinkCause) {s : State} (hg : grows r₀ s.path) :
    grows r₀ (moveHealth k h cause s).path := by
  unfold moveHealth
  try dsimp only
  repeat' split
  all_goals (repeat first | with_reducible exact hg | with_reducible apply setLink_grows | with_reducible apply selectorEval_grows | with_reducible apply linkStateReport_grows)

theorem evaluateLink_grows (k : Nat) (cause : LinkCause) {s : State} (hg : grows r₀ s.path) :
    grows r₀ (evaluateLink k cause s).path := by
  unfold evaluateLink
  try dsimp only
  repeat' split
  all_goals (repeat first | with_reducible exact hg | with_reducible apply moveHealth_grows)

theorem completionTimeoutExpiry_grows (k : Nat) {s : State} (hg : grows r₀ s.path) :
    grows r₀ (completionTimeoutExpiry k s).path := by
  unfold completionTimeoutExpiry
  try dsimp only
  repeat' split
  all_goals (repeat first | with_reducible exact hg | with_reducible apply moveHealth_grows)

theorem linkCompleted_grows (k : Nat) {s : State} (hg : grows r₀ s.path) :
    grows r₀ (linkCompleted k s).path := by
  unfold linkCompleted
  try dsimp only
  repeat' split
  all_goals (repeat first | with_reducible exact hg | with_reducible apply moveHealth_grows | with_reducible apply evaluateLink_grows | with_reducible apply completionTimeoutExpiry_grows)

theorem enableLink_grows (k : Nat) {s : State} (hg : grows r₀ s.path) :
    grows r₀ (enableLink k s).path := by
  unfold enableLink
  try dsimp only
  all_goals (repeat first | with_reducible exact hg | with_reducible apply setLink_grows | with_reducible apply moveHealth_grows | with_reducible apply evaluateLink_grows)

/-- LINK_RESET gives up the posts to the link that wait for room, and places the rest behind (R65, assumption 12). -/
theorem resetLink_grows (k : Nat) {s : State} (hg : grows r₀ (dropPosts (· == k) s).path) :
    grows r₀ (resetLink k s).path := by
  unfold resetLink
  try dsimp only
  repeat' split
  all_goals (repeat first | with_reducible exact hg | with_reducible apply setLink_grows | with_reducible apply releaseLink_grows | with_reducible apply selectorEval_grows | with_reducible apply linkStateReport_grows)

theorem setGate_grows (a : Nat) (e : GateEntry) {s : State} (hg : grows r₀ s.path) :
    grows r₀ (setGate a e s).path := by simpa using hg

theorem writeGate_grows (a : Nat) (opened : Bool) {s : State} (hg : grows r₀ s.path) :
    grows r₀ (writeGate a opened s).path := by simpa using hg

theorem tryRate_grows  {s : State} (hg : grows r₀ s.path) :
    grows r₀ (tryRate s).path := by
  unfold tryRate
  try dsimp only
  repeat' split
  all_goals (repeat first | with_reducible exact hg | with_reducible apply requestLine_grows)

theorem setAcct_grows (a : AccountManager) {s : State} (hg : grows r₀ s.path) :
    grows r₀ (setAcct a s).path := by simpa using hg

theorem judgeFinisher_grows  {s : State} (hg : grows r₀ s.path) :
    grows r₀ (judgeFinisher s).path := by
  unfold judgeFinisher
  try dsimp only
  repeat' split
  all_goals (repeat first | with_reducible exact hg | with_reducible apply requestLine_grows | with_reducible apply setAcct_grows)

theorem refuseOpen_grows (st : Status) (r : AcctRec) {s : State} (hg : grows r₀ s.path) :
    grows r₀ (refuseOpen st r s).path := by
  unfold refuseOpen
  try dsimp only
  all_goals (repeat first | with_reducible exact hg | with_reducible apply complete_grows)

theorem openWork_grows (p : OpenAccountParams) (i : Nat) {s : State} (hg : grows r₀ s.path) :
    grows r₀ (openWork p i s).path := by
  unfold openWork
  try dsimp only
  repeat' split
  all_goals (repeat first | with_reducible exact hg | with_reducible apply complete_grows | with_reducible apply changeLine_grows | with_reducible apply setGate_grows | with_reducible apply refuseOpen_grows)

theorem refuseGrant_grows (st : Status) (r : AcctRec) {s : State} (hg : grows r₀ s.path) :
    grows r₀ (refuseGrant st r s).path := by
  unfold refuseGrant
  try dsimp only
  all_goals (repeat first | with_reducible exact hg | with_reducible apply complete_grows)

theorem grantWork_grows (p : GrantParams) (i : Nat) {s : State} (hg : grows r₀ s.path) :
    grows r₀ (grantWork p i s).path := by
  unfold grantWork
  try dsimp only
  repeat' split
  all_goals (repeat first | with_reducible exact hg | with_reducible apply complete_grows | with_reducible apply changeLine_grows | with_reducible apply writeGate_grows | with_reducible apply refuseGrant_grows)

theorem suspendWork_grows (a : Nat) (i : Nat) {s : State} (hg : grows r₀ s.path) :
    grows r₀ (suspendWork a i s).path := by
  unfold suspendWork
  try dsimp only
  repeat' split
  all_goals (repeat first | with_reducible exact hg | with_reducible apply complete_grows | with_reducible apply changeLine_grows | with_reducible apply writeGate_grows)

theorem resumeWork_grows (a : Nat) (i : Nat) {s : State} (hg : grows r₀ s.path) :
    grows r₀ (resumeWork a i s).path := by
  unfold resumeWork
  try dsimp only
  repeat' split
  all_goals (repeat first | with_reducible exact hg | with_reducible apply complete_grows | with_reducible apply changeLine_grows | with_reducible apply writeGate_grows)

theorem closeWork_grows (a : Nat) (i : Nat) {s : State} (hg : grows r₀ s.path) :
    grows r₀ (closeWork a i s).path := by
  unfold closeWork
  try dsimp only
  repeat' split
  all_goals (repeat first | with_reducible exact hg | with_reducible apply complete_grows | with_reducible apply changeLine_grows | with_reducible apply writeGate_grows | with_reducible apply setAcct_grows | with_reducible apply judgeFinisher_grows)

theorem commandWork_grows (i : Nat) {s : State} (hg : grows r₀ s.path) :
    grows r₀ (commandWork i s).path := by
  unfold commandWork
  try dsimp only
  repeat' split
  all_goals (repeat first | with_reducible exact hg | with_reducible apply setAcct_grows | with_reducible apply openWork_grows | with_reducible apply grantWork_grows | with_reducible apply suspendWork_grows | with_reducible apply resumeWork_grows | with_reducible apply closeWork_grows)

theorem requestCommandLine_grows (a : Nat) {s : State} (hg : grows r₀ s.path) :
    grows r₀ (requestCommandLine a s).path := by
  unfold requestCommandLine
  try dsimp only
  repeat' split
  all_goals (repeat first | with_reducible exact hg | with_reducible apply touchLine_grows | with_reducible apply requestLine_grows | with_reducible apply setAcct_grows | with_reducible apply commandWork_grows)

theorem closeTakesPlace_grows (a : Nat) {s : State} (hg : grows r₀ s.path) :
    grows r₀ (closeTakesPlace a s).path := by
  unfold closeTakesPlace
  try dsimp only
  repeat' split
  all_goals (repeat first | with_reducible exact hg | with_reducible apply setAcct_grows | with_reducible apply requestCommandLine_grows)

theorem finishDone_grows  {s : State} (hg : grows r₀ s.path) :
    grows r₀ (finishDone s).path := by
  unfold finishDone
  try dsimp only
  repeat' split
  all_goals (repeat first | with_reducible exact hg | with_reducible apply setAcct_grows | with_reducible apply judgeFinisher_grows | with_reducible apply closeTakesPlace_grows)

theorem scanNext_grows  {s : State} (hg : grows r₀ s.path) :
    grows r₀ (scanNext s).path := by
  unfold scanNext
  try dsimp only
  repeat' split
  all_goals (repeat first | with_reducible exact hg | with_reducible apply complete_grows | with_reducible apply openingTest_grows | with_reducible apply tryTake_grows | with_reducible apply requestLine_grows | with_reducible apply tryRate_grows | with_reducible apply setAcct_grows)

theorem scanPlaced_grows  {s : State} (hg : grows r₀ s.path) :
    grows r₀ (scanPlaced s).path := by
  unfold scanPlaced
  try dsimp only
  repeat' split
  all_goals (repeat first | with_reducible exact hg | with_reducible apply setAcct_grows | with_reducible apply scanNext_grows)

theorem cutWaiting_grows  {s : State} (hg : grows r₀ s.path) :
    grows r₀ (cutWaiting s).path := by
  unfold cutWaiting
  try dsimp only
  repeat' split
  all_goals (repeat first | with_reducible exact hg | with_reducible apply cutPair_grows | with_reducible apply goOnWalk_grows)

theorem placeWaiter_grows (b : Billing) {s : State} (hg : grows r₀ s.path) :
    grows r₀ (placeWaiter b s).path := by
  unfold placeWaiter
  try dsimp only
  repeat' split
  all_goals (repeat first | with_reducible exact hg | with_reducible apply placeReport_grows | with_reducible apply finishDone_grows | with_reducible apply scanPlaced_grows | with_reducible apply cutWaiting_grows)

theorem placeWaitersLoop_grows (n : Nat) {s : State} (hg : grows r₀ s.path) :
    grows r₀ (placeWaitersLoop n s).path := by
  induction n generalizing s with
  | zero => simpa [placeWaitersLoop] using hg
  | succ n ih =>
    unfold placeWaitersLoop
    try dsimp only
    repeat' split
    all_goals (repeat first | with_reducible exact hg | with_reducible apply ih | with_reducible apply placeWaiter_grows)

theorem creditToGate_grows (b a : AcctRec) (n : Nat) {s : State} (hg : grows r₀ s.path) :
    grows r₀ (creditToGate b a n s).path := by simpa using hg

theorem settleRating_grows (r : AcctRec) (e : UsageEvent) (c : Nat) {s : State} (hg : grows r₀ s.path) :
    grows r₀ (settleRating r e c s).path := by simpa using hg

theorem offerCredit_grows (b a : AcctRec) (n : Nat) {s : State} (hg : grows r₀ s.path) :
    grows r₀ (offerCredit b a n s).path := by
  unfold offerCredit
  try dsimp only
  repeat' split
  all_goals (repeat first | with_reducible exact hg | with_reducible apply event_grows)

theorem rateGrant_grows (i : Nat) (e : UsageEvent) {s : State} (hg : grows r₀ s.path) :
    grows r₀ (rateGrant i e s).path := by
  unfold rateGrant
  try dsimp only
  repeat' split
  all_goals (repeat first | with_reducible exact hg | with_reducible apply event_grows | with_reducible apply offerCredit_grows | with_reducible apply settleRating_grows | with_reducible apply creditToGate_grows | with_reducible apply changeLine_grows)

theorem finishRecord_grows (scan : Bool) (a i : Nat) (p : Place) {s : State} (hg : grows r₀ s.path) :
    grows r₀ (finishRecord scan a i p s).1.path := by
  unfold finishRecord
  try dsimp only
  unfold settleRoundUp addAccum
  repeat' split
  all_goals (repeat first | with_reducible exact hg | with_reducible apply changeLine_grows)

theorem offerBilling_grows (b : Report → Billing) (r : Report) {s : State} (hg : grows r₀ s.path) :
    grows r₀ (offerBilling b r s).path := by
  unfold offerBilling
  try dsimp only
  repeat' split
  all_goals (repeat first | with_reducible exact hg | with_reducible apply placeReport_grows)

theorem finisherWork_grows (i : Nat) {s : State} (hg : grows r₀ s.path) :
    grows r₀ (finisherWork i s).path := by
  unfold finisherWork
  try dsimp only
  repeat' split
  all_goals (repeat first | with_reducible exact hg | with_reducible apply setAcct_grows | with_reducible apply offerBilling_grows | with_reducible apply finishRecord_grows)

theorem scanWork_grows (i : Nat) {s : State} (hg : grows r₀ s.path) :
    grows r₀ (scanWork i s).path := by
  unfold scanWork
  try dsimp only
  repeat' split
  all_goals (repeat first | with_reducible exact hg | with_reducible apply setAcct_grows | with_reducible apply setGate_grows | with_reducible apply offerBilling_grows | with_reducible apply finishRecord_grows | with_reducible apply event_grows | with_reducible apply changeLine_grows)

theorem grantWorkOf_grows (r : Requester) (i : Nat) {s : State} (hg : grows r₀ s.path) :
    grows r₀ (grantWorkOf r i s).path := by
  unfold grantWorkOf
  try dsimp only
  repeat' split
  all_goals (repeat first | with_reducible exact hg | with_reducible apply rateGrant_grows | with_reducible apply commandWork_grows | with_reducible apply finisherWork_grows | with_reducible apply scanWork_grows | with_reducible apply readGrant_grows)

theorem endRating_grows  {s : State} (hg : grows r₀ s.path) :
    grows r₀ (endRating s).path := by
  unfold endRating
  try dsimp only
  repeat' split
  all_goals (repeat first | with_reducible exact hg | with_reducible apply tryRate_grows | with_reducible apply judgeFinisher_grows)

theorem afterGrant_grows (r : Requester) {s : State} (hg : grows r₀ s.path) :
    grows r₀ (afterGrant r s).path := by
  unfold afterGrant
  try dsimp only
  repeat' split
  all_goals (repeat first | with_reducible exact hg | with_reducible apply endRating_grows | with_reducible apply finishDone_grows | with_reducible apply scanNext_grows)

theorem serve_grows (n i : Nat) {s : State} (hg : grows r₀ s.path) : grows r₀ (serve n i s).path := by
  induction n generalizing i s with
  | zero => simpa [serve] using hg
  | succ n ih =>
    unfold serve
    dsimp only
    repeat' split
    all_goals (repeat first | with_reducible exact hg | with_reducible refine grows_foldl (fun s a hg => ?_) _ ?_ | with_reducible apply ih | with_reducible apply afterGrant_grows | with_reducible apply grantWorkOf_grows | with_reducible apply touchLine_grows | with_reducible apply setLine_grows)

theorem grantLine_grows (i : Nat) {s : State} (hg : grows r₀ s.path) :
    grows r₀ (grantLine i s).path := by
  unfold grantLine
  try dsimp only
  repeat' split
  all_goals (repeat first | with_reducible exact hg | with_reducible apply serveMisses_grows | with_reducible apply serve_grows)

theorem grantCalled_grows (old : State) {s : State} (hg : grows r₀ s.path) :
    grows r₀ (grantCalled old s).path := by
  unfold grantCalled
  try dsimp only
  repeat' split
  all_goals (repeat first | with_reducible exact hg | with_reducible apply grantLine_grows | with_reducible refine grows_foldl (fun s a hg => ?_) _ ?_ | dsimp only | split)

theorem placeWaiters_grows  {s : State} (hg : grows r₀ s.path) :
    grows r₀ (placeWaiters s).path := by
  unfold placeWaiters
  try dsimp only
  repeat' split
  all_goals (repeat first | with_reducible exact hg | with_reducible apply grantCalled_grows | with_reducible apply placeWaitersLoop_grows)

theorem settleEvent_grows (old : State) {s : State} (hg : grows r₀ s.path) :
    grows r₀ (settleEvent old s).path := by
  unfold settleEvent
  try dsimp only
  repeat' split
  all_goals (repeat first | with_reducible exact hg | with_reducible apply tryTake_grows | with_reducible apply dispatchPass_grows | with_reducible apply judgeFinisher_grows)

theorem enqueue_grows (e : UsageEvent) {s : State} (hg : grows r₀ s.path) :
    grows r₀ (enqueue e s).path := by
  unfold enqueue
  try dsimp only
  all_goals (repeat first | with_reducible exact hg | with_reducible apply tryRate_grows)

theorem badAccount_grows (region : Nat) (initiator : Nat) (slot : Nat) (a : Nat) {s : State} (hg : grows r₀ s.path) :
    grows r₀ (badAccount region initiator slot a s).path := by
  unfold badAccount
  try dsimp only
  all_goals (repeat first | with_reducible exact hg | with_reducible apply event_grows)

theorem judgeDownlink_grows (initiator : Nat) (slot : Nat) (d : List Byte) {s : State} (hg : grows r₀ s.path) :
    grows r₀ (judgeDownlink initiator slot d s).1.path := by
  unfold judgeDownlink
  try dsimp only
  repeat' split
  all_goals (repeat first | with_reducible exact hg | with_reducible apply event_grows | with_reducible apply enqueue_grows | with_reducible apply badAccount_grows)

theorem entrySent_grows (e : Nat) (k : Nat) {s : State} (hg : grows r₀ s.path) :
    grows r₀ (entrySent e k s).path := by
  unfold entrySent
  try dsimp only
  all_goals (repeat first | with_reducible exact hg | with_reducible apply endEntry_grows | with_reducible apply uncount_grows | with_reducible apply linkCompleted_grows)

theorem completionFault_grows (kind : Nat) (flags : Nat) (k : Nat) (slot : Nat) (d : List Byte) {s : State} (hg : grows r₀ s.path) :
    grows r₀ (completionFault kind flags k slot d s).path := by
  unfold completionFault
  try dsimp only
  all_goals (repeat first | with_reducible exact hg | with_reducible apply event_grows)

theorem completeOk_grows (e : Nat) (k : Nat) {s : State} (hg : grows r₀ s.path) :
    grows r₀ (completeOk e k s).1.path := by
  unfold completeOk
  try dsimp only
  repeat' split
  all_goals (repeat first | with_reducible exact hg | with_reducible apply event_grows | with_reducible apply setEntry_grows | with_reducible apply enqueue_grows | with_reducible apply entrySent_grows)

theorem completeFail_grows (e : Nat) (k : Nat) {s : State} (hg : grows r₀ s.path) :
    grows r₀ (completeFail e k s).path := by
  unfold completeFail
  try dsimp only
  repeat' split
  all_goals (repeat first | with_reducible exact hg | with_reducible apply endEntry_grows | with_reducible apply uncount_grows | with_reducible apply failEntry_grows | with_reducible apply linkCompleted_grows)

theorem judgeCompletion_grows (k : Nat) (slot : Nat) (d : List Byte) {s : State} (hg : grows r₀ s.path) :
    grows r₀ (judgeCompletion k slot d s).1.path := by
  unfold judgeCompletion
  try dsimp only
  repeat' split
  all_goals (repeat first | with_reducible exact hg | with_reducible apply completionFault_grows | with_reducible apply completeOk_grows | with_reducible apply completeFail_grows)

theorem joinWait_grows (e : Nat) (en : Entry) {s : State} (hg : grows r₀ s.path) :
    grows r₀ (joinWait e en s).path := by simpa using hg

theorem judgeTake_grows (t : Take) (d : List Byte) {s : State} (hg : grows r₀ s.path) :
    grows r₀ (judgeTake t d s).path := by
  unfold judgeTake
  try dsimp only
  repeat' split
  all_goals (repeat first | with_reducible exact hg | with_reducible apply setEntry_grows | with_reducible apply endEntry_grows | with_reducible apply badAccount_grows | with_reducible apply joinWait_grows)

theorem badIndex_grows (index : Nat) (v : Nat) (size : Nat) {s : State} (hg : grows r₀ s.path) :
    grows r₀ (badIndex index v size s).path := by
  unfold badIndex
  try dsimp only
  all_goals (repeat first | with_reducible exact hg | with_reducible apply event_grows)

theorem latchCommand_grows (l : Latch) {s : State} (hg : grows r₀ s.path) :
    grows r₀ (latchCommand l s).path := by
  unfold latchCommand
  try dsimp only
  repeat' split
  all_goals (repeat first | with_reducible exact hg | with_reducible apply applyLatch_grows)

theorem commandProducer_grows (v : Nat) {s : State} (hg : grows r₀ s.path) :
    grows r₀ (commandProducer v s).path := by
  unfold commandProducer
  try dsimp only
  repeat' split
  all_goals (repeat first | with_reducible exact hg | with_reducible apply tryFetch_grows | with_reducible apply badIndex_grows)

theorem restartReports_grows  {s : State} (hg : grows r₀ s.path) :
    grows r₀ (restartReports s).path := by
  unfold restartReports
  try dsimp only
  repeat' split
  all_goals (repeat first | with_reducible exact hg | with_reducible apply issueRead_grows | with_reducible apply runReports_grows)

theorem latchReportBase_grows (v : Nat) {s : State} (hg : grows r₀ s.path) :
    grows r₀ (latchReportBase v s).path := by
  unfold latchReportBase
  try dsimp only
  all_goals (repeat first | with_reducible exact hg | with_reducible apply restartReports_grows)

theorem latchReportSize_grows (v : Nat) {s : State} (hg : grows r₀ s.path) :
    grows r₀ (latchReportSize v s).path := by
  unfold latchReportSize
  try dsimp only
  all_goals (repeat first | with_reducible exact hg | with_reducible apply restartReports_grows)

theorem reportConsumer_grows (v : Nat) {s : State} (hg : grows r₀ s.path) :
    grows r₀ (reportConsumer v s).path := by
  unfold reportConsumer
  try dsimp only
  repeat' split
  all_goals (repeat first | with_reducible exact hg | with_reducible apply placeWaiters_grows | with_reducible apply badIndex_grows)

theorem handField_grows (f : ControlField) (v : Nat) {s : State} (hg : grows r₀ s.path) :
    grows r₀ (handField f v s).path := by
  unfold handField
  try dsimp only
  repeat' split
  all_goals (repeat first | with_reducible exact hg | with_reducible apply latchCommand_grows | with_reducible apply commandProducer_grows | with_reducible apply latchReportBase_grows | with_reducible apply latchReportSize_grows | with_reducible apply reportConsumer_grows)

theorem pathFault_grows (t : Txn) (g : RegionKind) (kind : Nat) (dropped : Nat) {s : State} (hg : grows r₀ s.path) :
    grows r₀ (pathFault t g kind dropped s).path := by
  unfold pathFault
  try dsimp only
  all_goals (repeat first | with_reducible exact hg | with_reducible apply event_grows)

theorem flushOwed_grows  {s : State} (hg : grows r₀ s.path) :
    grows r₀ (flushOwed s).path := hg

theorem answerHead_grows (h : Head) (data : List Byte) {s : State} (hg : grows r₀ s.path) :
    grows r₀ (answerHead h data s).path := by
  unfold answerHead
  try dsimp only
  all_goals (repeat first | with_reducible exact hg | with_reducible apply flushOwed_grows)
  all_goals (try ((try dsimp only);  refine grows.mk ?_; (repeat first | with_reducible exact hg | with_reducible apply flushOwed_grows)))

theorem moveHead_grows  {s : State} (hg : grows r₀ s.path) :
    grows r₀ (moveHead s).path := by
  unfold moveHead
  try dsimp only
  repeat' split
  all_goals (repeat first | with_reducible exact hg | with_reducible apply answerHead_grows)
  all_goals (try ((try dsimp only);  refine grows.mk ?_; (repeat first | with_reducible exact hg | with_reducible apply answerHead_grows)))

theorem setHead_grows (h : Head) {s : State} (hg : grows r₀ s.path) :
    grows r₀ (setHead h s).path := hg

theorem takeRead_grows (t : Txn) {s : State} (hg : grows r₀ s.path) :
    grows r₀ (takeRead t s).path := by
  unfold takeRead
  try dsimp only
  repeat' split
  all_goals (repeat first | with_reducible exact hg | with_reducible apply presentRead_grows | with_reducible apply setHead_grows | with_reducible refine grows_foldl (fun s a hg => ?_) _ ?_ | dsimp only | split)

theorem applyVerdict_grows (p : Producer) (r : State × Verdict)  (hg : grows r₀ r.1.path) :
    grows r₀ (applyVerdict p r).path := by
  unfold applyVerdict
  try dsimp only
  repeat' split
  all_goals (repeat first | with_reducible exact hg | with_reducible apply setHead_grows)

theorem handOff_grows (t : Txn) (o : Outcome) {s : State} (hg : grows r₀ s.path) :
    grows r₀ (handOff t o s).path := by
  unfold handOff
  try dsimp only
  repeat' split
  all_goals (repeat first | with_reducible exact hg | with_reducible apply tryTake_grows | with_reducible apply judgeDownlink_grows | with_reducible apply judgeCompletion_grows | with_reducible apply handField_grows | with_reducible apply applyVerdict_grows | with_reducible refine grows_foldl (fun s a hg => ?_) _ ?_ | dsimp only | split)

theorem takeWrite_grows (t : Txn) {s : State} (hg : grows r₀ s.path) :
    grows r₀ (takeWrite t s).path := by
  unfold takeWrite
  try dsimp only
  all_goals (repeat first | with_reducible exact hg | with_reducible apply pathFault_grows | with_reducible apply setHead_grows | with_reducible apply handOff_grows | with_reducible refine grows_foldl (fun s a hg => ?_) _ ?_ | dsimp only | split)

theorem takeTxn_grows (t : Txn) {s : State} (hg : grows r₀ s.path) :
    grows r₀ (takeTxn t s).path := by
  unfold takeTxn
  try dsimp only
  repeat' split
  all_goals (repeat first | with_reducible exact hg | with_reducible apply takeRead_grows | with_reducible apply takeWrite_grows)

theorem dealWith_grows (t : Txn) {s : State} (hg : grows r₀ s.path) :
    grows r₀ (dealWith t s).path := by
  unfold dealWith
  try dsimp only
  repeat' split
  all_goals (repeat first | with_reducible exact hg | with_reducible apply settleEvent_grows | with_reducible apply moveHead_grows | with_reducible apply takeTxn_grows)

theorem pumpLoop_grows (n : Nat) {s : State} (hg : grows r₀ s.path) :
    grows r₀ (pumpLoop n s).path := by
  induction n generalizing s with
  | zero => simpa [pumpLoop] using hg
  | succ n ih =>
    unfold pumpLoop
    split
    · exact ih (dealWith_grows _ hg.mk)
    · exact hg

theorem pumpUpstream_grows  {s : State} (hg : grows r₀ s.path) :
    grows r₀ (pumpUpstream s).path := by
  unfold pumpUpstream
  try dsimp only
  all_goals (repeat first | with_reducible exact hg | with_reducible apply pumpLoop_grows)

theorem portEvent_grows (old : State) {s : State} (hg : grows r₀ s.path) :
    grows r₀ (portEvent old s).path := by
  unfold portEvent
  try dsimp only
  repeat' split
  all_goals (repeat first | with_reducible exact hg | with_reducible apply pumpUpstream_grows | with_reducible apply settleEvent_grows | with_reducible apply moveHead_grows)

theorem releaseVerdict_grows (v : Verdict) {s : State} (hg : grows r₀ s.path) :
    grows r₀ (releaseVerdict v s).path := by
  unfold releaseVerdict
  try dsimp only
  repeat' split
  all_goals (repeat first | with_reducible exact hg | with_reducible apply setHead_grows)

end Sys2Proof.Machine
end

