-- ==== Sys2Proof/Laws/Tables.lean ====
section
/-! SUPPORT. The sparse tables: reading after writing, and the canonical form that every write keeps. -/

namespace Sys2Proof.Machine

variable {α : Type}

theorem mem_insertAt (t : Tab α) (n : Nat) (v : α) (p : Nat × α) : p ∈ insertAt t n v ↔ p = (n, v) ∨ p ∈ t := by
  induction t with
  | nil => simp [insertAt]
  | cons q t ih =>
    obtain ⟨k, w⟩ := q
    by_cases h : n < k
    · simp [insertAt, h]
    · simp [insertAt, h, ih, or_left_comm]

theorem pairwise_insertAt (t : Tab α) (n : Nat) (v : α) (h : t.Pairwise fun p q => p.1 < q.1)
    (hn : ∀ p ∈ t, p.1 ≠ n) : (insertAt t n v).Pairwise fun p q => p.1 < q.1 := by
  induction t with
  | nil => simp [insertAt]
  | cons q t ih =>
    obtain ⟨k, w⟩ := q
    rw [List.pairwise_cons] at h
    by_cases hlt : n < k
    · rw [insertAt, if_pos hlt, List.pairwise_cons, List.pairwise_cons]
      refine ⟨fun p hp => ?_, h⟩
      rcases List.mem_cons.mp hp with rfl | hp
      · exact hlt
      · exact lt_trans hlt (h.1 p hp)
    · simp only [insertAt, hlt, if_false, List.pairwise_cons]
      refine ⟨fun p hp => ?_, ih h.2 fun p hp => hn p (List.mem_cons_of_mem _ hp)⟩
      rcases (mem_insertAt t n v p).mp hp with rfl | hp
      · have := hn (k, w) (by simp); simp at *; omega
      · exact h.1 p hp

section
variable [Inhabited α]

@[simp] theorem look_nil (n : Nat) : look ([] : Tab α) n = default := rfl

theorem look_insertAt (t : Tab α) (n m : Nat) (v : α) (h : ∀ p ∈ t, p.1 ≠ n) :
    look (insertAt t n v) m = if m = n then v else look t m := by
  induction t with
  | nil => simp [insertAt, look, eq_comm]
  | cons q t ih =>
    obtain ⟨k, w⟩ := q
    have hk : k ≠ n := h (k, w) (by simp)
    by_cases hlt : n < k
    · simp [insertAt, hlt, look, eq_comm]
    · simp only [insertAt, hlt, if_false, look]
      rw [ih fun p hp => h p (List.mem_cons_of_mem _ hp)]
      by_cases hm : k = m
      · subst hm; simp [hk]
      · simp [hm]

theorem look_filter (t : Tab α) (n m : Nat) :
    look (t.filter fun p => p.1 != n) m = if m = n then default else look t m := by
  induction t with
  | nil => simp [look]
  | cons q t ih =>
    obtain ⟨k, w⟩ := q
    by_cases hk : k = n
    · subst hk
      by_cases hm : m = k
      · subst hm; simpa using ih
      · simp [ih, look, hm, Ne.symm hm]
    · by_cases hm : k = m
      · subst hm; simp [hk, look]
      · simp [hk, look, hm, ih]

variable [DecidableEq α]

/-- A table reads back what was written, and what it read elsewhere. -/
@[simp] theorem look_put (t : Tab α) (n m : Nat) (v : α) :
    look (put t n v) m = if m = n then v else look t m := by
  unfold put
  dsimp only
  split
  · rename_i h
    rw [look_filter, h]
  · rw [look_insertAt _ _ _ _ (by simp), look_filter]
    split <;> rfl

theorem look_upd (t : Tab α) (n m : Nat) (f : α → α) :
    look (upd t n f) m = if m = n then f (look t n) else look t m := look_put t n m _

/-- The canonical form, said once: sorted by number, and no default listed. -/
theorem tabWf_iff (t : Tab α) :
    tabWf t = true ↔ t.Pairwise (fun p q => p.1 < q.1) ∧ ∀ p ∈ t, p.2 ≠ default := by
  induction t with
  | nil => simp [tabWf]
  | cons p t ih =>
    obtain ⟨k, v⟩ := p
    cases t with
    | nil => simp [tabWf]
    | cons q t =>
      obtain ⟨m, w⟩ := q
      simp only [tabWf, Bool.and_eq_true, decide_eq_true_eq, bne_iff_ne, ih]
      rw [List.pairwise_cons (a := (k, v))]
      simp only [List.pairwise_cons, List.mem_cons, forall_eq_or_imp]
      constructor
      · rintro ⟨⟨hkm, hv⟩, ⟨hm, ht⟩, hw, hall⟩
        exact ⟨⟨⟨hkm, fun p hp => lt_trans hkm (hm p hp)⟩, hm, ht⟩, hv, hw, hall⟩
      · rintro ⟨⟨⟨hkm, -⟩, hm, ht⟩, hv, hw, hall⟩
        exact ⟨⟨hkm, hv⟩, ⟨hm, ht⟩, hw, hall⟩

/-- Every write keeps the canonical form. -/
theorem tabWf_put (t : Tab α) (n : Nat) (v : α) (h : tabWf t = true) : tabWf (put t n v) = true := by
  rw [tabWf_iff] at *
  have hf : (t.filter fun p => p.1 != n).Pairwise (fun p q => p.1 < q.1) := h.1.filter _
  unfold put
  dsimp only
  split
  · exact ⟨hf, fun p hp => h.2 p (List.mem_of_mem_filter hp)⟩
  · rename_i hv
    refine ⟨pairwise_insertAt _ _ _ hf (by simp), fun p hp => ?_⟩
    rcases (mem_insertAt _ n v p).mp hp with rfl | hp
    · exact hv
    · exact h.2 p (List.mem_of_mem_filter hp)

theorem tabWf_upd (t : Tab α) (n : Nat) (f : α → α) (h : tabWf t = true) : tabWf (upd t n f) = true :=
  tabWf_put t n _ h

@[simp] theorem tabWf_nil : tabWf ([] : Tab α) = true := rfl

/-- A table in canonical form lists exactly the records that differ from the default. -/
theorem mem_iff_look (t : Tab α) (h : tabWf t = true) (n : Nat) (v : α) :
    (n, v) ∈ t ↔ look t n = v ∧ v ≠ default := by
  rw [tabWf_iff] at h
  induction t with
  | nil => simp only [List.not_mem_nil, look_nil, false_iff, not_and, not_not]; exact fun h => h.symm
  | cons q t ih =>
    obtain ⟨k, w⟩ := q
    rw [List.pairwise_cons] at h
    have ih := ih ⟨h.1.2, fun p hp => h.2 p (List.mem_cons_of_mem _ hp)⟩
    by_cases hk : k = n
    · subst hk
      simp only [List.mem_cons, Prod.mk.injEq, true_and, look, if_true]
      constructor
      · rintro (rfl | hm)
        · exact ⟨rfl, h.2 (k, v) (by simp)⟩
        · exact absurd (h.1.1 _ hm) (lt_irrefl _)
      · rintro ⟨rfl, -⟩; exact .inl rfl
    · simp [look, hk, ih, Ne.symm hk]

end

end Sys2Proof.Machine
end

