-- ==== Sys2Proof/Laws/Events.lean ====
section
/-! SUPPORT. What ends an event (`settleEvent`), that own writes stay placed, and what the completion of a command places:
each said once, for the statements about the rows. -/

namespace Sys2Proof.Machine

/-! ### The end of an event -/

/-- No dispatch pass starts where links, selector, relay table and lists are as they were (R81). -/
theorem passStarts_eq_false {old s : State} (hs : s.sup = old.sup) (ht : s.relay.table = old.relay.table)
    (hw : s.relay.waitList = old.relay.waitList) (hr : s.relay.retryList = old.relay.retryList) :
    passStarts old s = false := by
  have hl (k) : linkOf s k = linkOf old k := by simp [linkOf, hs]
  have hroom (k) : hasRoom s k = hasRoom old k := by simp [hasRoom, hl, postedOn, ht]
  simp [passStarts, hl, hroom, hs, hw, hr]

theorem settleEvent_of_not_passStarts {old s : State} (h : passStarts old s = false) :
    settleEvent old s = judgeFinisher (tryTake s) := by
  simp [settleEvent, h]

/-- What the end of an event leaves alone where no dispatch pass starts. -/
theorem settleEvent_quiet {old s : State} (h : passStarts old s = false) :
    (settleEvent old s).sup = s.sup ∧ (settleEvent old s).cmd = s.cmd ∧
    (settleEvent old s).relay.table = s.relay.table ∧ (settleEvent old s).relay.waitList = s.relay.waitList ∧
    (settleEvent old s).relay.retryList = s.relay.retryList := by
  rw [settleEvent_of_not_passStarts h]
  have : (tryTake s).relay.table = s.relay.table ∧ (tryTake s).relay.waitList = s.relay.waitList ∧
      (tryTake s).relay.retryList = s.relay.retryList := by
    unfold tryTake
    repeat' split
    all_goals simp
  simp [this]

/-! ### Parts that are kept -/

@[simp] theorem keeps_nil (s t : State) : keeps [] s t ↔ t.pending = s.pending := by
  simp [keeps]

@[simp] theorem keeps_cons (p : Part) (l : List Part) (s t : State) :
    keeps (p :: l) s t ↔ p.same s t ∧ keeps l s t := by
  simp [keeps]
  tauto

theorem Part.same_refl (p : Part) (s : State) : p.same s s := by
  cases p <;> rfl

theorem Part.same_trans {p : Part} {s t u : State} (h : p.same s t) (h' : p.same t u) : p.same s u := by
  cases p <;> exact Eq.trans h' h

theorem keeps.refl (l : List Part) (s : State) : keeps l s s := ⟨rfl, fun p _ => p.same_refl s⟩

theorem keeps.trans {l : List Part} {s t u : State} (h : keeps l s t) (h' : keeps l t u) : keeps l s u :=
  ⟨h'.1.trans h.1, fun p hp => Part.same_trans (h.2 p hp) (h'.2 p hp)⟩

theorem keeps.mono {l m : List Part} {s t : State} (h : keeps l s t) (hm : m ⊆ l) : keeps m s t :=
  ⟨h.1, fun p hp => h.2 p (hm hp)⟩

/-! ### Own writes stay placed -/

theorem placed.mono {s t : State} {w : OwnWrite} (h : placed s w) (g : grows s.path t.path) : placed t w := by
  obtain ⟨v, hv, e⟩ := h
  obtain ⟨⟨q, hq⟩, r, hr⟩ := g
  refine ⟨v, ?_, e⟩
  rw [hq, hr]
  simp only [List.mem_append] at *
  tauto

/-- An own write that is placed is placed (R47). -/
theorem placeWrite_placed (w : OwnWrite) (s : State) : placed (placeWrite w s) w := by
  unfold placeWrite
  split
  · exact ⟨{ w with seq := s.path.seq }, by simp, rfl⟩
  · exact ⟨w, by simp, rfl⟩

/-! ### A command fetch that returns -/

/-- Where the fetch of the record at `addr` returns to a free engine, its command becomes the command in progress (R180). -/
theorem beginJob_eq {s : State} {addr index size : Nat} (h : fetchReturns s addr index size) (r : Option Request)
    (code : Nat) (notify : Bool) :
    beginJob r code notify s = some { answered s with cmd := { (answered s).cmd with
      fetching := none
      job := some { request := r, code := code, notify := notify, addr := addr, index := index, size := size,
                    done := none } } } := by
  obtain ⟨h1, h2, h3⟩ := h
  simp [beginJob, h1, h2, h3]

/-- What a returned fetch does with a record that names a command: the hand-over, and the end of the event. -/
theorem commandFetched_eq {s : State} {addr index size : Nat} (h : fetchReturns s addr index size) (q : Request)
    (code : Nat) (notify : Bool) :
    commandFetched (some q) code notify s = settleEvent s (handCommand q { answered s with cmd := { (answered s).cmd with
      fetching := none
      job := some { request := some q, code := code, notify := notify, addr := addr, index := index, size := size,
                    done := none } } }) := by
  simp [commandFetched, beginJob_eq h]

/-- A projection of the state that a command's block, the end of the event and the fetch leave alone stays. -/
theorem commandFetched_proj {α : Type} (f : State → α) {q : Request} {c : Nat} {n : Bool} {s : State}
    (h1 : ∀ u, f (handCommand q u) = f u) (h2 : ∀ u, f (settleEvent s u) = f u)
    (h3 : ∀ u, beginJob (some q) c n s = some u → f u = f s) (h4 : f (answered s) = f s) :
    f (commandFetched (some q) c n s) = f s := by
  unfold commandFetched
  split
  · split
    · exact h4
    · rfl
  · exact (h2 _).trans ((h1 _).trans (h3 _ ‹_›))

/-- The parts that a command's block, the end of the event and the fetch leave alone stay. -/
theorem keeps_commandFetched {l : List Part} {q : Request} {c : Nat} {n : Bool} {s : State}
    (h1 : ∀ u, keeps l u (handCommand q u)) (h2 : ∀ u, keeps l u (settleEvent s u))
    (h3 : ∀ u, beginJob (some q) c n s = some u → keeps l s u) (h4 : keeps l s (answered s)) :
    keeps l s (commandFetched (some q) c n s) := by
  unfold commandFetched
  split
  · split
    · exact h4
    · exact .refl _ _
  · exact ((h3 _ ‹_›).trans (h1 _)).trans (h2 _)

end Sys2Proof.Machine
end

