-- ==== Sys2Proof/Laws/PerInstr.lean ====
section
/-! SUPPORT. One family of statements made row by row: a row's operands are well formed exactly where the transaction it
brings, if it brings one, is of the transaction form. -/

namespace Sys2Proof.Laws.Carried

/-- What makes the operands of a row well formed. -/
def Statement (i : Instr) : Prop := i.wellFormed = true ↔ ∀ t, i.txn = some t → t.wellFormed = true

theorem of_txn {i : Instr} {t : Txn} (h : i.txn = some t) : Statement i := by
  simp [Statement, Instr.wellFormed, h]

theorem of_none {i : Instr} (h : i.txn = none) : Statement i := by
  simp [Statement, Instr.wellFormed, h]

theorem pinReset (baseSel : BitVec 4) : Statement (.pinReset baseSel) := of_none rfl
theorem navByte (b : Byte) : Statement (.navByte b) := of_none rfl
theorem navFramingError : Statement .navFramingError := of_none rfl
theorem fixLossExpiry : Statement .fixLossExpiry := of_none rfl
theorem linkCarrierChange (link : Fin 4) (high : Bool) : Statement (.linkCarrierChange link high) := of_none rfl
theorem lostGraceExpiry : Statement .lostGraceExpiry := of_none rfl
theorem backhaulLossExpiry : Statement .backhaulLossExpiry := of_none rfl
theorem warmUpExpiry : Statement .warmUpExpiry := of_none rfl
theorem drainExpiry : Statement .drainExpiry := of_none rfl
theorem darkMinimumExpiry : Statement .darkMinimumExpiry := of_none rfl
theorem probationExpiry (link : Fin 4) : Statement (.probationExpiry link) := of_none rfl
theorem completionTimeoutExpiry (link : Fin 4) : Statement (.completionTimeoutExpiry link) := of_none rfl
theorem deferredSwapExpiry : Statement .deferredSwapExpiry := of_none rfl
theorem headAgeExpiry : Statement .headAgeExpiry := of_none rfl
theorem closeWaitLimitExpiry (place : Nat) : Statement (.closeWaitLimitExpiry place) := of_none rfl
theorem ageExpiry (line : Fin 64) : Statement (.ageExpiry line) := of_none rfl
theorem stopPostedWaitExpiry : Statement .stopPostedWaitExpiry := of_none rfl
theorem passingTransaction (t : Txn) : Statement (.passingTransaction t) := of_txn rfl
theorem controlBlockWrite (t : Txn) : Statement (.controlBlockWrite t) := of_txn rfl
theorem commandRingLatch (t : Txn) : Statement (.commandRingLatch t) := of_txn rfl
theorem reportRingLatch (t : Txn) : Statement (.reportRingLatch t) := of_txn rfl
theorem commandProducerIndexWrite (t : Txn) : Statement (.commandProducerIndexWrite t) := of_txn rfl
theorem reportConsumerIndexWrite (t : Txn) : Statement (.reportConsumerIndexWrite t) := of_txn rfl
theorem accountTableRead (t : Txn) : Statement (.accountTableRead t) := of_txn rfl
theorem accountTableWrite (t : Txn) : Statement (.accountTableWrite t) := of_txn rfl
theorem uplinkRingWrite (t : Txn) : Statement (.uplinkRingWrite t) := of_txn rfl
theorem downlinkDescriptor (t : Txn) : Statement (.downlinkDescriptor t) := of_txn rfl
theorem linkRingWrite (t : Txn) : Statement (.linkRingWrite t) := of_txn rfl
theorem holdRelease : Statement .holdRelease := of_none rfl
theorem arbiterIssue : Statement .arbiterIssue := of_none rfl
theorem ownWriteEntersQueue : Statement .ownWriteEntersQueue := of_none rfl
theorem passingResponse (ok : Bool) (data : List Byte) : Statement (.passingResponse ok data) := of_none rfl
theorem ownTransactionError (ahead : Nat) : Statement (.ownTransactionError ahead) := of_none rfl
theorem takeReadDone (data : Vector Byte 16) : Statement (.takeReadDone data) := of_none rfl
theorem fillDone (data : Vector Byte 64) : Statement (.fillDone data) := of_none rfl
theorem writeBackDone : Statement .writeBackDone := of_none rfl
theorem lineGrant (line : Fin 64) : Statement (.lineGrant line) := of_none rfl
theorem waitingEventRelease : Statement .waitingEventRelease := of_none rfl
theorem commandFetchDone (record : Vector Byte 128) : Statement (.commandFetchDone record) := of_none rfl
theorem reportConsumerReadDone (data : Vector Byte 16) : Statement (.reportConsumerReadDone data) := of_none rfl
theorem billingReportPlaced : Statement .billingReportPlaced := of_none rfl
theorem stopStepAdvance : Statement .stopStepAdvance := of_none rfl
theorem stopHaltedClear : Statement .stopHaltedClear := of_none rfl
theorem configure (notify : Bool) (p : ConfigureParams) : Statement (.configure notify p) := of_none rfl
theorem start (notify : Bool) : Statement (.start notify) := of_none rfl
theorem stop (notify : Bool) : Statement (.stop notify) := of_none rfl
theorem loadZone (notify : Bool) (p : LoadZoneParams) : Statement (.loadZone notify p) := of_none rfl
theorem position (notify : Bool) (p : PositionParams) : Statement (.position notify p) := of_none rfl
theorem coverageHold (notify : Bool) : Statement (.coverageHold notify) := of_none rfl
theorem coverageRelease (notify : Bool) : Statement (.coverageRelease notify) := of_none rfl
theorem loadLink (notify : Bool) (p : LoadLinkParams) : Statement (.loadLink notify p) := of_none rfl
theorem linkEnable (notify : Bool) (link : BitVec 8) : Statement (.linkEnable notify link) := of_none rfl
theorem linkReset (notify : Bool) (link : BitVec 8) : Statement (.linkReset notify link) := of_none rfl
theorem linkQuality (notify : Bool) (link score : BitVec 8) :
    Statement (.linkQuality notify link score) := of_none rfl
theorem linkForce (notify : Bool) (link : BitVec 8) : Statement (.linkForce notify link) := of_none rfl
theorem setSchedule (notify : Bool) (p : SetScheduleParams) : Statement (.setSchedule notify p) := of_none rfl
theorem loadTariff (notify : Bool) (p : LoadTariffParams) : Statement (.loadTariff notify p) := of_none rfl
theorem openAccount (notify : Bool) (p : OpenAccountParams) : Statement (.openAccount notify p) := of_none rfl
theorem grant (notify : Bool) (p : GrantParams) : Statement (.grant notify p) := of_none rfl
theorem suspend (notify : Bool) (account : BitVec 16) : Statement (.suspend notify account) := of_none rfl
theorem resume (notify : Bool) (account : BitVec 16) : Statement (.resume notify account) := of_none rfl
theorem closeAccount (notify : Bool) (account : BitVec 16) : Statement (.closeAccount notify account) := of_none rfl
theorem loadPartner (notify : Bool) (p : LoadPartnerParams) : Statement (.loadPartner notify p) := of_none rfl
theorem settle (notify : Bool) : Statement (.settle notify) := of_none rfl
theorem flush (notify : Bool) : Statement (.flush notify) := of_none rfl
theorem radioDownlinkRingWrite (t : Txn) : Statement (.radioDownlinkRingWrite t) := of_txn rfl

end Sys2Proof.Laws.Carried
end

