-- ==== Sys2Proof/Laws/RfKept.lean ====
section
/-! SUPPORT. The RF law (R29) through each operation: coverage leaves DARK in RUNNING only, and DARK is entered with
    every exit from
RUNNING. -/

namespace Sys2Proof.Machine

/-- The RF law of a coverage state and a run state (R29). -/
def Rf (c : CovState) (r : RunState) : Prop := c = .dark ∨ r = .running

theorem Rf.dark (r : RunState) : Rf .dark r := .inl rfl
theorem Rf.running (c : CovState) : Rf c .running := .inr rfl

theorem rfLaw_iff (s : State) : rfLaw s = true ↔ Rf s.cov.st s.cmd.run := by
  simp [rfLaw, Rf]

theorem rf_foldl {α : Type} {f : State → α → State}
    (hf : ∀ s a, Rf s.cov.st s.cmd.run → Rf (f s a).cov.st (f s a).cmd.run) (l : List α) {s : State}
    (hp : Rf s.cov.st s.cmd.run) : Rf (l.foldl f s).cov.st (l.foldl f s).cmd.run :=
  List.foldlRecOn (motive := fun t => Rf t.cov.st t.cmd.run) l f hp fun t ht a _ => hf t a ht

theorem placeWrite_rf (w : OwnWrite) {s : State} (hp : Rf s.cov.st s.cmd.run) :
    Rf (placeWrite w s).cov.st (placeWrite w s).cmd.run := by
  simpa using hp

theorem issueRead_rf (b : Block) (addr : Nat) (beats : Nat) (use : ReadUse) {s : State} (hp : Rf s.cov.st s.cmd.run) :
    Rf (issueRead b addr beats use s).cov.st (issueRead b addr beats use s).cmd.run := by
  simpa using hp

theorem pumpReports_rf (n : Nat) {s : State} (hp : Rf s.cov.st s.cmd.run) :
    Rf (pumpReports n s).cov.st (pumpReports n s).cmd.run := by
  simpa using hp

theorem runReports_rf  {s : State} (hp : Rf s.cov.st s.cmd.run) :
    Rf (runReports s).cov.st (runReports s).cmd.run := by
  simpa using hp

theorem placeReport_rf (r : Report) {s : State} (hp : Rf s.cov.st s.cmd.run) :
    Rf (placeReport r s).cov.st (placeReport r s).cmd.run := by
  simpa using hp

theorem offerEvent_rf (r : Report) {s : State} (hp : Rf s.cov.st s.cmd.run) :
    Rf (offerEvent r s).cov.st (offerEvent r s).cmd.run := by
  simpa using hp

theorem event_rf (kind : Nat) (cause : Nat) (flags : Nat) (fields : List (Nat × Nat × Nat)) {s : State} (hp : Rf
    s.cov.st s.cmd.run) :
    Rf (event kind cause flags fields s).cov.st (event kind cause flags fields s).cmd.run := by
  simpa using hp

theorem tryFetch_rf  {s : State} (hp : Rf s.cov.st s.cmd.run) :
    Rf (tryFetch s).cov.st (tryFetch s).cmd.run := by
  simpa using hp

theorem applyLatch_rf (l : Latch) {s : State} (hp : Rf s.cov.st s.cmd.run) :
    Rf (applyLatch l s).cov.st (applyLatch l s).cmd.run := by
  simpa using hp

theorem applyLatches_rf  {s : State} (hp : Rf s.cov.st s.cmd.run) :
    Rf (applyLatches s).cov.st (applyLatches s).cmd.run := by
  simpa using hp

theorem finishJob_rf  {s : State} (hp : Rf s.cov.st s.cmd.run) :
    Rf (finishJob s).cov.st (finishJob s).cmd.run := by
  simpa using hp

theorem writeConsumer_rf  {s : State} (hp : Rf s.cov.st s.cmd.run) :
    Rf (writeConsumer s).cov.st (writeConsumer s).cmd.run := by
  simpa using hp

theorem writeStatus_rf  {s : State} (hp : Rf s.cov.st s.cmd.run) :
    Rf (writeStatus s).cov.st (writeStatus s).cmd.run := by
  simpa using hp

theorem complete_rf (st : Status) (vals : List (Nat × Nat)) (rewrites : List (Nat × Nat × Nat)) {s : State} (hp : Rf
    s.cov.st s.cmd.run) :
    Rf (complete st vals rewrites s).cov.st (complete st vals rewrites s).cmd.run := by
  simpa using hp

theorem refuse_rf (st : Status) {s : State} (hp : Rf s.cov.st s.cmd.run) :
    Rf (refuse st s).cov.st (refuse st s).cmd.run := by
  simpa using hp

theorem covMove_st (new : CovState) (cause : CovCause) (s : State) : (covMove new cause s).cov.st = new := by
  cases new <;> simp [covMove]

theorem covMove_rf (new : CovState) (cause : CovCause) {s : State} (hp : Rf new s.cmd.run) :
    Rf (covMove new cause s).cov.st (covMove new cause s).cmd.run := by
  simpa [covMove_st] using hp

theorem running_of_allowed {s : State} (h : allowed s = true) : s.cmd.run = .running := by
  simp [allowed] at h
  exact h.1.1.1

theorem running_of_openingStands {s : State} (h : openingStands s = true) : s.cmd.run = .running := by
  simp [openingStands] at h
  exact h.1.1

theorem running_of_openingTestPasses {s : State} (h : openingTestPasses s = true) : s.cmd.run = .running := by
  simp [openingTestPasses] at h
  exact running_of_allowed h.1.1.2

theorem openingTest_rf {s : State} (hp : Rf s.cov.st s.cmd.run) :
    Rf (openingTest s).cov.st (openingTest s).cmd.run := by
  unfold openingTest
  split
  · have hr := running_of_openingTestPasses ‹_›
    dsimp only
    split <;> simp [hr, Rf.running]
  · exact hp

theorem covDark_rf (cause : CovCause) (s : State) : Rf (covDark cause s).cov.st (covDark cause s).cmd.run := by
  have h := covMove_rf .dark cause (s := s) (.dark _)
  unfold covDark
  dsimp only
  split
  · exact openingTest_rf h
  · exact h

theorem Rf.of_ne {c : CovState} {r : RunState} (h : Rf c r) (hc : c ≠ .dark) (new : CovState) : Rf new r :=
  .inr (h.resolve_left hc)

theorem covAttr_rf (c : Cover) {s : State} (hp : Rf s.cov.st s.cmd.run) :
    Rf (covAttr c s).cov.st (covAttr c s).cmd.run := by
  unfold covAttr
  split
  all_goals first
    | exact openingTest_rf hp
    | exact covDark_rf _ _
    | exact covMove_rf _ _ (hp.of_ne (by simp [*]) _)
    | exact hp

/-- Once the run state is another than RUNNING, coverage is DARK (R28). -/
theorem covLeaveRunning_dark {s : State} (h : s.cmd.run ≠ .running) : (covLeaveRunning s).cov.st = .dark := by
  have : ∀ cause, (covDark cause s).cov.st = .dark := fun cause =>
    (covDark_rf cause s).resolve_right (by simpa using h)
  unfold covLeaveRunning
  split <;> simp [*]

theorem covLeaveRunning_rf {s : State} (h : s.cmd.run ≠ .running) :
    Rf (covLeaveRunning s).cov.st (covLeaveRunning s).cmd.run :=
  .inl (covLeaveRunning_dark h)

theorem covClose_rf (cause : CovCause) {s : State} (hp : Rf s.cov.st s.cmd.run) :
    Rf (covClose cause s).cov.st (covClose cause s).cmd.run := by
  unfold covClose
  split
  · exact covDark_rf _ _
  · exact covMove_rf _ _ (hp.of_ne (by simp [*]) _)
  · exact hp

theorem covPositionLost_rf  {s : State} (hp : Rf s.cov.st s.cmd.run) :
    Rf (covPositionLost s).cov.st (covPositionLost s).cmd.run := by
  unfold covPositionLost
  (repeat first | with_reducible exact hp | with_reducible apply covClose_rf | dsimp only | split)

theorem covBackhaul_rf (present : Bool) {s : State} (hp : Rf s.cov.st s.cmd.run) :
    Rf (covBackhaul present s).cov.st (covBackhaul present s).cmd.run := by
  unfold covBackhaul
  (repeat first | with_reducible exact hp | with_reducible apply openingTest_rf | dsimp only | split)

theorem covHold_rf  {s : State} (hp : Rf s.cov.st s.cmd.run) :
    Rf (covHold s).cov.st (covHold s).cmd.run := by
  unfold covHold
  (repeat first | with_reducible exact hp | with_reducible apply covClose_rf | dsimp only | split)

theorem covRelease_rf  {s : State} (hp : Rf s.cov.st s.cmd.run) :
    Rf (covRelease s).cov.st (covRelease s).cmd.run := by
  unfold covRelease
  (repeat first | with_reducible exact hp | with_reducible apply openingTest_rf | dsimp only | split)

theorem lostGraceExpiry_rf  {s : State} (hp : Rf s.cov.st s.cmd.run) :
    Rf (lostGraceExpiry s).cov.st (lostGraceExpiry s).cmd.run := by
  unfold lostGraceExpiry
  (repeat first | with_reducible exact hp | with_reducible apply covClose_rf | dsimp only | split)

theorem backhaulLossExpiry_rf  {s : State} (hp : Rf s.cov.st s.cmd.run) :
    Rf (backhaulLossExpiry s).cov.st (backhaulLossExpiry s).cmd.run := by
  unfold backhaulLossExpiry
  (repeat first | with_reducible exact hp | with_reducible apply covClose_rf | dsimp only | split)

theorem warmUpExpiry_rf {s : State} (hp : Rf s.cov.st s.cmd.run) :
    Rf (warmUpExpiry s).cov.st (warmUpExpiry s).cmd.run := by
  unfold warmUpExpiry
  split
  · rename_i h
    simp only [Bool.and_eq_true] at h
    exact covMove_rf _ _ (.inr (running_of_openingStands h.2))
  · exact hp

theorem drainExpiry_rf {s : State} (hp : Rf s.cov.st s.cmd.run) :
    Rf (drainExpiry s).cov.st (drainExpiry s).cmd.run := by
  unfold drainExpiry
  split
  · exact covDark_rf _ _
  · exact hp

theorem darkMinimumExpiry_rf  {s : State} (hp : Rf s.cov.st s.cmd.run) :
    Rf (darkMinimumExpiry s).cov.st (darkMinimumExpiry s).cmd.run := by
  unfold darkMinimumExpiry
  (repeat first | with_reducible exact hp | with_reducible apply openingTest_rf | dsimp only | split)

theorem recomputeFlag_rf (cause : Nat) (p : Nat) {s : State} (hp : Rf s.cov.st s.cmd.run) :
    Rf (recomputeFlag cause p s).cov.st (recomputeFlag cause p s).cmd.run := by
  simpa using hp

theorem settlePublish_rf (region : Nat) {s : State} (hp : Rf s.cov.st s.cmd.run) :
    Rf (settlePublish region s).cov.st (settlePublish region s).cmd.run := by
  simpa using hp

theorem addAccum_rf (pair : Nat) (charge : Nat) (up : Nat) (down : Nat) (events : Nat) {s : State} (hp : Rf s.cov.st
    s.cmd.run) :
    Rf (addAccum pair charge up down events s).cov.st (addAccum pair charge up down events s).cmd.run := by
  simpa using hp

theorem cutPair_rf (w : Walk) (pair : Nat) {s : State} (hp : Rf s.cov.st s.cmd.run) :
    Rf (cutPair w pair s).cov.st (cutPair w pair s).cmd.run := by
  simpa using hp

theorem endWalk_rf (w : Walk) {s : State} (hp : Rf s.cov.st s.cmd.run) :
    Rf (endWalk w s).cov.st (endWalk w s).cmd.run := by
  simpa using hp

theorem runWalk_rf (n : Nat) {s : State} (hp : Rf s.cov.st s.cmd.run) :
    Rf (runWalk n s).cov.st (runWalk n s).cmd.run := by
  simpa using hp

theorem goOnWalk_rf  {s : State} (hp : Rf s.cov.st s.cmd.run) :
    Rf (goOnWalk s).cov.st (goOnWalk s).cmd.run := by
  simpa using hp

theorem beginWalk_rf (stopCause : Bool) {s : State} (hp : Rf s.cov.st s.cmd.run) :
    Rf (beginWalk stopCause s).cov.st (beginWalk stopCause s).cmd.run := by
  simpa using hp

theorem setEntry_rf (e : Nat) (en : Entry) {s : State} (hp : Rf s.cov.st s.cmd.run) :
    Rf (setEntry e en s).cov.st (setEntry e en s).cmd.run := by
  simpa using hp

theorem setLink_rf (k : Nat) (l : Link) {s : State} (hp : Rf s.cov.st s.cmd.run) :
    Rf (setLink k l s).cov.st (setLink k l s).cmd.run := by
  simpa using hp

theorem tryTake_rf  {s : State} (hp : Rf s.cov.st s.cmd.run) :
    Rf (tryTake s).cov.st (tryTake s).cmd.run := by
  simpa using hp

theorem freeEntry_rf (e : Nat) {s : State} (hp : Rf s.cov.st s.cmd.run) :
    Rf (freeEntry e s).cov.st (freeEntry e s).cmd.run := by
  simpa using hp

theorem endEntry_rf (inPass : Bool) (e : Nat) (f : Final) (link : Option Nat) {s : State} (hp : Rf s.cov.st
    s.cmd.run) :
    Rf (endEntry inPass e f link s).cov.st (endEntry inPass e f link s).cmd.run := by
  simpa using hp

theorem installSchedule_rf (sch : Schedule) {s : State} (hp : Rf s.cov.st s.cmd.run) :
    Rf (installSchedule sch s).cov.st (installSchedule sch s).cmd.run := by
  simpa using hp

theorem scheduleModeChange_rf  {s : State} (hp : Rf s.cov.st s.cmd.run) :
    Rf (scheduleModeChange s).cov.st (scheduleModeChange s).cmd.run := by
  simpa using hp

theorem examine_rf (n : Nat) (m : Nat) {s : State} (hp : Rf s.cov.st s.cmd.run) :
    Rf (examine n m s).1.cov.st (examine n m s).1.cmd.run := by
  simpa using hp

theorem chooseWaiting_rf  {s : State} (hp : Rf s.cov.st s.cmd.run) :
    Rf (chooseWaiting s).1.cov.st (chooseWaiting s).1.cmd.run := by
  simpa using hp

theorem markPosted_rf (e : Nat) (k : Nat) {s : State} (hp : Rf s.cov.st s.cmd.run) :
Rf (markPosted e k s).cov.st (markPosted e k s).cmd.run := by
  simpa using hp

theorem post_rf (e : Nat) (k : Nat) {s : State} (hp : Rf s.cov.st s.cmd.run) :
    Rf (post e k s).cov.st (post e k s).cmd.run := by
  simpa using hp

theorem dropPosts_rf (cut : Nat → Bool) {s : State} (hp : Rf s.cov.st s.cmd.run) :
Rf (dropPosts cut s).cov.st (dropPosts cut s).cmd.run := by
  simpa using hp

theorem judgeHead_rf (retry : Bool) (e : Nat) {s : State} (hp : Rf s.cov.st s.cmd.run) :
    Rf (judgeHead retry e s).1.cov.st (judgeHead retry e s).1.cmd.run := by
  simpa using hp

theorem passLoop_rf (n : Nat) {s : State} (hp : Rf s.cov.st s.cmd.run) :
    Rf (passLoop n s).cov.st (passLoop n s).cmd.run := by
  simpa using hp

theorem dispatchPass_rf  {s : State} (hp : Rf s.cov.st s.cmd.run) :
    Rf (dispatchPass s).cov.st (dispatchPass s).cmd.run := by
  simpa using hp

theorem uncount_rf (e : Nat) {s : State} (hp : Rf s.cov.st s.cmd.run) :
    Rf (uncount e s).cov.st (uncount e s).cmd.run := by
  simpa using hp

theorem toRetry_rf (e : Nat) {s : State} (hp : Rf s.cov.st s.cmd.run) :
    Rf (toRetry e s).cov.st (toRetry e s).cmd.run := by
  simpa using hp

theorem failEntry_rf (e : Nat) {s : State} (hp : Rf s.cov.st s.cmd.run) :
    Rf (failEntry e s).cov.st (failEntry e s).cmd.run := by
  simpa using hp

theorem releaseLink_rf (k : Nat) {s : State} (hp : Rf s.cov.st s.cmd.run) :
    Rf (releaseLink k s).cov.st (releaseLink k s).cmd.run := by
  simpa using hp

theorem setLine_rf (i : Nat) (l : Line) {s : State} (hp : Rf s.cov.st s.cmd.run) :
    Rf (setLine i l s).cov.st (setLine i l s).cmd.run := by
  simpa using hp

theorem beginWriteBack_rf (i : Nat) {s : State} (hp : Rf s.cov.st s.cmd.run) :
    Rf (beginWriteBack i s).cov.st (beginWriteBack i s).cmd.run := by
  simpa using hp

theorem touchLine_rf (i : Nat) {s : State} (hp : Rf s.cov.st s.cmd.run) :
    Rf (touchLine i s).cov.st (touchLine i s).cmd.run := by
  simpa using hp

theorem assignVictim_rf (i : Nat) (m : Miss) {s : State} (hp : Rf s.cov.st s.cmd.run) :
    Rf (assignVictim i m s).cov.st (assignVictim i m s).cmd.run := by
  simpa using hp

theorem beginEvictions_rf (n : Nat) {s : State} (hp : Rf s.cov.st s.cmd.run) :
    Rf (beginEvictions n s).cov.st (beginEvictions n s).cmd.run := by
  simpa using hp

theorem endEviction_rf (i : Nat) {s : State} (hp : Rf s.cov.st s.cmd.run) :
Rf (endEviction i s).cov.st (endEviction i s).cmd.run := by
  simpa using hp

theorem seekVictims_rf (n : Nat) {s : State} (hp : Rf s.cov.st s.cmd.run) :
    Rf (seekVictims n s).cov.st (seekVictims n s).cmd.run := by
  simpa using hp

theorem serveMisses_rf  {s : State} (hp : Rf s.cov.st s.cmd.run) :
    Rf (serveMisses s).cov.st (serveMisses s).cmd.run := by
  simpa using hp

theorem requestLine_rf (r : Requester) (a : Nat) {s : State} (hp : Rf s.cov.st s.cmd.run) :
    Rf (requestLine r a s).cov.st (requestLine r a s).cmd.run := by
  simpa using hp

theorem mapLines_rf (f : Line → Line) {s : State} (hp : Rf s.cov.st s.cmd.run) :
    Rf (mapLines f s).cov.st (mapLines f s).cmd.run := by
  simpa using hp

theorem withdraw_rf (r : Requester) {s : State} (hp : Rf s.cov.st s.cmd.run) :
    Rf (withdraw r s).cov.st (withdraw r s).cmd.run := by
  simpa using hp

theorem changeLine_rf (i : Nat) (r : AcctRec) {s : State} (hp : Rf s.cov.st s.cmd.run) :
    Rf (changeLine i r s).cov.st (changeLine i r s).cmd.run := by
  simpa using hp

theorem answerRead_rf (a : Nat) (ans : Answer) {s : State} (hp : Rf s.cov.st s.cmd.run) :
    Rf (answerRead a ans s).cov.st (answerRead a ans s).cmd.run := by
  simpa using hp

theorem readGrant_rf (i : Nat) {s : State} (hp : Rf s.cov.st s.cmd.run) :
    Rf (readGrant i s).cov.st (readGrant i s).cmd.run := by
  simpa using hp

theorem presentRead_rf (a : Nat) {s : State} (hp : Rf s.cov.st s.cmd.run) :
    Rf (presentRead a s).cov.st (presentRead a s).cmd.run := by
  simpa using hp

theorem ageExpiry_rf (i : Nat) {s : State} (hp : Rf s.cov.st s.cmd.run) :
    Rf (ageExpiry i s).cov.st (ageExpiry i s).cmd.run := by
  simpa using hp

theorem answerWaitingReads_rf  {s : State} (hp : Rf s.cov.st s.cmd.run) :
    Rf (answerWaitingReads s).cov.st (answerWaitingReads s).cmd.run := by
  simpa using hp

theorem invalidateAll_rf  {s : State} (hp : Rf s.cov.st s.cmd.run) :
    Rf (invalidateAll s).cov.st (invalidateAll s).cmd.run := by
  simpa using hp

theorem writeBackAll_rf  {s : State} (hp : Rf s.cov.st s.cmd.run) :
    Rf (writeBackAll s).cov.st (writeBackAll s).cmd.run := by
  simpa using hp

theorem swapTo_rf (t : Option Nat) (cause : SwapCause) {s : State} (hp : Rf s.cov.st s.cmd.run) :
    Rf (swapTo t cause s).cov.st (swapTo t cause s).cmd.run := by
  simpa using hp

theorem noDeferred_rf  {s : State} (hp : Rf s.cov.st s.cmd.run) :
    Rf (noDeferred s).cov.st (noDeferred s).cmd.run := by
  simpa using hp

theorem bringActive_rf (modeSwap : Bool) {s : State} (hp : Rf s.cov.st s.cmd.run) :
    Rf (bringActive modeSwap s).cov.st (bringActive modeSwap s).cmd.run := by
  simpa using hp

theorem publishBackhaul_rf  {s : State} (hp : Rf s.cov.st s.cmd.run) :
    Rf (publishBackhaul s).cov.st (publishBackhaul s).cmd.run := by
  unfold publishBackhaul
  (repeat first | with_reducible exact hp | with_reducible apply covBackhaul_rf | dsimp only | split)

theorem clearActive_rf  {s : State} (hp : Rf s.cov.st s.cmd.run) :
    Rf (clearActive s).cov.st (clearActive s).cmd.run := by
  simpa using hp

theorem tellMode_rf (old : LinkMode) {s : State} (hp : Rf s.cov.st s.cmd.run) :
    Rf (tellMode old s).cov.st (tellMode old s).cmd.run := by
  simpa using hp

theorem selectorEval_rf  {s : State} (hp : Rf s.cov.st s.cmd.run) :
    Rf (selectorEval s).cov.st (selectorEval s).cmd.run := by
  unfold selectorEval
  (repeat first | with_reducible exact hp | with_reducible apply bringActive_rf
                | with_reducible apply publishBackhaul_rf | with_reducible apply clearActive_rf
                | with_reducible apply tellMode_rf | dsimp only | split)

theorem linkStateReport_rf (k : Nat) (old : Health) (cause : LinkCause) {s : State} (hp : Rf s.cov.st s.cmd.run) :
    Rf (linkStateReport k old cause s).cov.st (linkStateReport k old cause s).cmd.run := by
  simpa using hp

theorem moveHealth_rf (k : Nat) (h : Health) (cause : LinkCause) {s : State} (hp : Rf s.cov.st s.cmd.run) :
    Rf (moveHealth k h cause s).cov.st (moveHealth k h cause s).cmd.run := by
  unfold moveHealth
  (repeat first | with_reducible exact hp | with_reducible apply setLink_rf | with_reducible apply selectorEval_rf
                | with_reducible apply linkStateReport_rf | dsimp only | split)

theorem evaluateLink_rf (k : Nat) (cause : LinkCause) {s : State} (hp : Rf s.cov.st s.cmd.run) :
    Rf (evaluateLink k cause s).cov.st (evaluateLink k cause s).cmd.run := by
  unfold evaluateLink
  (repeat first | with_reducible exact hp | with_reducible apply moveHealth_rf | dsimp only | split)

theorem carrierChange_rf (k : Nat) (high : Bool) {s : State} (hp : Rf s.cov.st s.cmd.run) :
    Rf (carrierChange k high s).cov.st (carrierChange k high s).cmd.run := by
  unfold carrierChange
  (repeat first | with_reducible exact hp | with_reducible apply setLink_rf | with_reducible apply evaluateLink_rf
                | dsimp only | split)

theorem probationExpiry_rf (k : Nat) {s : State} (hp : Rf s.cov.st s.cmd.run) :
    Rf (probationExpiry k s).cov.st (probationExpiry k s).cmd.run := by
  unfold probationExpiry
  (repeat first | with_reducible exact hp | with_reducible apply moveHealth_rf | dsimp only | split)

theorem completionTimeoutExpiry_rf (k : Nat) {s : State} (hp : Rf s.cov.st s.cmd.run) :
    Rf (completionTimeoutExpiry k s).cov.st (completionTimeoutExpiry k s).cmd.run := by
  unfold completionTimeoutExpiry
  (repeat first | with_reducible exact hp | with_reducible apply moveHealth_rf | dsimp only | split)

theorem deferredSwapExpiry_rf  {s : State} (hp : Rf s.cov.st s.cmd.run) :
    Rf (deferredSwapExpiry s).cov.st (deferredSwapExpiry s).cmd.run := by
  unfold deferredSwapExpiry
  (repeat first | with_reducible exact hp | with_reducible apply noDeferred_rf
                | with_reducible apply selectorEval_rf | dsimp only | split)

theorem linkCompleted_rf (k : Nat) {s : State} (hp : Rf s.cov.st s.cmd.run) :
    Rf (linkCompleted k s).cov.st (linkCompleted k s).cmd.run := by
  unfold linkCompleted
  (repeat first | with_reducible exact hp | with_reducible apply moveHealth_rf
                | with_reducible apply evaluateLink_rf | with_reducible apply completionTimeoutExpiry_rf
                | dsimp only | split)

theorem disableLink_rf (k : Nat) {s : State} (hp : Rf s.cov.st s.cmd.run) :
    Rf (disableLink k s).cov.st (disableLink k s).cmd.run := by
  simpa using hp

theorem disableLinks_rf (ks : List Nat) {s : State} (hp : Rf s.cov.st s.cmd.run) :
    Rf (disableLinks ks s).cov.st (disableLinks ks s).cmd.run := by
  unfold disableLinks
  (repeat first | with_reducible exact hp | with_reducible apply selectorEval_rf
                | with_reducible apply disableLink_rf | with_reducible refine rf_foldl (fun s a hp => ?_) _ ?_
                | dsimp only | split)

theorem disableAll_rf  {s : State} (hp : Rf s.cov.st s.cmd.run) :
    Rf (disableAll s).cov.st (disableAll s).cmd.run := by
  unfold disableAll
  (repeat first | with_reducible exact hp | with_reducible apply disableLinks_rf | dsimp only | split)

theorem enableLink_rf (k : Nat) {s : State} (hp : Rf s.cov.st s.cmd.run) :
    Rf (enableLink k s).cov.st (enableLink k s).cmd.run := by
  unfold enableLink
  (repeat first | with_reducible exact hp | with_reducible apply setLink_rf | with_reducible apply moveHealth_rf
                | with_reducible apply evaluateLink_rf | dsimp only | split)

theorem resetLink_rf (k : Nat) {s : State} (hp : Rf s.cov.st s.cmd.run) :
Rf (resetLink k s).cov.st (resetLink k s).cmd.run := by
  unfold resetLink
  (repeat first | with_reducible exact hp | with_reducible apply setLink_rf | with_reducible apply releaseLink_rf
                | with_reducible apply selectorEval_rf | with_reducible apply linkStateReport_rf
                | with_reducible apply dropPosts_rf | dsimp only | split)

theorem discard_rf  {s : State} (hp : Rf s.cov.st s.cmd.run) :
    Rf (discard s).cov.st (discard s).cmd.run := by
  simpa using hp

theorem setRx_rf (p : Rx × List Byte) {s : State} (hp : Rf s.cov.st s.cmd.run) :
    Rf (setRx p s).cov.st (setRx p s).cmd.run := by
  simpa using hp

theorem zoneReport_rf (z : Zone) (cause : ZoneCause) (prev : Option Nat) (coords : Option (Int × Int)) {s : State}
    (hp : Rf s.cov.st s.cmd.run) :
    Rf (zoneReport z cause prev coords s).cov.st (zoneReport z cause prev coords s).cmd.run := by
  simpa using hp

theorem publishZone_rf (cause : ZoneCause) (prev : Option Nat) (coords : Option (Int × Int)) {s : State} (hp : Rf
    s.cov.st s.cmd.run) :
    Rf (publishZone cause prev coords s).cov.st (publishZone cause prev coords s).cmd.run := by
  unfold publishZone
  (repeat first | with_reducible exact hp | with_reducible apply covAttr_rf | with_reducible apply settlePublish_rf
                | with_reducible apply selectorEval_rf | with_reducible apply zoneReport_rf | dsimp only | split)

theorem becomeCurrent_rf (z : Nat) (cause : ZoneCause) (coords : Option (Int × Int)) {s : State} (hp : Rf s.cov.st
    s.cmd.run) :
    Rf (becomeCurrent z cause coords s).cov.st (becomeCurrent z cause coords s).cmd.run := by
  unfold becomeCurrent
  (repeat first | with_reducible exact hp | with_reducible apply publishZone_rf | dsimp only | split)

theorem evaluatePending_rf (c : Nat) (lat : Int) (lon : Int) {s : State} (hp : Rf s.cov.st s.cmd.run) :
    Rf (evaluatePending c lat lon s).cov.st (evaluatePending c lat lon s).cmd.run := by
  unfold evaluatePending
  (repeat first | with_reducible exact hp | with_reducible apply becomeCurrent_rf | dsimp only | split)

theorem evaluateZone_rf (lat : Int) (lon : Int) {s : State} (hp : Rf s.cov.st s.cmd.run) :
    Rf (evaluateZone lat lon s).cov.st (evaluateZone lat lon s).cmd.run := by
  unfold evaluateZone
  (repeat first | with_reducible exact hp | with_reducible apply becomeCurrent_rf
                | with_reducible apply evaluatePending_rf | dsimp only | split)

theorem positionReport_rf (cause : PosCause) {s : State} (hp : Rf s.cov.st s.cmd.run) :
    Rf (positionReport cause s).cov.st (positionReport cause s).cmd.run := by
  simpa using hp

theorem positionValid_rf  {s : State} (hp : Rf s.cov.st s.cmd.run) :
    Rf (positionValid s).cov.st (positionValid s).cmd.run := by
  unfold positionValid
  (repeat first | with_reducible exact hp | with_reducible apply openingTest_rf
                | with_reducible apply positionReport_rf | dsimp only | split)

theorem takeFix_rf (quality : Nat) (lat : Int) (lon : Int) (source : FixSource) {s : State} (hp : Rf s.cov.st
    s.cmd.run) :
    Rf (takeFix quality lat lon source s).cov.st (takeFix quality lat lon source s).cmd.run := by
  unfold takeFix
  (repeat first | with_reducible exact hp | with_reducible apply evaluateZone_rf
                | with_reducible apply positionValid_rf | dsimp only | split)

theorem judgeFrame_rf (buf : List Byte) {s : State} (hp : Rf s.cov.st s.cmd.run) :
    Rf (judgeFrame buf s).cov.st (judgeFrame buf s).cmd.run := by
  unfold judgeFrame
  (repeat first | with_reducible exact hp | with_reducible apply discard_rf | with_reducible apply setRx_rf
                | with_reducible apply takeFix_rf | with_reducible refine rf_foldl (fun s a hp => ?_) _ ?_
                | dsimp only | split)

theorem navByte_rf (b : Byte) {s : State} (hp : Rf s.cov.st s.cmd.run) :
    Rf (navByte b s).cov.st (navByte b s).cmd.run := by
  unfold navByte
  (repeat first | with_reducible exact hp | with_reducible apply setRx_rf | with_reducible apply judgeFrame_rf
                | dsimp only | split)

theorem navFramingError_rf  {s : State} (hp : Rf s.cov.st s.cmd.run) :
    Rf (navFramingError s).cov.st (navFramingError s).cmd.run := by
  simpa using hp

theorem fixLossExpiry_rf  {s : State} (hp : Rf s.cov.st s.cmd.run) :
    Rf (fixLossExpiry s).cov.st (fixLossExpiry s).cmd.run := by
  unfold fixLossExpiry
  (repeat first | with_reducible exact hp | with_reducible apply covPositionLost_rf
                | with_reducible apply positionReport_rf | dsimp only | split)

theorem loadZone_rf (i : Nat) (z : Zone) {s : State} (hp : Rf s.cov.st s.cmd.run) :
    Rf (loadZone i z s).cov.st (loadZone i z s).cmd.run := by
  unfold loadZone
  (repeat first | with_reducible exact hp | with_reducible apply publishZone_rf
                | with_reducible apply becomeCurrent_rf | dsimp only | split)

theorem loadTariff_rf (region : Nat) (cls : Nat) (t : Tariff) {s : State} (hp : Rf s.cov.st s.cmd.run) :
    Rf (loadTariff region cls t s).cov.st (loadTariff region cls t s).cmd.run := by
  simpa using hp

theorem setGate_rf (a : Nat) (e : GateEntry) {s : State} (hp : Rf s.cov.st s.cmd.run) :
    Rf (setGate a e s).cov.st (setGate a e s).cmd.run := by
  simpa using hp

theorem writeGate_rf (a : Nat) (opened : Bool) {s : State} (hp : Rf s.cov.st s.cmd.run) :
    Rf (writeGate a opened s).cov.st (writeGate a opened s).cmd.run := by
  simpa using hp

theorem creditToGate_rf (before : AcctRec) (after : AcctRec) (a : Nat) {s : State} (hp : Rf s.cov.st s.cmd.run) :
    Rf (creditToGate before after a s).cov.st (creditToGate before after a s).cmd.run := by
  unfold creditToGate
  (repeat first | with_reducible exact hp | with_reducible apply writeGate_rf | dsimp only | split)

theorem settleRating_rf (r : AcctRec) (e : UsageEvent) (charge : Nat) {s : State} (hp : Rf s.cov.st s.cmd.run) :
    Rf (settleRating r e charge s).cov.st (settleRating r e charge s).cmd.run := by
  simpa using hp

theorem offerCredit_rf (before : AcctRec) (after : AcctRec) (a : Nat) {s : State} (hp : Rf s.cov.st s.cmd.run) :
    Rf (offerCredit before after a s).cov.st (offerCredit before after a s).cmd.run := by
  simpa using hp

theorem rateGrant_rf (i : Nat) (e : UsageEvent) {s : State} (hp : Rf s.cov.st s.cmd.run) :
    Rf (rateGrant i e s).cov.st (rateGrant i e s).cmd.run := by
  simpa using hp

theorem tryRate_rf  {s : State} (hp : Rf s.cov.st s.cmd.run) :
    Rf (tryRate s).cov.st (tryRate s).cmd.run := by
  simpa using hp

theorem setAcct_rf (a : AccountManager) {s : State} (hp : Rf s.cov.st s.cmd.run) :
    Rf (setAcct a s).cov.st (setAcct a s).cmd.run := by
  simpa using hp

theorem judgeFinisher_rf  {s : State} (hp : Rf s.cov.st s.cmd.run) :
    Rf (judgeFinisher s).cov.st (judgeFinisher s).cmd.run := by
  simpa using hp

theorem settleRoundUp_rf (r : AcctRec) (charge : Nat) {s : State} (hp : Rf s.cov.st s.cmd.run) :
    Rf (settleRoundUp r charge s).cov.st (settleRoundUp r charge s).cmd.run := by
  simpa using hp

theorem finishRecord_rf (scan : Bool) (a : Nat) (i : Nat) (p : Place) {s : State} (hp : Rf s.cov.st s.cmd.run) :
    Rf (finishRecord scan a i p s).1.cov.st (finishRecord scan a i p s).1.cmd.run := by
  simpa using hp

theorem offerBilling_rf (b : Report → Billing) (r : Report) {s : State} (hp : Rf s.cov.st s.cmd.run) :
    Rf (offerBilling b r s).cov.st (offerBilling b r s).cmd.run := by
  simpa using hp

theorem finisherWork_rf (i : Nat) {s : State} (hp : Rf s.cov.st s.cmd.run) :
    Rf (finisherWork i s).cov.st (finisherWork i s).cmd.run := by
  simpa using hp

theorem refuseOpen_rf (st : Status) (r : AcctRec) {s : State} (hp : Rf s.cov.st s.cmd.run) :
    Rf (refuseOpen st r s).cov.st (refuseOpen st r s).cmd.run := by
  simpa using hp

theorem openWork_rf (p : OpenAccountParams) (i : Nat) {s : State} (hp : Rf s.cov.st s.cmd.run) :
    Rf (openWork p i s).cov.st (openWork p i s).cmd.run := by
  simpa using hp

theorem refuseGrant_rf (st : Status) (r : AcctRec) {s : State} (hp : Rf s.cov.st s.cmd.run) :
    Rf (refuseGrant st r s).cov.st (refuseGrant st r s).cmd.run := by
  simpa using hp

theorem grantWork_rf (p : GrantParams) (i : Nat) {s : State} (hp : Rf s.cov.st s.cmd.run) :
    Rf (grantWork p i s).cov.st (grantWork p i s).cmd.run := by
  simpa using hp

theorem suspendWork_rf (a : Nat) (i : Nat) {s : State} (hp : Rf s.cov.st s.cmd.run) :
    Rf (suspendWork a i s).cov.st (suspendWork a i s).cmd.run := by
  simpa using hp

theorem resumeWork_rf (a : Nat) (i : Nat) {s : State} (hp : Rf s.cov.st s.cmd.run) :
    Rf (resumeWork a i s).cov.st (resumeWork a i s).cmd.run := by
  simpa using hp

theorem closeWork_rf (a : Nat) (i : Nat) {s : State} (hp : Rf s.cov.st s.cmd.run) :
    Rf (closeWork a i s).cov.st (closeWork a i s).cmd.run := by
  simpa using hp

theorem commandWork_rf (i : Nat) {s : State} (hp : Rf s.cov.st s.cmd.run) :
    Rf (commandWork i s).cov.st (commandWork i s).cmd.run := by
  simpa using hp

theorem requestCommandLine_rf (a : Nat) {s : State} (hp : Rf s.cov.st s.cmd.run) :
    Rf (requestCommandLine a s).cov.st (requestCommandLine a s).cmd.run := by
  simpa using hp

theorem closeTakesPlace_rf (a : Nat) {s : State} (hp : Rf s.cov.st s.cmd.run) :
    Rf (closeTakesPlace a s).cov.st (closeTakesPlace a s).cmd.run := by
  simpa using hp

theorem finishDone_rf  {s : State} (hp : Rf s.cov.st s.cmd.run) :
    Rf (finishDone s).cov.st (finishDone s).cmd.run := by
  simpa using hp

theorem scanNext_rf {s : State} (hp : Rf s.cov.st s.cmd.run) :
    Rf (scanNext s).cov.st (scanNext s).cmd.run := by
  unfold scanNext
  split
  · exact hp
  · split
    · simpa using hp
    · exact tryRate_rf (tryTake_rf (openingTest_rf (complete_rf _ _ _ (.running _))))

theorem scanWork_rf (i : Nat) {s : State} (hp : Rf s.cov.st s.cmd.run) :
    Rf (scanWork i s).cov.st (scanWork i s).cmd.run := by
  simpa using hp

theorem scanPlaced_rf  {s : State} (hp : Rf s.cov.st s.cmd.run) :
    Rf (scanPlaced s).cov.st (scanPlaced s).cmd.run := by
  unfold scanPlaced
  (repeat first | with_reducible exact hp | with_reducible apply setAcct_rf | with_reducible apply scanNext_rf
                | dsimp only | split)

theorem cutWaiting_rf  {s : State} (hp : Rf s.cov.st s.cmd.run) :
    Rf (cutWaiting s).cov.st (cutWaiting s).cmd.run := by
  simpa using hp

theorem placeWaiter_rf (b : Billing) {s : State} (hp : Rf s.cov.st s.cmd.run) :
    Rf (placeWaiter b s).cov.st (placeWaiter b s).cmd.run := by
  unfold placeWaiter
  (repeat first | with_reducible exact hp | with_reducible apply placeReport_rf | with_reducible apply finishDone_rf
                | with_reducible apply scanPlaced_rf | with_reducible apply cutWaiting_rf | dsimp only | split)

theorem placeWaitersLoop_rf (n : Nat) {s : State} (hp : Rf s.cov.st s.cmd.run) :
    Rf (placeWaitersLoop n s).cov.st (placeWaitersLoop n s).cmd.run := by
  induction n generalizing s with
  | zero => simpa [placeWaitersLoop] using hp
  | succ n ih =>
    unfold placeWaitersLoop
    (repeat first | with_reducible exact hp | with_reducible apply ih | with_reducible apply placeWaiter_rf
                  | dsimp only | split)

theorem endRating_rf  {s : State} (hp : Rf s.cov.st s.cmd.run) :
    Rf (endRating s).cov.st (endRating s).cmd.run := by
  simpa using hp

theorem grantWorkOf_rf (r : Requester) (i : Nat) {s : State} (hp : Rf s.cov.st s.cmd.run) :
    Rf (grantWorkOf r i s).cov.st (grantWorkOf r i s).cmd.run := by
  simpa using hp

theorem afterGrant_rf (r : Requester) {s : State} (hp : Rf s.cov.st s.cmd.run) :
    Rf (afterGrant r s).cov.st (afterGrant r s).cmd.run := by
  unfold afterGrant
  (repeat first | with_reducible exact hp | with_reducible apply finishDone_rf | with_reducible apply scanNext_rf
                | with_reducible apply endRating_rf | dsimp only | split)

theorem serve_rf (n : Nat) (m : Nat) {s : State} (hp : Rf s.cov.st s.cmd.run) :
Rf (serve n m s).cov.st (serve n m s).cmd.run := by
  induction n generalizing m s with
  | zero => simpa [serve] using hp
  | succ n ih =>
    unfold serve
    (repeat first | with_reducible exact hp | with_reducible apply ih | with_reducible apply setLine_rf
                  | with_reducible apply touchLine_rf | with_reducible apply grantWorkOf_rf
                  | with_reducible apply afterGrant_rf | with_reducible refine rf_foldl (fun s a hp => ?_) _ ?_
                  | dsimp only | split)

theorem grantLine_rf (i : Nat) {s : State} (hp : Rf s.cov.st s.cmd.run) :
    Rf (grantLine i s).cov.st (grantLine i s).cmd.run := by
  unfold grantLine
  (repeat first | with_reducible exact hp | with_reducible apply serveMisses_rf | with_reducible apply serve_rf
                | dsimp only | split)

theorem grantCalled_rf (old : State) {s : State} (hp : Rf s.cov.st s.cmd.run) :
Rf (grantCalled old s).cov.st (grantCalled old s).cmd.run := by
  unfold grantCalled
  (repeat first | with_reducible exact hp | with_reducible apply grantLine_rf
                | with_reducible refine rf_foldl (fun s a hp => ?_) _ ?_ | dsimp only | split)

theorem placeWaiters_rf {s : State} (hp : Rf s.cov.st s.cmd.run) :
Rf (placeWaiters s).cov.st (placeWaiters s).cmd.run := by
  unfold placeWaiters
  (repeat first | with_reducible exact hp | with_reducible apply grantCalled_rf
                | with_reducible apply placeWaitersLoop_rf | dsimp only | split)

theorem closeWaitExpiry_rf (n : Nat) {s : State} (hp : Rf s.cov.st s.cmd.run) :
    Rf (closeWaitExpiry n s).cov.st (closeWaitExpiry n s).cmd.run := by
  simpa using hp

theorem settleEvent_rf (old : State) {s : State} (hp : Rf s.cov.st s.cmd.run) :
    Rf (settleEvent old s).cov.st (settleEvent old s).cmd.run := by
  simpa using hp

theorem enqueue_rf (e : UsageEvent) {s : State} (hp : Rf s.cov.st s.cmd.run) :
    Rf (enqueue e s).cov.st (enqueue e s).cmd.run := by
  simpa using hp

theorem badAccount_rf (region : Nat) (initiator : Nat) (slot : Nat) (a : Nat) {s : State} (hp : Rf s.cov.st
    s.cmd.run) :
    Rf (badAccount region initiator slot a s).cov.st (badAccount region initiator slot a s).cmd.run := by
  simpa using hp

theorem judgeDownlink_rf (initiator : Nat) (slot : Nat) (d : List Byte) {s : State} (hp : Rf s.cov.st s.cmd.run) :
    Rf (judgeDownlink initiator slot d s).1.cov.st (judgeDownlink initiator slot d s).1.cmd.run := by
  simpa using hp

theorem entrySent_rf (e : Nat) (k : Nat) {s : State} (hp : Rf s.cov.st s.cmd.run) :
    Rf (entrySent e k s).cov.st (entrySent e k s).cmd.run := by
  unfold entrySent
  (repeat first | with_reducible exact hp | with_reducible apply endEntry_rf | with_reducible apply uncount_rf
                | with_reducible apply linkCompleted_rf | dsimp only | split)

theorem completionFault_rf (kind : Nat) (flags : Nat) (k : Nat) (slot : Nat) (d : List Byte) {s : State} (hp : Rf
    s.cov.st s.cmd.run) :
    Rf (completionFault kind flags k slot d s).cov.st (completionFault kind flags k slot d s).cmd.run := by
  simpa using hp

theorem completeOk_rf (e : Nat) (k : Nat) {s : State} (hp : Rf s.cov.st s.cmd.run) :
    Rf (completeOk e k s).1.cov.st (completeOk e k s).1.cmd.run := by
  unfold completeOk
  (repeat first | with_reducible exact hp | with_reducible apply event_rf | with_reducible apply setEntry_rf
                | with_reducible apply enqueue_rf | with_reducible apply entrySent_rf | dsimp only | split)

theorem completeFail_rf (e : Nat) (k : Nat) {s : State} (hp : Rf s.cov.st s.cmd.run) :
    Rf (completeFail e k s).cov.st (completeFail e k s).cmd.run := by
  unfold completeFail
  (repeat first | with_reducible exact hp | with_reducible apply endEntry_rf | with_reducible apply uncount_rf
                | with_reducible apply failEntry_rf | with_reducible apply linkCompleted_rf | dsimp only | split)

theorem judgeCompletion_rf (k : Nat) (slot : Nat) (d : List Byte) {s : State} (hp : Rf s.cov.st s.cmd.run) :
    Rf (judgeCompletion k slot d s).1.cov.st (judgeCompletion k slot d s).1.cmd.run := by
  unfold judgeCompletion
  (repeat first | with_reducible exact hp | with_reducible apply completionFault_rf
                | with_reducible apply completeOk_rf | with_reducible apply completeFail_rf | dsimp only | split)

theorem joinWait_rf (e : Nat) (en : Entry) {s : State} (hp : Rf s.cov.st s.cmd.run) :
    Rf (joinWait e en s).cov.st (joinWait e en s).cmd.run := by
  simpa using hp

theorem judgeTake_rf (t : Take) (d : List Byte) {s : State} (hp : Rf s.cov.st s.cmd.run) :
    Rf (judgeTake t d s).cov.st (judgeTake t d s).cmd.run := by
  simpa using hp

theorem badIndex_rf (index : Nat) (v : Nat) (size : Nat) {s : State} (hp : Rf s.cov.st s.cmd.run) :
    Rf (badIndex index v size s).cov.st (badIndex index v size s).cmd.run := by
  simpa using hp

theorem latchCommand_rf (l : Latch) {s : State} (hp : Rf s.cov.st s.cmd.run) :
    Rf (latchCommand l s).cov.st (latchCommand l s).cmd.run := by
  simpa using hp

theorem commandProducer_rf (v : Nat) {s : State} (hp : Rf s.cov.st s.cmd.run) :
    Rf (commandProducer v s).cov.st (commandProducer v s).cmd.run := by
  simpa using hp

theorem restartReports_rf  {s : State} (hp : Rf s.cov.st s.cmd.run) :
    Rf (restartReports s).cov.st (restartReports s).cmd.run := by
  simpa using hp

theorem latchReportBase_rf (v : Nat) {s : State} (hp : Rf s.cov.st s.cmd.run) :
    Rf (latchReportBase v s).cov.st (latchReportBase v s).cmd.run := by
  simpa using hp

theorem latchReportSize_rf (v : Nat) {s : State} (hp : Rf s.cov.st s.cmd.run) :
    Rf (latchReportSize v s).cov.st (latchReportSize v s).cmd.run := by
  simpa using hp

theorem reportConsumer_rf (v : Nat) {s : State} (hp : Rf s.cov.st s.cmd.run) :
    Rf (reportConsumer v s).cov.st (reportConsumer v s).cmd.run := by
  unfold reportConsumer
  (repeat first | with_reducible exact hp | with_reducible apply placeWaiters_rf | with_reducible apply badIndex_rf
                | dsimp only | split)

theorem handField_rf (f : ControlField) (v : Nat) {s : State} (hp : Rf s.cov.st s.cmd.run) :
    Rf (handField f v s).cov.st (handField f v s).cmd.run := by
  unfold handField
  (repeat first | with_reducible exact hp | with_reducible apply latchCommand_rf
                | with_reducible apply commandProducer_rf | with_reducible apply latchReportBase_rf
                | with_reducible apply latchReportSize_rf | with_reducible apply reportConsumer_rf | dsimp only
                | split)

theorem pathFault_rf (t : Txn) (g : RegionKind) (kind : Nat) (dropped : Nat) {s : State} (hp : Rf s.cov.st
    s.cmd.run) :
    Rf (pathFault t g kind dropped s).cov.st (pathFault t g kind dropped s).cmd.run := by
  simpa using hp

theorem flushOwed_rf  {s : State} (hp : Rf s.cov.st s.cmd.run) :
    Rf (flushOwed s).cov.st (flushOwed s).cmd.run := by
  simpa using hp

theorem answerHead_rf (h : Head) (data : List Byte) {s : State} (hp : Rf s.cov.st s.cmd.run) :
    Rf (answerHead h data s).cov.st (answerHead h data s).cmd.run := by
  simpa using hp

theorem moveHead_rf  {s : State} (hp : Rf s.cov.st s.cmd.run) :
    Rf (moveHead s).cov.st (moveHead s).cmd.run := by
  simpa using hp

theorem setHead_rf (h : Head) {s : State} (hp : Rf s.cov.st s.cmd.run) :
    Rf (setHead h s).cov.st (setHead h s).cmd.run := by
  simpa using hp

theorem takeRead_rf (t : Txn) {s : State} (hp : Rf s.cov.st s.cmd.run) :
    Rf (takeRead t s).cov.st (takeRead t s).cmd.run := by
  simpa using hp

theorem applyVerdict_rf (p : Producer) (r : State × Verdict)  (hp : Rf r.1.cov.st r.1.cmd.run) :
    Rf (applyVerdict p r).cov.st (applyVerdict p r).cmd.run := by
  simpa using hp

theorem handOff_rf (t : Txn) (o : Outcome) {s : State} (hp : Rf s.cov.st s.cmd.run) :
    Rf (handOff t o s).cov.st (handOff t o s).cmd.run := by
  unfold handOff
  (repeat first | with_reducible exact hp | with_reducible apply tryTake_rf | with_reducible apply judgeDownlink_rf
                | with_reducible apply judgeCompletion_rf | with_reducible apply handField_rf
                | with_reducible apply applyVerdict_rf | with_reducible refine rf_foldl (fun s a hp => ?_) _ ?_
                | dsimp only | split)

theorem takeWrite_rf (t : Txn) {s : State} (hp : Rf s.cov.st s.cmd.run) :
    Rf (takeWrite t s).cov.st (takeWrite t s).cmd.run := by
  unfold takeWrite
  (repeat first | with_reducible exact hp | with_reducible apply pathFault_rf | with_reducible apply setHead_rf
                | with_reducible apply handOff_rf | with_reducible refine rf_foldl (fun s a hp => ?_) _ ?_
                | dsimp only | split)

theorem takeTxn_rf (t : Txn) {s : State} (hp : Rf s.cov.st s.cmd.run) :
    Rf (takeTxn t s).cov.st (takeTxn t s).cmd.run := by
  unfold takeTxn
  (repeat first | with_reducible exact hp | with_reducible apply takeRead_rf | with_reducible apply takeWrite_rf
                | dsimp only | split)

theorem dealWith_rf (t : Txn) {s : State} (hp : Rf s.cov.st s.cmd.run) :
Rf (dealWith t s).cov.st (dealWith t s).cmd.run := by
  unfold dealWith
  (repeat first | with_reducible exact hp | with_reducible apply settleEvent_rf | with_reducible apply moveHead_rf
                | with_reducible apply takeTxn_rf | dsimp only | split)

theorem pumpLoop_rf (n : Nat) {s : State} (hp : Rf s.cov.st s.cmd.run) :
Rf (pumpLoop n s).cov.st (pumpLoop n s).cmd.run := by
  induction n generalizing s with
  | zero => simpa [pumpLoop] using hp
  | succ n ih =>
    unfold pumpLoop
    (repeat first | with_reducible exact hp | with_reducible apply ih | with_reducible apply dealWith_rf | dsimp only
                  | split)

theorem pumpUpstream_rf  {s : State} (hp : Rf s.cov.st s.cmd.run) :
    Rf (pumpUpstream s).cov.st (pumpUpstream s).cmd.run := by
  unfold pumpUpstream
  (repeat first | with_reducible exact hp | with_reducible apply pumpLoop_rf | dsimp only | split)

theorem portEvent_rf (old : State) {s : State} (hp : Rf s.cov.st s.cmd.run) :
Rf (portEvent old s).cov.st (portEvent old s).cmd.run := by
  unfold portEvent
  (repeat first | with_reducible exact hp | with_reducible apply pumpUpstream_rf
                | with_reducible apply settleEvent_rf | with_reducible apply moveHead_rf | dsimp only | split)

theorem arrive_rf (t : Txn) {s : State} (hp : Rf s.cov.st s.cmd.run) :
    Rf (arrive t s).cov.st (arrive t s).cmd.run := by
  unfold arrive
  (repeat first | with_reducible exact hp | with_reducible apply settleEvent_rf
                | with_reducible apply pumpUpstream_rf | dsimp only | split)

theorem releaseVerdict_rf (v : Verdict) {s : State} (hp : Rf s.cov.st s.cmd.run) :
    Rf (releaseVerdict v s).cov.st (releaseVerdict v s).cmd.run := by
  simpa using hp

theorem noWaiting_rf  {s : State} (hp : Rf s.cov.st s.cmd.run) :
    Rf (noWaiting s).cov.st (noWaiting s).cmd.run := by
  simpa using hp

theorem dealWaiting_rf (w : WaitingEvent) {s : State} (hp : Rf s.cov.st s.cmd.run) :
Rf (dealWaiting w s).cov.st (dealWaiting w s).cmd.run := by
  unfold dealWaiting
  (repeat first | with_reducible exact hp | with_reducible apply enqueue_rf | with_reducible apply entrySent_rf
                | with_reducible apply releaseVerdict_rf | with_reducible apply noWaiting_rf
                | with_reducible apply tryRate_rf | dsimp only | split)

theorem releaseWaiting_rf {s : State} (hp : Rf s.cov.st s.cmd.run) :
Rf (releaseWaiting s).cov.st (releaseWaiting s).cmd.run := by
  unfold releaseWaiting
  (repeat first | with_reducible exact hp | with_reducible apply portEvent_rf | with_reducible apply dealWaiting_rf
                | dsimp only | split)

theorem noteIssue_rf (t : OwnTxn) {s : State} (hp : Rf s.cov.st s.cmd.run) :
    Rf (noteIssue t s).cov.st (noteIssue t s).cmd.run := by
  simpa using hp

theorem issueOwn_rf (t : OwnTxn) (again : Bool) {s : State} (hp : Rf s.cov.st s.cmd.run) :
    Rf (issueOwn t again s).cov.st (issueOwn t again s).cmd.run := by
  simpa using hp

theorem issuePassing_rf (p : Passing) (count : Nat) {s : State} (hp : Rf s.cov.st s.cmd.run) :
    Rf (issuePassing p count s).cov.st (issuePassing p count s).cmd.run := by
  simpa using hp

theorem arbiterIssue_rf  {s : State} (hp : Rf s.cov.st s.cmd.run) :
    Rf (arbiterIssue s).cov.st (arbiterIssue s).cmd.run := by
  simpa using hp

theorem writeEntered_rf (w : OwnWrite) {s : State} (hp : Rf s.cov.st s.cmd.run) :
    Rf (writeEntered w s).cov.st (writeEntered w s).cmd.run := by
  simpa using hp

theorem ownWriteEnters_rf  {s : State} (hp : Rf s.cov.st s.cmd.run) :
    Rf (ownWriteEnters s).cov.st (ownWriteEnters s).cmd.run := by
  simpa using hp

theorem answered_rf  {s : State} (hp : Rf s.cov.st s.cmd.run) :
    Rf (answered s).cov.st (answered s).cmd.run := by
  simpa using hp

theorem passResponse_rf (p : Passing) (ok : Bool) (data : List Byte) {s : State} (hp : Rf s.cov.st s.cmd.run) :
    Rf (passResponse p ok data s).cov.st (passResponse p ok data s).cmd.run := by
  simpa using hp

theorem takeReadDone_rf (data : List Byte) {s : State} (hp : Rf s.cov.st s.cmd.run) :
    Rf (takeReadDone data s).cov.st (takeReadDone data s).cmd.run := by
  simpa using hp

theorem fillLine_rf (i : Nat) (data : List Byte) {s : State} (hp : Rf s.cov.st s.cmd.run) :
    Rf (fillLine i data s).cov.st (fillLine i data s).cmd.run := by
  unfold fillLine
  (repeat first | with_reducible exact hp | with_reducible apply setLine_rf | with_reducible apply grantLine_rf
                | dsimp only | split)

theorem fillDone_rf (data : List Byte) {s : State} (hp : Rf s.cov.st s.cmd.run) :
Rf (fillDone data s).cov.st (fillDone data s).cmd.run := by
  unfold fillDone
  (repeat first | with_reducible exact hp | with_reducible apply portEvent_rf | with_reducible apply answered_rf
                | with_reducible apply fillLine_rf | dsimp only | split)

theorem lineGrant_rf (i : Nat) {s : State} (hp : Rf s.cov.st s.cmd.run) :
Rf (lineGrant i s).cov.st (lineGrant i s).cmd.run := by
  unfold lineGrant
  (repeat first | with_reducible exact hp | with_reducible apply portEvent_rf | with_reducible apply grantLine_rf
                | dsimp only | split)

theorem serveFlush_rf  {s : State} (hp : Rf s.cov.st s.cmd.run) :
    Rf (serveFlush s).cov.st (serveFlush s).cmd.run := by
  simpa using hp

theorem countAtStop_rf (i : Nat) {s : State} (hp : Rf s.cov.st s.cmd.run) :
Rf (countAtStop i s).cov.st (countAtStop i s).cmd.run := by
  simpa using hp

theorem writeBackDone_rf  {s : State} (hp : Rf s.cov.st s.cmd.run) :
    Rf (writeBackDone s).cov.st (writeBackDone s).cmd.run := by
  simpa using hp

theorem consumerReadDone_rf (data : List Byte) {s : State} (hp : Rf s.cov.st s.cmd.run) :
    Rf (consumerReadDone data s).cov.st (consumerReadDone data s).cmd.run := by
  unfold consumerReadDone
  (repeat first | with_reducible exact hp | with_reducible apply settleEvent_rf
                | with_reducible apply reportConsumer_rf | with_reducible apply answered_rf | dsimp only | split)

theorem haltCapture_rf  {s : State} (hp : Rf s.cov.st s.cmd.run) :
    Rf (haltCapture s).cov.st (haltCapture s).cmd.run := by
  simpa using hp

theorem haltRating_rf  {s : State} (hp : Rf s.cov.st s.cmd.run) :
    Rf (haltRating s).cov.st (haltRating s).cmd.run := by
  simpa using hp

theorem haltScan_rf  {s : State} (hp : Rf s.cov.st s.cmd.run) :
    Rf (haltScan s).cov.st (haltScan s).cmd.run := by
  simpa using hp

theorem haltCommand_rf  {s : State} (hp : Rf s.cov.st s.cmd.run) :
    Rf (haltCommand s).cov.st (haltCommand s).cmd.run := by
  simpa using hp

theorem haltWalk_rf  {s : State} (hp : Rf s.cov.st s.cmd.run) :
    Rf (haltWalk s).cov.st (haltWalk s).cmd.run := by
  simpa using hp

theorem haltFlush_rf  {s : State} (hp : Rf s.cov.st s.cmd.run) :
    Rf (haltFlush s).cov.st (haltFlush s).cmd.run := by
  simpa using hp

theorem haltReport_rf  {s : State} (hp : Rf s.cov.st s.cmd.run) :
    Rf (haltReport s).cov.st (haltReport s).cmd.run := by
  simpa using hp

theorem enterHalted_rf (s : State) : Rf (enterHalted s).cov.st (enterHalted s).cmd.run := by
  unfold enterHalted
  dsimp only
  refine haltFlush_rf (haltWalk_rf (haltCommand_rf (haltScan_rf ?_)))
  dsimp only
  exact withdraw_rf _ (haltRating_rf (haltCapture_rf (covLeaveRunning_rf (by simp))))

theorem memoryError_rf (t : OwnTxn) {s : State} (hp : Rf s.cov.st s.cmd.run) :
    Rf (memoryError t s).cov.st (memoryError t s).cmd.run := by
  simpa using hp

theorem fillFailed_rf (i : Nat) {s : State} (hp : Rf s.cov.st s.cmd.run) :
    Rf (fillFailed i s).cov.st (fillFailed i s).cmd.run := by
  simpa using hp

theorem writeBackFailed_rf (i : Nat) {s : State} (hp : Rf s.cov.st s.cmd.run) :
    Rf (writeBackFailed i s).cov.st (writeBackFailed i s).cmd.run := by
  simpa using hp

theorem tellFailed_rf (t : OwnTxn) {s : State} (hp : Rf s.cov.st s.cmd.run) :
    Rf (tellFailed t s).cov.st (tellFailed t s).cmd.run := by
  simpa using hp

theorem abandon_rf (t : OwnTxn) {s : State} (hp : Rf s.cov.st s.cmd.run) :
    Rf (abandon t s).cov.st (abandon t s).cmd.run := by
  unfold abandon
  (repeat first | with_reducible exact hp | with_reducible apply enterHalted_rf
                | with_reducible apply memoryError_rf | with_reducible apply tellFailed_rf | dsimp only | split)

theorem ownError_rf (ahead : Nat) {s : State} (hp : Rf s.cov.st s.cmd.run) :
    Rf (ownError ahead s).cov.st (ownError ahead s).cmd.run := by
  unfold ownError
  (repeat first | with_reducible exact hp | with_reducible apply abandon_rf | dsimp only | split)

theorem abortLists_rf  {s : State} (hp : Rf s.cov.st s.cmd.run) :
    Rf (abortLists s).cov.st (abortLists s).cmd.run := by
  simpa using hp

theorem stopDone_rf {s : State} (hd : s.cov.st = .dark) :
    Rf (stopDone s).cov.st (stopDone s).cmd.run := .inl (by simpa [stopDone] using hd)

theorem beginStep_rf (n : Nat) {s : State} (hp : Rf s.cov.st s.cmd.run) (hr : s.cmd.run ≠ .running) :
    Rf (beginStep n s).cov.st (beginStep n s).cmd.run := by
  have hd := hp.resolve_right hr
  unfold beginStep
  dsimp only
  split
  · exact abortLists_rf hp
  · exact judgeFinisher_rf hp
  · exact beginWalk_rf _ hp
  · exact writeBackAll_rf hp
  · exact disableAll_rf (invalidateAll_rf hp)
  · exact stopDone_rf hd
  · exact hp

theorem advanceStop_rf (n : Nat) {s : State} (hp : Rf s.cov.st s.cmd.run) :
    Rf (advanceStop n s).cov.st (advanceStop n s).cmd.run := by
  induction n generalizing s with
  | zero => exact hp
  | succ n ih =>
    unfold advanceStop
    split
    · exact ih (beginStep_rf _ hp (by simp_all))
    · exact hp

theorem stopAdvance_rf  {s : State} (hp : Rf s.cov.st s.cmd.run) :
    Rf (stopAdvance s).cov.st (stopAdvance s).cmd.run := by
  unfold stopAdvance
  (repeat first | with_reducible exact hp | with_reducible apply advanceStop_rf | dsimp only | split)

theorem stopRunning_rf (s : State) : Rf (stopRunning s).cov.st (stopRunning s).cmd.run := by
  unfold stopRunning
  exact stopAdvance_rf (dropPosts_rf _ (covLeaveRunning_rf (by simp)))

theorem abortPosted_rf  {s : State} (hp : Rf s.cov.st s.cmd.run) :
    Rf (abortPosted s).cov.st (abortPosted s).cmd.run := by
  simpa using hp

theorem postedWaitExpiry_rf  {s : State} (hp : Rf s.cov.st s.cmd.run) :
    Rf (postedWaitExpiry s).cov.st (postedWaitExpiry s).cmd.run := by
  unfold postedWaitExpiry
  (repeat first | with_reducible exact hp | with_reducible apply disableLinks_rf
                | with_reducible apply stopAdvance_rf | with_reducible apply abortPosted_rf | dsimp only | split)

theorem clearRelay_rf  {s : State} (hp : Rf s.cov.st s.cmd.run) :
    Rf (clearRelay s).cov.st (clearRelay s).cmd.run := by
  simpa using hp

theorem clearFinisher_rf  {s : State} (hp : Rf s.cov.st s.cmd.run) :
    Rf (clearFinisher s).cov.st (clearFinisher s).cmd.run := by
  simpa using hp

theorem clearLinks_rf  {s : State} (hp : Rf s.cov.st s.cmd.run) :
    Rf (clearLinks s).cov.st (clearLinks s).cmd.run := by
  unfold clearLinks
  (repeat first | with_reducible exact hp | with_reducible apply covBackhaul_rf | with_reducible apply tellMode_rf
                | with_reducible apply disableLink_rf | with_reducible refine rf_foldl (fun s a hp => ?_) _ ?_
                | dsimp only | split)

theorem clearLinks_dark {s : State} (hd : s.cov.st = .dark) (hr : s.cmd.run ≠ .running) :
    (clearLinks s).cov.st = .dark :=
  (clearLinks_rf (.inl hd)).resolve_right (by simpa using hr)

theorem clearHalted_rf {s : State} (hp : Rf s.cov.st s.cmd.run) :
    Rf (clearHalted s).cov.st (clearHalted s).cmd.run := by
  unfold clearHalted
  split
  · rename_i h
    have hr : s.cmd.run = .halted := by simp [haltedClearDue, stopInHalted] at h; exact h.1.1
    have hd : s.cov.st = .dark := hp.resolve_right (by simp [hr])
    dsimp only
    apply complete_rf
    refine .inl ?_
    dsimp only
    refine clearLinks_dark ?_ ?_
    · simpa using hd
    · simp [hr]
  · exact hp

theorem adoptConfig_rf (p : ConfigureParams) {s : State} (hp : Rf s.cov.st s.cmd.run) :
    Rf (adoptConfig p s).cov.st (adoptConfig p s).cmd.run := hp

theorem adoptionExpiries_rf  {s : State} (hp : Rf s.cov.st s.cmd.run) :
    Rf (adoptionExpiries s).cov.st (adoptionExpiries s).cmd.run := by
  unfold adoptionExpiries
  (repeat first | with_reducible exact hp | with_reducible apply lostGraceExpiry_rf
                | with_reducible apply backhaulLossExpiry_rf | with_reducible apply warmUpExpiry_rf
                | with_reducible apply drainExpiry_rf | with_reducible apply darkMinimumExpiry_rf
                | with_reducible apply deferredSwapExpiry_rf | with_reducible apply fixLossExpiry_rf | dsimp only
                | split)

theorem doConfigure_rf (p : ConfigureParams) {s : State} (hp : Rf s.cov.st s.cmd.run) :
    Rf (doConfigure p s).cov.st (doConfigure p s).cmd.run := by
  unfold doConfigure
  (repeat first | with_reducible exact hp | with_reducible apply complete_rf | with_reducible apply refuse_rf
                | with_reducible apply adoptConfig_rf | with_reducible apply adoptionExpiries_rf | dsimp only
                | split)

theorem beginStart_rf {s : State} (hp : Rf s.cov.st s.cmd.run) (hr : s.cmd.run = .stopped) :
    Rf (beginStart s).cov.st (beginStart s).cmd.run := by
  have hd := hp.resolve_right (by simp [hr])
  exact requestLine_rf _ _ (.inl hd)

theorem doStart_rf {s : State} (hp : Rf s.cov.st s.cmd.run) : Rf (doStart s).cov.st (doStart s).cmd.run := by
  unfold doStart
  repeat' split
  all_goals first
    | exact refuse_rf _ hp
    | exact beginStart_rf hp (by simp_all)

theorem doStop_rf  {s : State} (hp : Rf s.cov.st s.cmd.run) :
    Rf (doStop s).cov.st (doStop s).cmd.run := by
  unfold doStop
  (repeat first | with_reducible exact hp | with_reducible apply refuse_rf | with_reducible apply stopRunning_rf
                | dsimp only | split)

theorem doLoadZone_rf (p : LoadZoneParams) {s : State} (hp : Rf s.cov.st s.cmd.run) :
    Rf (doLoadZone p s).cov.st (doLoadZone p s).cmd.run := by
  unfold doLoadZone
  (repeat first | with_reducible exact hp | with_reducible apply complete_rf | with_reducible apply refuse_rf
                | with_reducible apply loadZone_rf | dsimp only | split)

theorem doPosition_rf (p : PositionParams) {s : State} (hp : Rf s.cov.st s.cmd.run) :
    Rf (doPosition p s).cov.st (doPosition p s).cmd.run := by
  unfold doPosition
  (repeat first | with_reducible exact hp | with_reducible apply complete_rf | with_reducible apply refuse_rf
                | with_reducible apply discard_rf | with_reducible apply takeFix_rf | dsimp only | split)

theorem doCoverageHold_rf  {s : State} (hp : Rf s.cov.st s.cmd.run) :
    Rf (doCoverageHold s).cov.st (doCoverageHold s).cmd.run := by
  unfold doCoverageHold
  (repeat first | with_reducible exact hp | with_reducible apply complete_rf | with_reducible apply refuse_rf
                | with_reducible apply covHold_rf | dsimp only | split)

theorem doCoverageRelease_rf  {s : State} (hp : Rf s.cov.st s.cmd.run) :
    Rf (doCoverageRelease s).cov.st (doCoverageRelease s).cmd.run := by
  unfold doCoverageRelease
  (repeat first | with_reducible exact hp | with_reducible apply complete_rf | with_reducible apply refuse_rf
                | with_reducible apply covRelease_rf | dsimp only | split)

theorem loadLink_rf (k : Nat) (r : LinkRec) {s : State} (hp : Rf s.cov.st s.cmd.run) :
    Rf (loadLink k r s).cov.st (loadLink k r s).cmd.run := by
  unfold loadLink
  (repeat first | with_reducible exact hp | with_reducible apply setLink_rf | with_reducible apply moveHealth_rf
                | dsimp only | split)

theorem doLoadLink_rf (p : LoadLinkParams) {s : State} (hp : Rf s.cov.st s.cmd.run) :
    Rf (doLoadLink p s).cov.st (doLoadLink p s).cmd.run := by
  unfold doLoadLink
  (repeat first | with_reducible exact hp | with_reducible apply complete_rf | with_reducible apply refuse_rf
                | with_reducible apply loadLink_rf | dsimp only | split)

theorem doLinkEnable_rf (k : Nat) {s : State} (hp : Rf s.cov.st s.cmd.run) :
    Rf (doLinkEnable k s).cov.st (doLinkEnable k s).cmd.run := by
  unfold doLinkEnable
  (repeat first | with_reducible exact hp | with_reducible apply complete_rf | with_reducible apply refuse_rf
                | with_reducible apply enableLink_rf | dsimp only | split)

theorem doLinkReset_rf (k : Nat) {s : State} (hp : Rf s.cov.st s.cmd.run) :
    Rf (doLinkReset k s).cov.st (doLinkReset k s).cmd.run := by
  unfold doLinkReset
  (repeat first | with_reducible exact hp | with_reducible apply complete_rf | with_reducible apply refuse_rf
                | with_reducible apply resetLink_rf | dsimp only | split)

theorem doLinkQuality_rf (k : Nat) (score : Nat) {s : State} (hp : Rf s.cov.st s.cmd.run) :
    Rf (doLinkQuality k score s).cov.st (doLinkQuality k score s).cmd.run := by
  unfold doLinkQuality
  (repeat first | with_reducible exact hp | with_reducible apply complete_rf | with_reducible apply refuse_rf
                | with_reducible apply setLink_rf | with_reducible apply evaluateLink_rf | dsimp only | split)

theorem doLinkForce_rf (v : Nat) {s : State} (hp : Rf s.cov.st s.cmd.run) :
    Rf (doLinkForce v s).cov.st (doLinkForce v s).cmd.run := by
  unfold doLinkForce
  (repeat first | with_reducible exact hp | with_reducible apply complete_rf | with_reducible apply refuse_rf
                | with_reducible apply selectorEval_rf | dsimp only | split)

theorem doSetSchedule_rf (p : SetScheduleParams) {s : State} (hp : Rf s.cov.st s.cmd.run) :
    Rf (doSetSchedule p s).cov.st (doSetSchedule p s).cmd.run := by
  simpa using hp

theorem doLoadTariff_rf (p : LoadTariffParams) {s : State} (hp : Rf s.cov.st s.cmd.run) :
    Rf (doLoadTariff p s).cov.st (doLoadTariff p s).cmd.run := by
  simpa using hp

theorem doLoadPartner_rf (p : LoadPartnerParams) {s : State} (hp : Rf s.cov.st s.cmd.run) :
    Rf (doLoadPartner p s).cov.st (doLoadPartner p s).cmd.run := by
  simpa using hp

theorem doSettle_rf  {s : State} (hp : Rf s.cov.st s.cmd.run) :
    Rf (doSettle s).cov.st (doSettle s).cmd.run := by
  simpa using hp

theorem doOpenAccount_rf (p : OpenAccountParams) {s : State} (hp : Rf s.cov.st s.cmd.run) :
    Rf (doOpenAccount p s).cov.st (doOpenAccount p s).cmd.run := by
  simpa using hp

theorem doGrant_rf (p : GrantParams) {s : State} (hp : Rf s.cov.st s.cmd.run) :
    Rf (doGrant p s).cov.st (doGrant p s).cmd.run := by
  simpa using hp

theorem doSuspend_rf (a : Nat) {s : State} (hp : Rf s.cov.st s.cmd.run) :
    Rf (doSuspend a s).cov.st (doSuspend a s).cmd.run := by
  simpa using hp

theorem doResume_rf (a : Nat) {s : State} (hp : Rf s.cov.st s.cmd.run) :
    Rf (doResume a s).cov.st (doResume a s).cmd.run := by
  simpa using hp

theorem doCloseAccount_rf (a : Nat) {s : State} (hp : Rf s.cov.st s.cmd.run) :
Rf (doCloseAccount a s).cov.st (doCloseAccount a s).cmd.run := by
  unfold doCloseAccount accountCommand
  (repeat first | with_reducible exact hp | with_reducible apply refuse_rf | with_reducible apply grantCalled_rf
                | with_reducible apply closeTakesPlace_rf | dsimp only | split)

theorem markWriting_rf  {s : State} (hp : Rf s.cov.st s.cmd.run) :
    Rf (markWriting s).cov.st (markWriting s).cmd.run := by
  simpa using hp

theorem doFlush_rf  {s : State} (hp : Rf s.cov.st s.cmd.run) :
    Rf (doFlush s).cov.st (doFlush s).cmd.run := by
  simpa using hp

theorem handCommand_rf (r : Request) {s : State} (hp : Rf s.cov.st s.cmd.run) :
    Rf (handCommand r s).cov.st (handCommand r s).cmd.run := by
  unfold handCommand
  (repeat first | with_reducible exact hp | with_reducible apply doConfigure_rf | with_reducible apply doStart_rf
                | with_reducible apply doStop_rf | with_reducible apply doLoadZone_rf
                | with_reducible apply doPosition_rf | with_reducible apply doCoverageHold_rf
                | with_reducible apply doCoverageRelease_rf | with_reducible apply doLoadLink_rf
                | with_reducible apply doLinkEnable_rf | with_reducible apply doLinkReset_rf
                | with_reducible apply doLinkQuality_rf | with_reducible apply doLinkForce_rf
                | with_reducible apply doSetSchedule_rf | with_reducible apply doLoadTariff_rf
                | with_reducible apply doLoadPartner_rf | with_reducible apply doSettle_rf
                | with_reducible apply doOpenAccount_rf | with_reducible apply doGrant_rf
                | with_reducible apply doSuspend_rf | with_reducible apply doResume_rf
                | with_reducible apply doCloseAccount_rf | with_reducible apply doFlush_rf | dsimp only | split)

theorem beginJob_rf {r : Option Request} {code : Nat} {notify : Bool} {s s' : State} (hp : Rf s.cov.st s.cmd.run)
    (h : beginJob r code notify s = some s') : Rf s'.cov.st s'.cmd.run := by
  unfold beginJob at h
  split at h
  · split at h
    · cases h
    · cases h
      exact hp
  · cases h

theorem commandFetched_rf (r : Option Request) (code : Nat) (notify : Bool) {s : State}
    (hp : Rf s.cov.st s.cmd.run) :
    Rf (commandFetched r code notify s).cov.st (commandFetched r code notify s).cmd.run := by
  unfold commandFetched
  split
  · split
    · exact answered_rf hp
    · exact hp
  · have h := beginJob_rf hp ‹_›
    apply settleEvent_rf
    split
    · exact handCommand_rf _ h
    · exact refuse_rf _ h

theorem recordFetched_rf (record : List Byte) {s : State} (hp : Rf s.cov.st s.cmd.run) :
    Rf (recordFetched record s).cov.st (recordFetched record s).cmd.run := by
  unfold recordFetched
  (repeat first | with_reducible exact hp | with_reducible apply commandFetched_rf | dsimp only | split)

end Sys2Proof.Machine
end

