-- ==== Sys2Proof/Laws/Rows.lean ====
section
/-! SUPPORT. What each row gives, as one function of the state: an inversion of `exec` that the laws about every row rest on. -/

namespace Sys2Proof.Machine

/-- The command of the ring that a row is, with its NOTIFY mark; none for the other rows. -/
def ringOf : Instr → Option (Request × Bool)
  | .configure notify p => some (.configure p, notify)
  | .start notify => some (.start, notify)
  | .stop notify => some (.stop, notify)
  | .loadZone notify p => some (.loadZone p, notify)
  | .position notify p => some (.position p, notify)
  | .coverageHold notify => some (.coverageHold, notify)
  | .coverageRelease notify => some (.coverageRelease, notify)
  | .loadLink notify p => some (.loadLink p, notify)
  | .linkEnable notify link => some (.linkEnable link, notify)
  | .linkReset notify link => some (.linkReset link, notify)
  | .linkQuality notify link score => some (.linkQuality link score, notify)
  | .linkForce notify link => some (.linkForce link, notify)
  | .setSchedule notify p => some (.setSchedule p, notify)
  | .loadTariff notify p => some (.loadTariff p, notify)
  | .openAccount notify p => some (.openAccount p, notify)
  | .grant notify p => some (.grant p, notify)
  | .suspend notify account => some (.suspend account, notify)
  | .resume notify account => some (.resume account, notify)
  | .closeAccount notify account => some (.closeAccount account, notify)
  | .loadPartner notify p => some (.loadPartner p, notify)
  | .settle notify => some (.settle, notify)
  | .flush notify => some (.flush, notify)
  | _ => none

/-- The state after a row, where it answers one. -/
def after (i : Instr) (s : State) : State :=
  match i with
  | .pinReset baseSel =>
    { State.resetWith baseSel ((List.range 4).map fun k => (k, (linkOf s k).carrierLine)) with pending := s.pending }
  | .navByte b => settleEvent s (Sys2Proof.Machine.navByte b s)
  | .navFramingError => Sys2Proof.Machine.navFramingError s
  | .fixLossExpiry => Sys2Proof.Machine.fixLossExpiry s
  | .linkCarrierChange link high => settleEvent s (carrierChange link high s)
  | .lostGraceExpiry => Sys2Proof.Machine.lostGraceExpiry s
  | .backhaulLossExpiry => Sys2Proof.Machine.backhaulLossExpiry s
  | .warmUpExpiry => Sys2Proof.Machine.warmUpExpiry s
  | .drainExpiry => Sys2Proof.Machine.drainExpiry s
  | .darkMinimumExpiry => Sys2Proof.Machine.darkMinimumExpiry s
  | .probationExpiry link => settleEvent s (Sys2Proof.Machine.probationExpiry link s)
  | .completionTimeoutExpiry link => settleEvent s (Sys2Proof.Machine.completionTimeoutExpiry link s)
  | .deferredSwapExpiry => settleEvent s (Sys2Proof.Machine.deferredSwapExpiry s)
  | .headAgeExpiry => if headAgeDue s then settleEvent s (dispatchPass s) else s
  | .closeWaitLimitExpiry place => closeWaitExpiry place s
  | .ageExpiry line => Sys2Proof.Machine.ageExpiry line s
  | .stopPostedWaitExpiry => settleEvent s (postedWaitExpiry s)
  | .passingTransaction t => arrive t s
  | .controlBlockWrite t => arrive t s
  | .commandRingLatch t => arrive t s
  | .reportRingLatch t => arrive t s
  | .commandProducerIndexWrite t => arrive t s
  | .reportConsumerIndexWrite t => arrive t s
  | .accountTableRead t => arrive t s
  | .accountTableWrite t => arrive t s
  | .uplinkRingWrite t => arrive t s
  | .downlinkDescriptor t => arrive t s
  | .linkRingWrite t => arrive t s
  | .holdRelease => portEvent s s
  | .arbiterIssue => Sys2Proof.Machine.arbiterIssue s
  | .ownWriteEntersQueue => ownWriteEnters s
  | .passingResponse ok data => match heard s with
    | .passing p :: _ => passResponse p ok data s
    | _ => s
  | .ownTransactionError ahead => ownError ahead s
  | .takeReadDone data => Sys2Proof.Machine.takeReadDone data.toList s
  | .fillDone data => Sys2Proof.Machine.fillDone data.toList s
  | .writeBackDone => Sys2Proof.Machine.writeBackDone s
  | .lineGrant line => Sys2Proof.Machine.lineGrant line s
  | .waitingEventRelease => releaseWaiting s
  | .commandFetchDone record => recordFetched record.toList s
  | .reportConsumerReadDone data => consumerReadDone data.toList s
  | .billingReportPlaced => settleEvent s (placeWaiters s)
  | .stopStepAdvance => settleEvent s (stopAdvance s)
  | .stopHaltedClear => settleEvent s (clearHalted s)
  | .configure notify p => commandFetched (some (.configure p)) (requestCode (.configure p)) notify s
  | .start notify => commandFetched (some (.start)) (requestCode (.start)) notify s
  | .stop notify => commandFetched (some (.stop)) (requestCode (.stop)) notify s
  | .loadZone notify p => commandFetched (some (.loadZone p)) (requestCode (.loadZone p)) notify s
  | .position notify p => commandFetched (some (.position p)) (requestCode (.position p)) notify s
  | .coverageHold notify => commandFetched (some (.coverageHold)) (requestCode (.coverageHold)) notify s
  | .coverageRelease notify => commandFetched (some (.coverageRelease)) (requestCode (.coverageRelease)) notify s
  | .loadLink notify p => commandFetched (some (.loadLink p)) (requestCode (.loadLink p)) notify s
  | .linkEnable notify link => commandFetched (some (.linkEnable link)) (requestCode (.linkEnable link)) notify s
  | .linkReset notify link => commandFetched (some (.linkReset link)) (requestCode (.linkReset link)) notify s
  | .linkQuality notify link score => commandFetched (some (.linkQuality link score)) (requestCode (.linkQuality link score)) notify s
  | .linkForce notify link => commandFetched (some (.linkForce link)) (requestCode (.linkForce link)) notify s
  | .setSchedule notify p => commandFetched (some (.setSchedule p)) (requestCode (.setSchedule p)) notify s
  | .loadTariff notify p => commandFetched (some (.loadTariff p)) (requestCode (.loadTariff p)) notify s
  | .openAccount notify p => commandFetched (some (.openAccount p)) (requestCode (.openAccount p)) notify s
  | .grant notify p => commandFetched (some (.grant p)) (requestCode (.grant p)) notify s
  | .suspend notify account => commandFetched (some (.suspend account)) (requestCode (.suspend account)) notify s
  | .resume notify account => commandFetched (some (.resume account)) (requestCode (.resume account)) notify s
  | .closeAccount notify account => commandFetched (some (.closeAccount account)) (requestCode (.closeAccount account)) notify s
  | .loadPartner notify p => commandFetched (some (.loadPartner p)) (requestCode (.loadPartner p)) notify s
  | .settle notify => commandFetched (some (.settle)) (requestCode (.settle)) notify s
  | .flush notify => commandFetched (some (.flush)) (requestCode (.flush)) notify s
  | .radioDownlinkRingWrite t => arrive t s

/-- What a row answers: a row that brings a transaction refuses one that is not of the transaction form, a response of the
wrong length faults, and every other row answers the state `after` gives. -/
theorem exec_eq (i : Instr) (s : State) : exec i s =
    if i.wellFormed = false then .refused .malformedTransaction
    else match i, heard s with
      | .passingResponse ok data, .passing p :: _ => if lengthOk p ok data then .next (after i s) else .fault .responseLength
      | _, _ => .next (after i s) := by
  have hport (t : Txn) : atPort t s =
      if t.wellFormed = false then .refused .malformedTransaction else .next (arrive t s) := by
    unfold atPort
    split <;> simp_all
  cases i
  case passingResponse ok data =>
    change execPassingResponse ok data s = _
    simp only [execPassingResponse, Instr.wellFormed, Instr.txn, after]
    split <;> simp_all
  all_goals first | exact hport _ | rfl

/-- The state a row answers is the one `after` gives. -/
theorem exec_next {i : Instr} {s t : State} (h : exec i s = .next t) : t = after i s := by
  rw [exec_eq] at h
  split at h
  · cases h
  · split at h
    · split at h <;> cases h
      rfl
    · cases h
      rfl

/-- A row that brings no transaction and is no response of a passing transaction always answers a state. -/
theorem exec_of_none {i : Instr} (h : i.txn = none) (h' : ∀ ok data, i ≠ .passingResponse ok data) (s : State) :
    exec i s = .next (after i s) := by
  rw [exec_eq, if_neg (by simp [Instr.wellFormed, h])]
  split
  · exact absurd rfl (h' _ _)
  · rfl

/-- A row that is a command of the ring is the return of the command fetch (assumption 10). -/
theorem after_ring {i : Instr} {r : Request} {notify : Bool} (h : ringOf i = some (r, notify)) (s : State) :
    after i s = commandFetched (some r) (requestCode r) notify s := by
  cases i <;> simp only [ringOf, Option.some.injEq, Prod.mk.injEq, reduceCtorEq] at h <;> obtain ⟨rfl, rfl⟩ := h <;> rfl

end Sys2Proof.Machine
end

