-- ==== Sys2Proof/Laws/TablesKept.lean ====
section
/-! SUPPORT. Every operation keeps every sparse table in its canonical form. -/

namespace Sys2Proof.Machine

/-- Every sparse table of the state is in canonical form. -/
def TabsOk (s : State) : Prop := tabWf s.pos.zones = true ∧
  tabWf s.sup.links = true ∧
  tabWf s.relay.ready = true ∧
  tabWf s.relay.held = true ∧
  tabWf s.relay.table = true ∧
  tabWf s.gate.map = true ∧
  tabWf s.rate.tariffs = true ∧
  tabWf s.cache.lines = true ∧
  tabWf s.settle.partners = true ∧
  tabWf s.settle.admitted = true ∧
  tabWf s.settle.accums = true

theorem tablesWf_iff (s : State) : tablesWf s = true ↔ TabsOk s := by
  simp [tablesWf, TabsOk, and_assoc]

/-- A state written out over `s` keeps the tables' form where each table does. -/
theorem TabsOk.lit {s : State} (h : TabsOk s) {clock cfg pos cov path sup relay gate rate acct cache settle cmd rep}
    (h0 : tabWf s.pos.zones = true → tabWf pos.zones = true)
    (h1 : tabWf s.sup.links = true → tabWf sup.links = true)
    (h2 : tabWf s.relay.ready = true → tabWf relay.ready = true)
    (h3 : tabWf s.relay.held = true → tabWf relay.held = true)
    (h4 : tabWf s.relay.table = true → tabWf relay.table = true)
    (h5 : tabWf s.gate.map = true → tabWf gate.map = true)
    (h6 : tabWf s.rate.tariffs = true → tabWf rate.tariffs = true)
    (h7 : tabWf s.cache.lines = true → tabWf cache.lines = true)
    (h8 : tabWf s.settle.partners = true → tabWf settle.partners = true)
    (h9 : tabWf s.settle.admitted = true → tabWf settle.admitted = true)
    (h10 : tabWf s.settle.accums = true → tabWf settle.accums = true) :
    TabsOk { pending := s.pending, clock := clock, cfg := cfg, pos := pos, cov := cov, path := path, sup := sup,
             relay := relay, gate := gate, rate := rate, acct := acct, cache := cache, settle := settle, cmd := cmd,
             rep := rep } :=
  ⟨h0 h.1, h1 h.2.1, h2 h.2.2.1, h3 h.2.2.2.1, h4 h.2.2.2.2.1, h5 h.2.2.2.2.2.1, h6 h.2.2.2.2.2.2.1, h7
      h.2.2.2.2.2.2.2.1, h8 h.2.2.2.2.2.2.2.2.1, h9 h.2.2.2.2.2.2.2.2.2.1, h10 h.2.2.2.2.2.2.2.2.2.2⟩

theorem wf_foldl {α : Type} {f : State → α → State} (hf : ∀ s a, TabsOk s → TabsOk (f s a)) (l : List α) {s : State}
    (hp : TabsOk s) : TabsOk (l.foldl f s) :=
  List.foldlRecOn (motive := TabsOk) l f hp fun t ht a _ => hf t a ht

theorem tabWf_foldl_upd {α : Type} [Inhabited α] [DecidableEq α] (f : α → α) (l : List Nat) {t : Tab α}
    (h : tabWf t = true) : tabWf (l.foldl (fun t i => upd t i f) t) = true :=
  List.foldlRecOn (motive := fun t => tabWf t = true) l (fun t i => upd t i f) h fun t ht i _ => tabWf_upd t i f ht

theorem placeWrite_wf (w : OwnWrite) {s : State} (hp : TabsOk s) :
    TabsOk (placeWrite w s) := by
  simpa [TabsOk] using hp

theorem issueRead_wf (b : Block) (addr : Nat) (beats : Nat) (use : ReadUse) {s : State} (hp : TabsOk s) :
    TabsOk (issueRead b addr beats use s) := by
  simpa [TabsOk] using hp

theorem pumpReports_wf (n : Nat) {s : State} (hp : TabsOk s) :
    TabsOk (pumpReports n s) := by
  simpa [TabsOk] using hp

theorem runReports_wf  {s : State} (hp : TabsOk s) :
    TabsOk (runReports s) := by
  simpa [TabsOk] using hp

theorem placeReport_wf (r : Report) {s : State} (hp : TabsOk s) :
    TabsOk (placeReport r s) := by
  simpa [TabsOk] using hp

theorem offerEvent_wf (r : Report) {s : State} (hp : TabsOk s) :
    TabsOk (offerEvent r s) := by
  simpa [TabsOk] using hp

theorem event_wf (kind : Nat) (cause : Nat) (flags : Nat) (fields : List (Nat × Nat × Nat)) {s : State} (hp : TabsOk
    s) :
    TabsOk (event kind cause flags fields s) := by
  simpa [TabsOk] using hp

theorem tryFetch_wf  {s : State} (hp : TabsOk s) :
    TabsOk (tryFetch s) := by
  simpa [TabsOk] using hp

theorem applyLatch_wf (l : Latch) {s : State} (hp : TabsOk s) :
    TabsOk (applyLatch l s) := by
  simpa [TabsOk] using hp

theorem applyLatches_wf  {s : State} (hp : TabsOk s) :
    TabsOk (applyLatches s) := by
  simpa [TabsOk] using hp

theorem finishJob_wf  {s : State} (hp : TabsOk s) :
    TabsOk (finishJob s) := by
  simpa [TabsOk] using hp

theorem writeConsumer_wf  {s : State} (hp : TabsOk s) :
    TabsOk (writeConsumer s) := by
  simpa [TabsOk] using hp

theorem writeStatus_wf  {s : State} (hp : TabsOk s) :
    TabsOk (writeStatus s) := by
  simpa [TabsOk] using hp

theorem complete_wf (st : Status) (vals : List (Nat × Nat)) (rewrites : List (Nat × Nat × Nat)) {s : State} (hp :
    TabsOk s) :
    TabsOk (complete st vals rewrites s) := by
  simpa [TabsOk] using hp

theorem refuse_wf (st : Status) {s : State} (hp : TabsOk s) :
    TabsOk (refuse st s) := by
  simpa [TabsOk] using hp

theorem covMove_wf (new : CovState) (cause : CovCause) {s : State} (hp : TabsOk s) :
    TabsOk (covMove new cause s) := by
  simpa [TabsOk] using hp

theorem openingTest_wf  {s : State} (hp : TabsOk s) :
    TabsOk (openingTest s) := by
  simpa [TabsOk] using hp

theorem covDark_wf (cause : CovCause) {s : State} (hp : TabsOk s) :
    TabsOk (covDark cause s) := by
  simpa [TabsOk] using hp

theorem covAttr_wf (c : Cover) {s : State} (hp : TabsOk s) :
    TabsOk (covAttr c s) := by
  simpa [TabsOk] using hp

theorem covLeaveRunning_wf  {s : State} (hp : TabsOk s) :
    TabsOk (covLeaveRunning s) := by
  simpa [TabsOk] using hp

theorem covClose_wf (cause : CovCause) {s : State} (hp : TabsOk s) :
    TabsOk (covClose cause s) := by
  simpa [TabsOk] using hp

theorem covPositionLost_wf  {s : State} (hp : TabsOk s) :
    TabsOk (covPositionLost s) := by
  simpa [TabsOk] using hp

theorem covBackhaul_wf (present : Bool) {s : State} (hp : TabsOk s) :
    TabsOk (covBackhaul present s) := by
  simpa [TabsOk] using hp

theorem covHold_wf  {s : State} (hp : TabsOk s) :
    TabsOk (covHold s) := by
  simpa [TabsOk] using hp

theorem covRelease_wf  {s : State} (hp : TabsOk s) :
    TabsOk (covRelease s) := by
  simpa [TabsOk] using hp

theorem lostGraceExpiry_wf  {s : State} (hp : TabsOk s) :
    TabsOk (lostGraceExpiry s) := by
  simpa [TabsOk] using hp

theorem backhaulLossExpiry_wf  {s : State} (hp : TabsOk s) :
    TabsOk (backhaulLossExpiry s) := by
  simpa [TabsOk] using hp

theorem warmUpExpiry_wf  {s : State} (hp : TabsOk s) :
    TabsOk (warmUpExpiry s) := by
  simpa [TabsOk] using hp

theorem drainExpiry_wf  {s : State} (hp : TabsOk s) :
    TabsOk (drainExpiry s) := by
  simpa [TabsOk] using hp

theorem darkMinimumExpiry_wf  {s : State} (hp : TabsOk s) :
    TabsOk (darkMinimumExpiry s) := by
  simpa [TabsOk] using hp

theorem recomputeFlag_wf (cause : Nat) (p : Nat) {s : State} (hp : TabsOk s) :
    TabsOk (recomputeFlag cause p s) := by
  unfold recomputeFlag
  iterate 24 all_goals try (first | with_reducible exact hp | with_reducible apply event_wf | split | dsimp only
                                  | with_reducible exact id | with_reducible exact tabWf_put _ _ _
                                  | with_reducible exact fun _ => tabWf_nil
                                  | with_reducible exact fun h => tabWf_foldl_upd _ _ h
                                  | with_reducible refine TabsOk.lit ?_ ?_ ?_ ?_ ?_ ?_ ?_ ?_ ?_ ?_ ?_ ?_)

theorem settlePublish_wf (region : Nat) {s : State} (hp : TabsOk s) :
    TabsOk (settlePublish region s) := by
  unfold settlePublish
  iterate 24 all_goals try (first | with_reducible exact hp | with_reducible apply recomputeFlag_wf
                                  | with_reducible refine wf_foldl (fun s a hp => ?_) _ ?_ | dsimp only | split
                                  | with_reducible exact id | with_reducible exact tabWf_put _ _ _
                                  | with_reducible exact fun _ => tabWf_nil
                                  | with_reducible exact fun h => tabWf_foldl_upd _ _ h
                                  | with_reducible refine TabsOk.lit ?_ ?_ ?_ ?_ ?_ ?_ ?_ ?_ ?_ ?_ ?_ ?_)

theorem addAccum_wf (pair : Nat) (charge : Nat) (up : Nat) (down : Nat) (events : Nat) {s : State} (hp : TabsOk s) :
    TabsOk (addAccum pair charge up down events s) := by
  unfold addAccum
  iterate 24 all_goals try (first | with_reducible exact hp | split | dsimp only | with_reducible exact id
                                  | with_reducible exact tabWf_put _ _ _ | with_reducible exact fun _ => tabWf_nil
                                  | with_reducible exact fun h => tabWf_foldl_upd _ _ h
                                  | with_reducible refine TabsOk.lit ?_ ?_ ?_ ?_ ?_ ?_ ?_ ?_ ?_ ?_ ?_ ?_)

theorem cutPair_wf (w : Walk) (pair : Nat) {s : State} (hp : TabsOk s) :
    TabsOk (cutPair w pair s) := by
  unfold cutPair
  iterate 24 all_goals try (first | with_reducible exact hp | with_reducible apply placeReport_wf | split
                                  | dsimp only | with_reducible exact id | with_reducible exact tabWf_put _ _ _
                                  | with_reducible exact fun _ => tabWf_nil
                                  | with_reducible exact fun h => tabWf_foldl_upd _ _ h
                                  | with_reducible refine TabsOk.lit ?_ ?_ ?_ ?_ ?_ ?_ ?_ ?_ ?_ ?_ ?_ ?_)

theorem endWalk_wf (w : Walk) {s : State} (hp : TabsOk s) :
    TabsOk (endWalk w s) := by
  unfold endWalk
  iterate 24 all_goals try (first | with_reducible exact hp | with_reducible apply complete_wf | split | dsimp only
                                  | with_reducible exact id | with_reducible exact tabWf_put _ _ _
                                  | with_reducible exact fun _ => tabWf_nil
                                  | with_reducible exact fun h => tabWf_foldl_upd _ _ h
                                  | with_reducible refine TabsOk.lit ?_ ?_ ?_ ?_ ?_ ?_ ?_ ?_ ?_ ?_ ?_ ?_)

theorem runWalk_wf (n : Nat) {s : State} (hp : TabsOk s) :
    TabsOk (runWalk n s) := by
  induction n generalizing s with
  | zero => simpa [runWalk] using hp
  | succ n ih =>
    unfold runWalk
    iterate 24 all_goals try (first | with_reducible exact hp | with_reducible apply ih
                                    | with_reducible apply cutPair_wf | with_reducible apply endWalk_wf | split
                                    | dsimp only | with_reducible exact id | with_reducible exact tabWf_put _ _ _
                                    | with_reducible exact fun _ => tabWf_nil
                                    | with_reducible exact fun h => tabWf_foldl_upd _ _ h
                                    | with_reducible refine TabsOk.lit ?_ ?_ ?_ ?_ ?_ ?_ ?_ ?_ ?_ ?_ ?_ ?_)

theorem goOnWalk_wf  {s : State} (hp : TabsOk s) :
    TabsOk (goOnWalk s) := by
  unfold goOnWalk
  iterate 24 all_goals try (first | with_reducible exact hp | with_reducible apply runWalk_wf)

theorem beginWalk_wf (stopCause : Bool) {s : State} (hp : TabsOk s) :
    TabsOk (beginWalk stopCause s) := by
  unfold beginWalk
  iterate 24 all_goals try (first | with_reducible exact hp | with_reducible apply goOnWalk_wf | split | dsimp only
                                  | with_reducible exact id | with_reducible exact tabWf_put _ _ _
                                  | with_reducible exact fun _ => tabWf_nil
                                  | with_reducible exact fun h => tabWf_foldl_upd _ _ h
                                  | with_reducible refine TabsOk.lit ?_ ?_ ?_ ?_ ?_ ?_ ?_ ?_ ?_ ?_ ?_ ?_)

theorem setEntry_wf (e : Nat) (en : Entry) {s : State} (hp : TabsOk s) :
    TabsOk (setEntry e en s) := by
  unfold setEntry
  iterate 24 all_goals try (first | with_reducible exact hp | split | dsimp only | with_reducible exact id
                                  | with_reducible exact tabWf_put _ _ _ | with_reducible exact fun _ => tabWf_nil
                                  | with_reducible exact fun h => tabWf_foldl_upd _ _ h
                                  | with_reducible refine TabsOk.lit ?_ ?_ ?_ ?_ ?_ ?_ ?_ ?_ ?_ ?_ ?_ ?_)

theorem setLink_wf (k : Nat) (l : Link) {s : State} (hp : TabsOk s) :
    TabsOk (setLink k l s) := by
  unfold setLink
  iterate 24 all_goals try (first | with_reducible exact hp | split | dsimp only | with_reducible exact id
                                  | with_reducible exact tabWf_put _ _ _ | with_reducible exact fun _ => tabWf_nil
                                  | with_reducible exact fun h => tabWf_foldl_upd _ _ h
                                  | with_reducible refine TabsOk.lit ?_ ?_ ?_ ?_ ?_ ?_ ?_ ?_ ?_ ?_ ?_ ?_)

theorem tryTake_wf  {s : State} (hp : TabsOk s) :
    TabsOk (tryTake s) := by
  unfold tryTake
  iterate 24 all_goals try (first | with_reducible exact hp | with_reducible apply issueRead_wf | split | dsimp only
                                  | with_reducible exact id | with_reducible exact tabWf_put _ _ _
                                  | with_reducible exact fun _ => tabWf_nil
                                  | with_reducible exact fun h => tabWf_foldl_upd _ _ h
                                  | with_reducible refine TabsOk.lit ?_ ?_ ?_ ?_ ?_ ?_ ?_ ?_ ?_ ?_ ?_ ?_)

theorem freeEntry_wf (e : Nat) {s : State} (hp : TabsOk s) :
    TabsOk (freeEntry e s) := by
  unfold freeEntry
  iterate 24 all_goals try (first | with_reducible exact hp | split | dsimp only | with_reducible exact id
                                  | with_reducible exact tabWf_put _ _ _ | with_reducible exact fun _ => tabWf_nil
                                  | with_reducible exact fun h => tabWf_foldl_upd _ _ h
                                  | with_reducible refine TabsOk.lit ?_ ?_ ?_ ?_ ?_ ?_ ?_ ?_ ?_ ?_ ?_ ?_)

theorem endEntry_wf (inPass : Bool) (e : Nat) (f : Final) (link : Option Nat) {s : State} (hp : TabsOk s) :
    TabsOk (endEntry inPass e f link s) := by
  unfold endEntry
  iterate 24 all_goals try (first | with_reducible exact hp | with_reducible apply placeWrite_wf
                                  | with_reducible apply setEntry_wf | with_reducible apply freeEntry_wf | split
                                  | dsimp only | with_reducible exact id | with_reducible exact tabWf_put _ _ _
                                  | with_reducible exact fun _ => tabWf_nil
                                  | with_reducible exact fun h => tabWf_foldl_upd _ _ h
                                  | with_reducible refine TabsOk.lit ?_ ?_ ?_ ?_ ?_ ?_ ?_ ?_ ?_ ?_ ?_ ?_)

theorem installSchedule_wf (sch : Schedule) {s : State} (hp : TabsOk s) :
    TabsOk (installSchedule sch s) := by
  unfold installSchedule
  iterate 24 all_goals try (first | with_reducible exact hp | split | dsimp only | with_reducible exact id
                                  | with_reducible exact tabWf_put _ _ _ | with_reducible exact fun _ => tabWf_nil
                                  | with_reducible exact fun h => tabWf_foldl_upd _ _ h
                                  | with_reducible refine TabsOk.lit ?_ ?_ ?_ ?_ ?_ ?_ ?_ ?_ ?_ ?_ ?_ ?_)

theorem scheduleModeChange_wf  {s : State} (hp : TabsOk s) :
    TabsOk (scheduleModeChange s) := by
  unfold scheduleModeChange
  iterate 24 all_goals try (first | with_reducible exact hp | with_reducible apply installSchedule_wf | split
                                  | dsimp only | with_reducible exact id | with_reducible exact tabWf_put _ _ _
                                  | with_reducible exact fun _ => tabWf_nil
                                  | with_reducible exact fun h => tabWf_foldl_upd _ _ h
                                  | with_reducible refine TabsOk.lit ?_ ?_ ?_ ?_ ?_ ?_ ?_ ?_ ?_ ?_ ?_ ?_)

theorem examine_wf (n left : Nat) {s : State} (hp : TabsOk s) : TabsOk (examine n left s).1 := by
  induction n generalizing left s with
  | zero => exact hp
  | succ n ih =>
    cases left with
    | zero => exact hp
    | succ left =>
      have h (r : Nat) : TabsOk { s with relay := { s.relay with round := r } } := hp
      rw [examine]
      dsimp only
      repeat' split
      all_goals first
        | exact installSchedule_wf _ (h _)
        | exact h _
        | exact ih _ (installSchedule_wf _ (h _))
        | exact ih _ (h _)

theorem chooseWaiting_wf  {s : State} (hp : TabsOk s) :
    TabsOk (chooseWaiting s).1 := by
  unfold chooseWaiting
  iterate 24 all_goals try (first | with_reducible exact hp | with_reducible apply examine_wf | split)

theorem markPosted_wf (e : Nat) (k : Nat) {s : State} (hp : TabsOk s) :
TabsOk (markPosted e k s) := by
  unfold markPosted
  iterate 24 all_goals try (first | with_reducible exact hp | with_reducible apply setEntry_wf
                                  | with_reducible apply setLink_wf | split | dsimp only | with_reducible exact id
                                  | with_reducible exact tabWf_put _ _ _ | with_reducible exact fun _ => tabWf_nil
                                  | with_reducible exact fun h => tabWf_foldl_upd _ _ h
                                  | with_reducible refine TabsOk.lit ?_ ?_ ?_ ?_ ?_ ?_ ?_ ?_ ?_ ?_ ?_ ?_)

theorem post_wf (e : Nat) (k : Nat) {s : State} (hp : TabsOk s) :
TabsOk (post e k s) := by
  unfold post
  iterate 24 all_goals try (first | with_reducible exact hp | with_reducible apply markPosted_wf
                                  | with_reducible apply placeWrite_wf | split | dsimp only | with_reducible exact id
                                  | with_reducible exact tabWf_put _ _ _ | with_reducible exact fun _ => tabWf_nil
                                  | with_reducible exact fun h => tabWf_foldl_upd _ _ h
                                  | with_reducible refine TabsOk.lit ?_ ?_ ?_ ?_ ?_ ?_ ?_ ?_ ?_ ?_ ?_ ?_)

theorem dropPosts_wf (cut : Nat → Bool) {s : State} (hp : TabsOk s) :
TabsOk (dropPosts cut s) := by
  unfold dropPosts
  iterate 24 all_goals try (first | with_reducible exact hp | split | dsimp only | with_reducible exact id
                                  | with_reducible exact tabWf_put _ _ _ | with_reducible exact fun _ => tabWf_nil
                                  | with_reducible exact fun h => tabWf_foldl_upd _ _ h
                                  | with_reducible refine TabsOk.lit ?_ ?_ ?_ ?_ ?_ ?_ ?_ ?_ ?_ ?_ ?_ ?_)

theorem judgeHead_wf (retry : Bool) (e : Nat) {s : State} (hp : TabsOk s) :
    TabsOk (judgeHead retry e s).1 := by
  unfold judgeHead
  iterate 24 all_goals try (first | with_reducible exact hp | with_reducible apply endEntry_wf
                                  | with_reducible apply chooseWaiting_wf | with_reducible apply post_wf | split
                                  | dsimp only)

theorem passLoop_wf (n : Nat) {s : State} (hp : TabsOk s) :
    TabsOk (passLoop n s) := by
  induction n generalizing s with
  | zero => simpa [passLoop] using hp
  | succ n ih =>
    unfold passLoop
    iterate 24 all_goals try (first | with_reducible exact hp | with_reducible apply ih
                                    | with_reducible apply judgeHead_wf | split | dsimp only)

theorem dispatchPass_wf  {s : State} (hp : TabsOk s) :
    TabsOk (dispatchPass s) := by
  unfold dispatchPass
  iterate 24 all_goals try (first | with_reducible exact hp | with_reducible apply passLoop_wf | split)

theorem uncount_wf (e : Nat) {s : State} (hp : TabsOk s) :
    TabsOk (uncount e s) := by
  unfold uncount
  iterate 24 all_goals try (first | with_reducible exact hp | with_reducible apply setEntry_wf
                                  | with_reducible apply setLink_wf | split | dsimp only)

theorem toRetry_wf (e : Nat) {s : State} (hp : TabsOk s) :
    TabsOk (toRetry e s) := by
  unfold toRetry
  iterate 24 all_goals try (first | with_reducible exact hp | with_reducible apply setEntry_wf | split | dsimp only
                                  | with_reducible exact id | with_reducible exact tabWf_put _ _ _
                                  | with_reducible exact fun _ => tabWf_nil
                                  | with_reducible exact fun h => tabWf_foldl_upd _ _ h
                                  | with_reducible refine TabsOk.lit ?_ ?_ ?_ ?_ ?_ ?_ ?_ ?_ ?_ ?_ ?_ ?_)

theorem failEntry_wf (e : Nat) {s : State} (hp : TabsOk s) :
    TabsOk (failEntry e s) := by
  unfold failEntry
  iterate 24 all_goals try (first | with_reducible exact hp | with_reducible apply endEntry_wf
                                  | with_reducible apply toRetry_wf | split)

theorem releaseLink_wf (k : Nat) {s : State} (hp : TabsOk s) :
    TabsOk (releaseLink k s) := by
  unfold releaseLink
  iterate 24 all_goals try (first | with_reducible exact hp | with_reducible apply setEntry_wf
                                  | with_reducible apply setLink_wf | with_reducible apply failEntry_wf
                                  | with_reducible refine wf_foldl (fun s a hp => ?_) _ ?_ | dsimp only | split)

theorem setLine_wf (i : Nat) (l : Line) {s : State} (hp : TabsOk s) :
    TabsOk (setLine i l s) := by
  unfold setLine
  iterate 24 all_goals try (first | with_reducible exact hp | split | dsimp only | with_reducible exact id
                                  | with_reducible exact tabWf_put _ _ _ | with_reducible exact fun _ => tabWf_nil
                                  | with_reducible exact fun h => tabWf_foldl_upd _ _ h
                                  | with_reducible refine TabsOk.lit ?_ ?_ ?_ ?_ ?_ ?_ ?_ ?_ ?_ ?_ ?_ ?_)

theorem beginWriteBack_wf (i : Nat) {s : State} (hp : TabsOk s) :
    TabsOk (beginWriteBack i s) := by
  unfold beginWriteBack
  iterate 24 all_goals try (first | with_reducible exact hp | with_reducible apply placeWrite_wf
                                  | with_reducible apply setLine_wf | split | dsimp only)

theorem touchLine_wf (i : Nat) {s : State} (hp : TabsOk s) :
    TabsOk (touchLine i s) := by
  unfold touchLine
  iterate 24 all_goals try (first | with_reducible exact hp | split | dsimp only | with_reducible exact id
                                  | with_reducible exact tabWf_put _ _ _ | with_reducible exact fun _ => tabWf_nil
                                  | with_reducible exact fun h => tabWf_foldl_upd _ _ h
                                  | with_reducible refine TabsOk.lit ?_ ?_ ?_ ?_ ?_ ?_ ?_ ?_ ?_ ?_ ?_ ?_)

theorem assignVictim_wf (i : Nat) (m : Miss) {s : State} (hp : TabsOk s) :
    TabsOk (assignVictim i m s) := by
  unfold assignVictim
  iterate 24 all_goals try (first | with_reducible exact hp | with_reducible apply issueRead_wf
                                  | with_reducible apply setLine_wf | with_reducible apply touchLine_wf)

theorem beginEvictions_wf (n : Nat) {s : State} (hp : TabsOk s) :
TabsOk (beginEvictions n s) := by
  induction n generalizing s with
  | zero => simpa [beginEvictions] using hp
  | succ n ih =>
    unfold beginEvictions
    iterate 24 all_goals try (first | with_reducible exact hp | with_reducible apply ih
                                    | with_reducible apply setLine_wf | with_reducible apply beginWriteBack_wf
                                    | split | dsimp only | with_reducible exact id
                                    | with_reducible exact tabWf_put _ _ _ | with_reducible exact fun _ => tabWf_nil
                                    | with_reducible exact fun h => tabWf_foldl_upd _ _ h
                                    | with_reducible refine TabsOk.lit ?_ ?_ ?_ ?_ ?_ ?_ ?_ ?_ ?_ ?_ ?_ ?_)

theorem endEviction_wf (i : Nat) {s : State} (hp : TabsOk s) :
TabsOk (endEviction i s) := by
  simpa [TabsOk] using hp

theorem seekVictims_wf (n : Nat) {s : State} (hp : TabsOk s) :
    TabsOk (seekVictims n s) := by
  induction n generalizing s with
  | zero => simpa [seekVictims] using hp
  | succ n ih =>
    unfold seekVictims
    iterate 24 all_goals try (first | with_reducible exact hp | with_reducible apply ih
                                    | with_reducible apply assignVictim_wf | with_reducible apply beginEvictions_wf
                                    | split | dsimp only | with_reducible exact id
                                    | with_reducible exact tabWf_put _ _ _ | with_reducible exact fun _ => tabWf_nil
                                    | with_reducible exact fun h => tabWf_foldl_upd _ _ h
                                    | with_reducible refine TabsOk.lit ?_ ?_ ?_ ?_ ?_ ?_ ?_ ?_ ?_ ?_ ?_ ?_)

theorem serveMisses_wf  {s : State} (hp : TabsOk s) :
    TabsOk (serveMisses s) := by
  unfold serveMisses
  iterate 24 all_goals try (first | with_reducible exact hp | with_reducible apply seekVictims_wf | split)

theorem requestLine_wf (r : Requester) (a : Nat) {s : State} (hp : TabsOk s) :
    TabsOk (requestLine r a s) := by
  unfold requestLine
  iterate 24 all_goals try (first | with_reducible exact hp | with_reducible apply setLine_wf
                                  | with_reducible apply serveMisses_wf | split | dsimp only
                                  | with_reducible exact id | with_reducible exact tabWf_put _ _ _
                                  | with_reducible exact fun _ => tabWf_nil
                                  | with_reducible exact fun h => tabWf_foldl_upd _ _ h
                                  | with_reducible refine TabsOk.lit ?_ ?_ ?_ ?_ ?_ ?_ ?_ ?_ ?_ ?_ ?_ ?_)

theorem mapLines_wf (f : Line → Line) {s : State} (hp : TabsOk s) :
    TabsOk (mapLines f s) := by
  unfold mapLines
  iterate 24 all_goals try (first | with_reducible exact hp | with_reducible refine wf_foldl (fun s a hp => ?_) _ ?_
                                  | dsimp only | split | with_reducible exact id
                                  | with_reducible exact tabWf_put _ _ _ | with_reducible exact fun _ => tabWf_nil
                                  | with_reducible exact fun h => tabWf_foldl_upd _ _ h
                                  | with_reducible refine TabsOk.lit ?_ ?_ ?_ ?_ ?_ ?_ ?_ ?_ ?_ ?_ ?_ ?_)

theorem withdraw_wf (r : Requester) {s : State} (hp : TabsOk s) :
    TabsOk (withdraw r s) := by
  unfold withdraw
  iterate 24 all_goals try (first | with_reducible exact hp | with_reducible apply mapLines_wf | split | dsimp only
                                  | with_reducible exact id | with_reducible exact tabWf_put _ _ _
                                  | with_reducible exact fun _ => tabWf_nil
                                  | with_reducible exact fun h => tabWf_foldl_upd _ _ h
                                  | with_reducible refine TabsOk.lit ?_ ?_ ?_ ?_ ?_ ?_ ?_ ?_ ?_ ?_ ?_ ?_)

theorem changeLine_wf (i : Nat) (r : AcctRec) {s : State} (hp : TabsOk s) :
    TabsOk (changeLine i r s) := by
  unfold changeLine
  iterate 24 all_goals try (first | with_reducible exact hp | with_reducible apply setLine_wf | split | dsimp only)

theorem answerRead_wf (a : Nat) (ans : Answer) {s : State} (hp : TabsOk s) :
    TabsOk (answerRead a ans s) := by
  simpa [TabsOk] using hp

theorem readGrant_wf (i : Nat) {s : State} (hp : TabsOk s) :
    TabsOk (readGrant i s) := by
  unfold readGrant
  iterate 24 all_goals try (first | with_reducible exact hp | with_reducible apply beginWriteBack_wf
                                  | with_reducible apply answerRead_wf | split | dsimp only)

theorem presentRead_wf (a : Nat) {s : State} (hp : TabsOk s) :
    TabsOk (presentRead a s) := by
  unfold presentRead
  iterate 24 all_goals try (first | with_reducible exact hp | with_reducible apply setLine_wf
                                  | with_reducible apply answerRead_wf | with_reducible apply readGrant_wf | split)

theorem ageExpiry_wf (i : Nat) {s : State} (hp : TabsOk s) :
    TabsOk (ageExpiry i s) := by
  unfold ageExpiry
  iterate 24 all_goals try (first | with_reducible exact hp | with_reducible apply beginWriteBack_wf | split)

theorem answerWaitingReads_wf  {s : State} (hp : TabsOk s) :
    TabsOk (answerWaitingReads s) := by
  simpa [TabsOk] using hp

theorem invalidateAll_wf  {s : State} (hp : TabsOk s) :
    TabsOk (invalidateAll s) := by
  unfold invalidateAll
  iterate 24 all_goals try (first | with_reducible exact hp | with_reducible apply answerWaitingReads_wf | split
                                  | dsimp only | with_reducible exact id | with_reducible exact tabWf_put _ _ _
                                  | with_reducible exact fun _ => tabWf_nil
                                  | with_reducible exact fun h => tabWf_foldl_upd _ _ h
                                  | with_reducible refine TabsOk.lit ?_ ?_ ?_ ?_ ?_ ?_ ?_ ?_ ?_ ?_ ?_ ?_)

theorem writeBackAll_wf  {s : State} (hp : TabsOk s) :
    TabsOk (writeBackAll s) := by
  unfold writeBackAll
  iterate 24 all_goals try (first | with_reducible exact hp | with_reducible apply beginWriteBack_wf
                                  | with_reducible refine wf_foldl (fun s a hp => ?_) _ ?_)

theorem swapTo_wf (t : Option Nat) (cause : SwapCause) {s : State} (hp : TabsOk s) :
    TabsOk (swapTo t cause s) := by
  unfold swapTo
  iterate 24 all_goals try (first | with_reducible exact hp | with_reducible apply event_wf | split | dsimp only
                                  | with_reducible exact id | with_reducible exact tabWf_put _ _ _
                                  | with_reducible exact fun _ => tabWf_nil
                                  | with_reducible exact fun h => tabWf_foldl_upd _ _ h
                                  | with_reducible refine TabsOk.lit ?_ ?_ ?_ ?_ ?_ ?_ ?_ ?_ ?_ ?_ ?_ ?_)

theorem noDeferred_wf  {s : State} (hp : TabsOk s) :
    TabsOk (noDeferred s) := by
  unfold noDeferred
  iterate 24 all_goals try (first | with_reducible exact hp | split | dsimp only | with_reducible exact id
                                  | with_reducible exact tabWf_put _ _ _ | with_reducible exact fun _ => tabWf_nil
                                  | with_reducible exact fun h => tabWf_foldl_upd _ _ h
                                  | with_reducible refine TabsOk.lit ?_ ?_ ?_ ?_ ?_ ?_ ?_ ?_ ?_ ?_ ?_ ?_)

theorem bringActive_wf (modeSwap : Bool) {s : State} (hp : TabsOk s) :
    TabsOk (bringActive modeSwap s) := by
  unfold bringActive
  iterate 24 all_goals try (first | with_reducible exact hp | with_reducible apply swapTo_wf
                                  | with_reducible apply noDeferred_wf | split | dsimp only
                                  | with_reducible exact id | with_reducible exact tabWf_put _ _ _
                                  | with_reducible exact fun _ => tabWf_nil
                                  | with_reducible exact fun h => tabWf_foldl_upd _ _ h
                                  | with_reducible refine TabsOk.lit ?_ ?_ ?_ ?_ ?_ ?_ ?_ ?_ ?_ ?_ ?_ ?_)

theorem publishBackhaul_wf  {s : State} (hp : TabsOk s) :
    TabsOk (publishBackhaul s) := by
  unfold publishBackhaul
  iterate 24 all_goals try (first | with_reducible exact hp | with_reducible apply covBackhaul_wf | split
                                  | dsimp only | with_reducible exact id | with_reducible exact tabWf_put _ _ _
                                  | with_reducible exact fun _ => tabWf_nil
                                  | with_reducible exact fun h => tabWf_foldl_upd _ _ h
                                  | with_reducible refine TabsOk.lit ?_ ?_ ?_ ?_ ?_ ?_ ?_ ?_ ?_ ?_ ?_ ?_)

theorem clearActive_wf  {s : State} (hp : TabsOk s) :
    TabsOk (clearActive s) := by
  unfold clearActive
  iterate 24 all_goals try (first | with_reducible exact hp | with_reducible apply swapTo_wf
                                  | with_reducible apply noDeferred_wf | split | dsimp only)

theorem tellMode_wf (old : LinkMode) {s : State} (hp : TabsOk s) :
    TabsOk (tellMode old s) := by
  unfold tellMode
  iterate 24 all_goals try (first | with_reducible exact hp | with_reducible apply scheduleModeChange_wf | split)

theorem selectorEval_wf  {s : State} (hp : TabsOk s) :
    TabsOk (selectorEval s) := by
  unfold selectorEval
  iterate 24 all_goals try (first | with_reducible exact hp | with_reducible apply bringActive_wf
                                  | with_reducible apply publishBackhaul_wf | with_reducible apply clearActive_wf
                                  | with_reducible apply tellMode_wf | split | dsimp only | with_reducible exact id
                                  | with_reducible exact tabWf_put _ _ _ | with_reducible exact fun _ => tabWf_nil
                                  | with_reducible exact fun h => tabWf_foldl_upd _ _ h
                                  | with_reducible refine TabsOk.lit ?_ ?_ ?_ ?_ ?_ ?_ ?_ ?_ ?_ ?_ ?_ ?_)

theorem linkStateReport_wf (k : Nat) (old : Health) (cause : LinkCause) {s : State} (hp : TabsOk s) :
    TabsOk (linkStateReport k old cause s) := by
  simpa [TabsOk] using hp

theorem moveHealth_wf (k : Nat) (h : Health) (cause : LinkCause) {s : State} (hp : TabsOk s) :
    TabsOk (moveHealth k h cause s) := by
  unfold moveHealth
  iterate 24 all_goals try (first | with_reducible exact hp | with_reducible apply setLink_wf
                                  | with_reducible apply selectorEval_wf | with_reducible apply linkStateReport_wf)

theorem evaluateLink_wf (k : Nat) (cause : LinkCause) {s : State} (hp : TabsOk s) :
    TabsOk (evaluateLink k cause s) := by
  unfold evaluateLink
  iterate 24 all_goals try (first | with_reducible exact hp | with_reducible apply moveHealth_wf | split
                                  | dsimp only)

theorem carrierChange_wf (k : Nat) (high : Bool) {s : State} (hp : TabsOk s) :
    TabsOk (carrierChange k high s) := by
  unfold carrierChange
  iterate 24 all_goals try (first | with_reducible exact hp | with_reducible apply setLink_wf
                                  | with_reducible apply evaluateLink_wf | split | dsimp only)

theorem probationExpiry_wf (k : Nat) {s : State} (hp : TabsOk s) :
    TabsOk (probationExpiry k s) := by
  unfold probationExpiry
  iterate 24 all_goals try (first | with_reducible exact hp | with_reducible apply moveHealth_wf | split)

theorem completionTimeoutExpiry_wf (k : Nat) {s : State} (hp : TabsOk s) :
    TabsOk (completionTimeoutExpiry k s) := by
  unfold completionTimeoutExpiry
  iterate 24 all_goals try (first | with_reducible exact hp | with_reducible apply moveHealth_wf | split)

theorem deferredSwapExpiry_wf  {s : State} (hp : TabsOk s) :
    TabsOk (deferredSwapExpiry s) := by
  unfold deferredSwapExpiry
  iterate 24 all_goals try (first | with_reducible exact hp | with_reducible apply noDeferred_wf
                                  | with_reducible apply selectorEval_wf | split)

theorem linkCompleted_wf (k : Nat) {s : State} (hp : TabsOk s) :
    TabsOk (linkCompleted k s) := by
  unfold linkCompleted
  iterate 24 all_goals try (first | with_reducible exact hp | with_reducible apply moveHealth_wf
                                  | with_reducible apply evaluateLink_wf
                                  | with_reducible apply completionTimeoutExpiry_wf | split | dsimp only)

theorem disableLink_wf (k : Nat) {s : State} (hp : TabsOk s) :
    TabsOk (disableLink k s) := by
  unfold disableLink
  iterate 24 all_goals try (first | with_reducible exact hp | with_reducible apply setLink_wf
                                  | with_reducible apply linkStateReport_wf | split | dsimp only)

theorem disableLinks_wf (ks : List Nat) {s : State} (hp : TabsOk s) :
    TabsOk (disableLinks ks s) := by
  unfold disableLinks
  iterate 24 all_goals try (first | with_reducible exact hp | with_reducible apply selectorEval_wf
                                  | with_reducible apply disableLink_wf
                                  | with_reducible refine wf_foldl (fun s a hp => ?_) _ ?_)

theorem disableAll_wf  {s : State} (hp : TabsOk s) :
    TabsOk (disableAll s) := by
  unfold disableAll
  iterate 24 all_goals try (first | with_reducible exact hp | with_reducible apply disableLinks_wf)

theorem enableLink_wf (k : Nat) {s : State} (hp : TabsOk s) :
    TabsOk (enableLink k s) := by
  unfold enableLink
  iterate 24 all_goals try (first | with_reducible exact hp | with_reducible apply setLink_wf
                                  | with_reducible apply moveHealth_wf | with_reducible apply evaluateLink_wf)

theorem resetLink_wf (k : Nat) {s : State} (hp : TabsOk s) :
TabsOk (resetLink k s) := by
  unfold resetLink
  iterate 24 all_goals try (first | with_reducible exact hp | with_reducible apply setLink_wf
                                  | with_reducible apply releaseLink_wf | with_reducible apply selectorEval_wf
                                  | with_reducible apply linkStateReport_wf | with_reducible apply dropPosts_wf
                                  | split | dsimp only | with_reducible exact id
                                  | with_reducible exact tabWf_put _ _ _ | with_reducible exact fun _ => tabWf_nil
                                  | with_reducible exact fun h => tabWf_foldl_upd _ _ h
                                  | with_reducible refine TabsOk.lit ?_ ?_ ?_ ?_ ?_ ?_ ?_ ?_ ?_ ?_ ?_ ?_)

theorem discard_wf  {s : State} (hp : TabsOk s) :
    TabsOk (discard s) := by
  unfold discard
  iterate 24 all_goals try (first | with_reducible exact hp | split | dsimp only | with_reducible exact id
                                  | with_reducible exact tabWf_put _ _ _ | with_reducible exact fun _ => tabWf_nil
                                  | with_reducible exact fun h => tabWf_foldl_upd _ _ h
                                  | with_reducible refine TabsOk.lit ?_ ?_ ?_ ?_ ?_ ?_ ?_ ?_ ?_ ?_ ?_ ?_)

theorem setRx_wf (p : Rx × List Byte) {s : State} (hp : TabsOk s) :
    TabsOk (setRx p s) := by
  unfold setRx
  iterate 24 all_goals try (first | with_reducible exact hp | split | dsimp only | with_reducible exact id
                                  | with_reducible exact tabWf_put _ _ _ | with_reducible exact fun _ => tabWf_nil
                                  | with_reducible exact fun h => tabWf_foldl_upd _ _ h
                                  | with_reducible refine TabsOk.lit ?_ ?_ ?_ ?_ ?_ ?_ ?_ ?_ ?_ ?_ ?_ ?_)

theorem zoneReport_wf (z : Zone) (cause : ZoneCause) (prev : Option Nat) (coords : Option (Int × Int)) {s : State}
    (hp : TabsOk s) :
    TabsOk (zoneReport z cause prev coords s) := by
  simpa [TabsOk] using hp

theorem publishZone_wf (cause : ZoneCause) (prev : Option Nat) (coords : Option (Int × Int)) {s : State} (hp :
    TabsOk s) :
    TabsOk (publishZone cause prev coords s) := by
  unfold publishZone
  iterate 24 all_goals try (first | with_reducible exact hp | with_reducible apply covAttr_wf
                                  | with_reducible apply settlePublish_wf | with_reducible apply selectorEval_wf
                                  | with_reducible apply zoneReport_wf | split)

theorem becomeCurrent_wf (z : Nat) (cause : ZoneCause) (coords : Option (Int × Int)) {s : State} (hp : TabsOk s) :
    TabsOk (becomeCurrent z cause coords s) := by
  unfold becomeCurrent
  iterate 24 all_goals try (first | with_reducible exact hp | with_reducible apply publishZone_wf | split
                                  | dsimp only | with_reducible exact id | with_reducible exact tabWf_put _ _ _
                                  | with_reducible exact fun _ => tabWf_nil
                                  | with_reducible exact fun h => tabWf_foldl_upd _ _ h
                                  | with_reducible refine TabsOk.lit ?_ ?_ ?_ ?_ ?_ ?_ ?_ ?_ ?_ ?_ ?_ ?_)

theorem evaluatePending_wf (c : Nat) (lat : Int) (lon : Int) {s : State} (hp : TabsOk s) :
    TabsOk (evaluatePending c lat lon s) := by
  unfold evaluatePending
  iterate 24 all_goals try (first | with_reducible exact hp | with_reducible apply becomeCurrent_wf | split
                                  | dsimp only | with_reducible exact id | with_reducible exact tabWf_put _ _ _
                                  | with_reducible exact fun _ => tabWf_nil
                                  | with_reducible exact fun h => tabWf_foldl_upd _ _ h
                                  | with_reducible refine TabsOk.lit ?_ ?_ ?_ ?_ ?_ ?_ ?_ ?_ ?_ ?_ ?_ ?_)

theorem evaluateZone_wf (lat : Int) (lon : Int) {s : State} (hp : TabsOk s) :
    TabsOk (evaluateZone lat lon s) := by
  unfold evaluateZone
  iterate 24 all_goals try (first | with_reducible exact hp | with_reducible apply becomeCurrent_wf
                                  | with_reducible apply evaluatePending_wf | split | dsimp only
                                  | with_reducible exact id | with_reducible exact tabWf_put _ _ _
                                  | with_reducible exact fun _ => tabWf_nil
                                  | with_reducible exact fun h => tabWf_foldl_upd _ _ h
                                  | with_reducible refine TabsOk.lit ?_ ?_ ?_ ?_ ?_ ?_ ?_ ?_ ?_ ?_ ?_ ?_)

theorem positionReport_wf (cause : PosCause) {s : State} (hp : TabsOk s) :
    TabsOk (positionReport cause s) := by
  simpa [TabsOk] using hp

theorem positionValid_wf  {s : State} (hp : TabsOk s) :
    TabsOk (positionValid s) := by
  unfold positionValid
  iterate 24 all_goals try (first | with_reducible exact hp | with_reducible apply openingTest_wf
                                  | with_reducible apply positionReport_wf | split | dsimp only
                                  | with_reducible exact id | with_reducible exact tabWf_put _ _ _
                                  | with_reducible exact fun _ => tabWf_nil
                                  | with_reducible exact fun h => tabWf_foldl_upd _ _ h
                                  | with_reducible refine TabsOk.lit ?_ ?_ ?_ ?_ ?_ ?_ ?_ ?_ ?_ ?_ ?_ ?_)

theorem takeFix_wf (quality : Nat) (lat : Int) (lon : Int) (source : FixSource) {s : State} (hp : TabsOk s) :
    TabsOk (takeFix quality lat lon source s) := by
  unfold takeFix
  iterate 24 all_goals try (first | with_reducible exact hp | with_reducible apply evaluateZone_wf
                                  | with_reducible apply positionValid_wf | split | dsimp only
                                  | with_reducible exact id | with_reducible exact tabWf_put _ _ _
                                  | with_reducible exact fun _ => tabWf_nil
                                  | with_reducible exact fun h => tabWf_foldl_upd _ _ h
                                  | with_reducible refine TabsOk.lit ?_ ?_ ?_ ?_ ?_ ?_ ?_ ?_ ?_ ?_ ?_ ?_)

theorem judgeFrame_wf (buf : List Byte) {s : State} (hp : TabsOk s) :
    TabsOk (judgeFrame buf s) := by
  unfold judgeFrame
  iterate 24 all_goals try (first | with_reducible exact hp | with_reducible apply discard_wf
                                  | with_reducible apply setRx_wf | with_reducible apply takeFix_wf
                                  | with_reducible refine wf_foldl (fun s a hp => ?_) _ ?_ | dsimp only | split)

theorem navByte_wf (b : Byte) {s : State} (hp : TabsOk s) :
    TabsOk (navByte b s) := by
  unfold navByte
  iterate 24 all_goals try (first | with_reducible exact hp | with_reducible apply setRx_wf
                                  | with_reducible apply judgeFrame_wf | split | dsimp only)

theorem navFramingError_wf  {s : State} (hp : TabsOk s) :
    TabsOk (navFramingError s) := by
  unfold navFramingError
  iterate 24 all_goals try (first | with_reducible exact hp | with_reducible apply discard_wf
                                  | with_reducible apply setRx_wf | split)

theorem fixLossExpiry_wf  {s : State} (hp : TabsOk s) :
    TabsOk (fixLossExpiry s) := by
  unfold fixLossExpiry
  iterate 24 all_goals try (first | with_reducible exact hp | with_reducible apply covPositionLost_wf
                                  | with_reducible apply positionReport_wf | split | dsimp only
                                  | with_reducible exact id | with_reducible exact tabWf_put _ _ _
                                  | with_reducible exact fun _ => tabWf_nil
                                  | with_reducible exact fun h => tabWf_foldl_upd _ _ h
                                  | with_reducible refine TabsOk.lit ?_ ?_ ?_ ?_ ?_ ?_ ?_ ?_ ?_ ?_ ?_ ?_)

theorem loadZone_wf (i : Nat) (z : Zone) {s : State} (hp : TabsOk s) :
    TabsOk (loadZone i z s) := by
  unfold loadZone
  iterate 24 all_goals try (first | with_reducible exact hp | with_reducible apply publishZone_wf
                                  | with_reducible apply becomeCurrent_wf | split | dsimp only
                                  | with_reducible exact id | with_reducible exact tabWf_put _ _ _
                                  | with_reducible exact fun _ => tabWf_nil
                                  | with_reducible exact fun h => tabWf_foldl_upd _ _ h
                                  | with_reducible refine TabsOk.lit ?_ ?_ ?_ ?_ ?_ ?_ ?_ ?_ ?_ ?_ ?_ ?_)

theorem loadTariff_wf (region : Nat) (cls : Nat) (t : Tariff) {s : State} (hp : TabsOk s) :
    TabsOk (loadTariff region cls t s) := by
  unfold loadTariff
  iterate 24 all_goals try (first | with_reducible exact hp | split | dsimp only | with_reducible exact id
                                  | with_reducible exact tabWf_put _ _ _ | with_reducible exact fun _ => tabWf_nil
                                  | with_reducible exact fun h => tabWf_foldl_upd _ _ h
                                  | with_reducible refine TabsOk.lit ?_ ?_ ?_ ?_ ?_ ?_ ?_ ?_ ?_ ?_ ?_ ?_)

theorem setGate_wf (a : Nat) (e : GateEntry) {s : State} (hp : TabsOk s) :
    TabsOk (setGate a e s) := by
  unfold setGate
  iterate 24 all_goals try (first | with_reducible exact hp | split | dsimp only | with_reducible exact id
                                  | with_reducible exact tabWf_put _ _ _ | with_reducible exact fun _ => tabWf_nil
                                  | with_reducible exact fun h => tabWf_foldl_upd _ _ h
                                  | with_reducible refine TabsOk.lit ?_ ?_ ?_ ?_ ?_ ?_ ?_ ?_ ?_ ?_ ?_ ?_)

theorem writeGate_wf (a : Nat) (opened : Bool) {s : State} (hp : TabsOk s) :
    TabsOk (writeGate a opened s) := by
  unfold writeGate
  iterate 24 all_goals try (first | with_reducible exact hp | with_reducible apply setGate_wf)

theorem creditToGate_wf (before : AcctRec) (after : AcctRec) (a : Nat) {s : State} (hp : TabsOk s) :
    TabsOk (creditToGate before after a s) := by
  unfold creditToGate
  iterate 24 all_goals try (first | with_reducible exact hp | with_reducible apply writeGate_wf | split)

theorem settleRating_wf (r : AcctRec) (e : UsageEvent) (charge : Nat) {s : State} (hp : TabsOk s) :
    TabsOk (settleRating r e charge s) := by
  unfold settleRating
  iterate 24 all_goals try (first | with_reducible exact hp | with_reducible apply addAccum_wf | split)

theorem offerCredit_wf (before : AcctRec) (after : AcctRec) (a : Nat) {s : State} (hp : TabsOk s) :
    TabsOk (offerCredit before after a s) := by
  simpa [TabsOk] using hp

theorem rateGrant_wf (i : Nat) (e : UsageEvent) {s : State} (hp : TabsOk s) :
    TabsOk (rateGrant i e s) := by
  unfold rateGrant
  iterate 24 all_goals try (first | with_reducible exact hp | with_reducible apply event_wf
                                  | with_reducible apply changeLine_wf | with_reducible apply creditToGate_wf
                                  | with_reducible apply settleRating_wf | with_reducible apply offerCredit_wf
                                  | split | dsimp only)

theorem tryRate_wf  {s : State} (hp : TabsOk s) :
    TabsOk (tryRate s) := by
  unfold tryRate
  iterate 24 all_goals try (first | with_reducible exact hp | with_reducible apply requestLine_wf | split
                                  | dsimp only | with_reducible exact id | with_reducible exact tabWf_put _ _ _
                                  | with_reducible exact fun _ => tabWf_nil
                                  | with_reducible exact fun h => tabWf_foldl_upd _ _ h
                                  | with_reducible refine TabsOk.lit ?_ ?_ ?_ ?_ ?_ ?_ ?_ ?_ ?_ ?_ ?_ ?_)

theorem setAcct_wf (a : AccountManager) {s : State} (hp : TabsOk s) :
    TabsOk (setAcct a s) := by
  simpa [TabsOk] using hp

theorem judgeFinisher_wf  {s : State} (hp : TabsOk s) :
    TabsOk (judgeFinisher s) := by
  unfold judgeFinisher
  iterate 24 all_goals try (first | with_reducible exact hp | with_reducible apply requestLine_wf
                                  | with_reducible apply setAcct_wf | split)

theorem settleRoundUp_wf (r : AcctRec) (charge : Nat) {s : State} (hp : TabsOk s) :
    TabsOk (settleRoundUp r charge s) := by
  unfold settleRoundUp
  iterate 24 all_goals try (first | with_reducible exact hp | with_reducible apply addAccum_wf | split)

theorem finishRecord_wf (scan : Bool) (a : Nat) (i : Nat) (p : Place) {s : State} (hp : TabsOk s) :
    TabsOk (finishRecord scan a i p s).1 := by
  unfold finishRecord
  iterate 24 all_goals try (first | with_reducible exact hp | with_reducible apply changeLine_wf
                                  | with_reducible apply settleRoundUp_wf)

theorem offerBilling_wf (b : Report → Billing) (r : Report) {s : State} (hp : TabsOk s) :
    TabsOk (offerBilling b r s) := by
  simpa [TabsOk] using hp

theorem finisherWork_wf (i : Nat) {s : State} (hp : TabsOk s) :
    TabsOk (finisherWork i s) := by
  unfold finisherWork
  iterate 24 all_goals try (first | with_reducible exact hp | with_reducible apply setAcct_wf
                                  | with_reducible apply finishRecord_wf | with_reducible apply offerBilling_wf
                                  | split)

theorem refuseOpen_wf (st : Status) (r : AcctRec) {s : State} (hp : TabsOk s) :
    TabsOk (refuseOpen st r s) := by
  simpa [TabsOk] using hp

theorem openWork_wf (p : OpenAccountParams) (i : Nat) {s : State} (hp : TabsOk s) :
    TabsOk (openWork p i s) := by
  unfold openWork
  iterate 24 all_goals try (first | with_reducible exact hp | with_reducible apply complete_wf
                                  | with_reducible apply changeLine_wf | with_reducible apply setGate_wf
                                  | with_reducible apply refuseOpen_wf | split | dsimp only)

theorem refuseGrant_wf (st : Status) (r : AcctRec) {s : State} (hp : TabsOk s) :
    TabsOk (refuseGrant st r s) := by
  simpa [TabsOk] using hp

theorem grantWork_wf (p : GrantParams) (i : Nat) {s : State} (hp : TabsOk s) :
    TabsOk (grantWork p i s) := by
  unfold grantWork
  iterate 24 all_goals try (first | with_reducible exact hp | with_reducible apply complete_wf
                                  | with_reducible apply changeLine_wf | with_reducible apply writeGate_wf
                                  | with_reducible apply refuseGrant_wf | split | dsimp only)

theorem suspendWork_wf (a : Nat) (i : Nat) {s : State} (hp : TabsOk s) :
    TabsOk (suspendWork a i s) := by
  unfold suspendWork
  iterate 24 all_goals try (first | with_reducible exact hp | with_reducible apply complete_wf
                                  | with_reducible apply changeLine_wf | with_reducible apply writeGate_wf | split
                                  | dsimp only)

theorem resumeWork_wf (a : Nat) (i : Nat) {s : State} (hp : TabsOk s) :
    TabsOk (resumeWork a i s) := by
  unfold resumeWork
  iterate 24 all_goals try (first | with_reducible exact hp | with_reducible apply complete_wf
                                  | with_reducible apply changeLine_wf | with_reducible apply writeGate_wf | split
                                  | dsimp only)

theorem closeWork_wf (a : Nat) (i : Nat) {s : State} (hp : TabsOk s) :
    TabsOk (closeWork a i s) := by
  unfold closeWork
  iterate 24 all_goals try (first | with_reducible exact hp | with_reducible apply complete_wf
                                  | with_reducible apply changeLine_wf | with_reducible apply writeGate_wf
                                  | with_reducible apply setAcct_wf | with_reducible apply judgeFinisher_wf | split
                                  | dsimp only)

theorem commandWork_wf (i : Nat) {s : State} (hp : TabsOk s) :
    TabsOk (commandWork i s) := by
  unfold commandWork
  iterate 24 all_goals try (first | with_reducible exact hp | with_reducible apply setAcct_wf
                                  | with_reducible apply openWork_wf | with_reducible apply grantWork_wf
                                  | with_reducible apply suspendWork_wf | with_reducible apply resumeWork_wf
                                  | with_reducible apply closeWork_wf | split | dsimp only)

theorem requestCommandLine_wf (a : Nat) {s : State} (hp : TabsOk s) :
    TabsOk (requestCommandLine a s) := by
  unfold requestCommandLine
  iterate 24 all_goals try (first | with_reducible exact hp | with_reducible apply touchLine_wf
                                  | with_reducible apply requestLine_wf | with_reducible apply setAcct_wf
                                  | with_reducible apply commandWork_wf | split | dsimp only)

theorem closeTakesPlace_wf (a : Nat) {s : State} (hp : TabsOk s) :
    TabsOk (closeTakesPlace a s) := by
  unfold closeTakesPlace
  iterate 24 all_goals try (first | with_reducible exact hp | with_reducible apply setAcct_wf
                                  | with_reducible apply requestCommandLine_wf | split)

theorem finishDone_wf  {s : State} (hp : TabsOk s) :
    TabsOk (finishDone s) := by
  unfold finishDone
  iterate 24 all_goals try (first | with_reducible exact hp | with_reducible apply setAcct_wf
                                  | with_reducible apply judgeFinisher_wf | with_reducible apply closeTakesPlace_wf
                                  | split | dsimp only | with_reducible exact id
                                  | with_reducible exact tabWf_put _ _ _ | with_reducible exact fun _ => tabWf_nil
                                  | with_reducible exact fun h => tabWf_foldl_upd _ _ h
                                  | with_reducible refine TabsOk.lit ?_ ?_ ?_ ?_ ?_ ?_ ?_ ?_ ?_ ?_ ?_ ?_)

theorem scanNext_wf  {s : State} (hp : TabsOk s) :
    TabsOk (scanNext s) := by
  unfold scanNext
  iterate 24 all_goals try (first | with_reducible exact hp | with_reducible apply complete_wf
                                  | with_reducible apply openingTest_wf | with_reducible apply tryTake_wf
                                  | with_reducible apply requestLine_wf | with_reducible apply tryRate_wf
                                  | with_reducible apply setAcct_wf | split | dsimp only | with_reducible exact id
                                  | with_reducible exact tabWf_put _ _ _ | with_reducible exact fun _ => tabWf_nil
                                  | with_reducible exact fun h => tabWf_foldl_upd _ _ h
                                  | with_reducible refine TabsOk.lit ?_ ?_ ?_ ?_ ?_ ?_ ?_ ?_ ?_ ?_ ?_ ?_)

theorem scanWork_wf (i : Nat) {s : State} (hp : TabsOk s) :
    TabsOk (scanWork i s) := by
  unfold scanWork
  iterate 24 all_goals try (first | with_reducible exact hp | with_reducible apply event_wf
                                  | with_reducible apply changeLine_wf | with_reducible apply setGate_wf
                                  | with_reducible apply setAcct_wf | with_reducible apply finishRecord_wf
                                  | with_reducible apply offerBilling_wf | split | dsimp only)

theorem scanPlaced_wf  {s : State} (hp : TabsOk s) :
    TabsOk (scanPlaced s) := by
  unfold scanPlaced
  iterate 24 all_goals try (first | with_reducible exact hp | with_reducible apply setAcct_wf
                                  | with_reducible apply scanNext_wf | split)

theorem cutWaiting_wf  {s : State} (hp : TabsOk s) :
    TabsOk (cutWaiting s) := by
  unfold cutWaiting
  iterate 24 all_goals try (first | with_reducible exact hp | with_reducible apply cutPair_wf
                                  | with_reducible apply goOnWalk_wf | split)

theorem placeWaiter_wf (b : Billing) {s : State} (hp : TabsOk s) :
    TabsOk (placeWaiter b s) := by
  unfold placeWaiter
  iterate 24 all_goals try (first | with_reducible exact hp | with_reducible apply placeReport_wf
                                  | with_reducible apply finishDone_wf | with_reducible apply scanPlaced_wf
                                  | with_reducible apply cutWaiting_wf | split)

theorem placeWaitersLoop_wf (n : Nat) {s : State} (hp : TabsOk s) :
    TabsOk (placeWaitersLoop n s) := by
  induction n generalizing s with
  | zero => simpa [placeWaitersLoop] using hp
  | succ n ih =>
    unfold placeWaitersLoop
    iterate 24 all_goals try (first | with_reducible exact hp | with_reducible apply ih
                                    | with_reducible apply placeWaiter_wf | split | dsimp only
                                    | with_reducible exact id | with_reducible exact tabWf_put _ _ _
                                    | with_reducible exact fun _ => tabWf_nil
                                    | with_reducible exact fun h => tabWf_foldl_upd _ _ h
                                    | with_reducible refine TabsOk.lit ?_ ?_ ?_ ?_ ?_ ?_ ?_ ?_ ?_ ?_ ?_ ?_)

theorem endRating_wf  {s : State} (hp : TabsOk s) :
    TabsOk (endRating s) := by
  unfold endRating
  iterate 24 all_goals try (first | with_reducible exact hp | with_reducible apply tryRate_wf
                                  | with_reducible apply judgeFinisher_wf | split | dsimp only
                                  | with_reducible exact id | with_reducible exact tabWf_put _ _ _
                                  | with_reducible exact fun _ => tabWf_nil
                                  | with_reducible exact fun h => tabWf_foldl_upd _ _ h
                                  | with_reducible refine TabsOk.lit ?_ ?_ ?_ ?_ ?_ ?_ ?_ ?_ ?_ ?_ ?_ ?_)

theorem grantWorkOf_wf (r : Requester) (i : Nat) {s : State} (hp : TabsOk s) :
    TabsOk (grantWorkOf r i s) := by
  unfold grantWorkOf
  iterate 24 all_goals try (first | with_reducible exact hp | with_reducible apply readGrant_wf
                                  | with_reducible apply rateGrant_wf | with_reducible apply finisherWork_wf
                                  | with_reducible apply commandWork_wf | with_reducible apply scanWork_wf | split)

theorem afterGrant_wf (r : Requester) {s : State} (hp : TabsOk s) :
    TabsOk (afterGrant r s) := by
  unfold afterGrant
  iterate 24 all_goals try (first | with_reducible exact hp | with_reducible apply finishDone_wf
                                  | with_reducible apply scanNext_wf | with_reducible apply endRating_wf | split)

theorem serve_wf (n : Nat) (m : Nat) {s : State} (hp : TabsOk s) :
TabsOk (serve n m s) := by
  induction n generalizing m s with
  | zero => simpa [serve] using hp
  | succ n ih =>
    unfold serve
    iterate 24 all_goals try (first | with_reducible exact hp | with_reducible apply ih
                                    | with_reducible apply setLine_wf | with_reducible apply touchLine_wf
                                    | with_reducible apply grantWorkOf_wf | with_reducible apply afterGrant_wf
                                    | with_reducible refine wf_foldl (fun s a hp => ?_) _ ?_ | split | dsimp only
                                    | with_reducible exact id | with_reducible exact tabWf_put _ _ _
                                    | with_reducible exact fun _ => tabWf_nil
                                    | with_reducible exact fun h => tabWf_foldl_upd _ _ h
                                    | with_reducible refine TabsOk.lit ?_ ?_ ?_ ?_ ?_ ?_ ?_ ?_ ?_ ?_ ?_ ?_)

theorem grantLine_wf (i : Nat) {s : State} (hp : TabsOk s) :
    TabsOk (grantLine i s) := by
  unfold grantLine
  iterate 24 all_goals try (first | with_reducible exact hp | with_reducible apply serveMisses_wf
                                  | with_reducible apply serve_wf)

theorem grantCalled_wf (old : State) {s : State} (hp : TabsOk s) :
TabsOk (grantCalled old s) := by
  unfold grantCalled
  iterate 24 all_goals try (first | with_reducible exact hp | with_reducible apply grantLine_wf
                                  | with_reducible refine wf_foldl (fun s a hp => ?_) _ ?_ | split | dsimp only
                                  | with_reducible exact id | with_reducible exact tabWf_put _ _ _
                                  | with_reducible exact fun _ => tabWf_nil
                                  | with_reducible exact fun h => tabWf_foldl_upd _ _ h
                                  | with_reducible refine TabsOk.lit ?_ ?_ ?_ ?_ ?_ ?_ ?_ ?_ ?_ ?_ ?_ ?_)

theorem placeWaiters_wf {s : State} (hp : TabsOk s) :
TabsOk (placeWaiters s) := by
  unfold placeWaiters
  iterate 24 all_goals try (first | with_reducible exact hp | with_reducible apply grantCalled_wf
                                  | with_reducible apply placeWaitersLoop_wf | split | dsimp only
                                  | with_reducible exact id | with_reducible exact tabWf_put _ _ _
                                  | with_reducible exact fun _ => tabWf_nil
                                  | with_reducible exact fun h => tabWf_foldl_upd _ _ h
                                  | with_reducible refine TabsOk.lit ?_ ?_ ?_ ?_ ?_ ?_ ?_ ?_ ?_ ?_ ?_ ?_)

theorem closeWaitExpiry_wf (n : Nat) {s : State} (hp : TabsOk s) :
    TabsOk (closeWaitExpiry n s) := by
  unfold closeWaitExpiry
  iterate 24 all_goals try (first | with_reducible exact hp | with_reducible apply setEntry_wf
                                  | with_reducible apply setAcct_wf | with_reducible apply judgeFinisher_wf
                                  | with_reducible refine wf_foldl (fun s a hp => ?_) _ ?_ | dsimp only | split)

theorem settleEvent_wf (old : State) {s : State} (hp : TabsOk s) :
    TabsOk (settleEvent old s) := by
  unfold settleEvent
  iterate 24 all_goals try (first | with_reducible exact hp | with_reducible apply tryTake_wf
                                  | with_reducible apply dispatchPass_wf | with_reducible apply judgeFinisher_wf
                                  | split)

theorem enqueue_wf (e : UsageEvent) {s : State} (hp : TabsOk s) :
    TabsOk (enqueue e s) := by
  unfold enqueue
  iterate 24 all_goals try (first | with_reducible exact hp | with_reducible apply tryRate_wf | split | dsimp only
                                  | with_reducible exact id | with_reducible exact tabWf_put _ _ _
                                  | with_reducible exact fun _ => tabWf_nil
                                  | with_reducible exact fun h => tabWf_foldl_upd _ _ h
                                  | with_reducible refine TabsOk.lit ?_ ?_ ?_ ?_ ?_ ?_ ?_ ?_ ?_ ?_ ?_ ?_)

theorem badAccount_wf (region : Nat) (initiator : Nat) (slot : Nat) (a : Nat) {s : State} (hp : TabsOk s) :
    TabsOk (badAccount region initiator slot a s) := by
  simpa [TabsOk] using hp

theorem judgeDownlink_wf (initiator : Nat) (slot : Nat) (d : List Byte) {s : State} (hp : TabsOk s) :
    TabsOk (judgeDownlink initiator slot d s).1 := by
  unfold judgeDownlink
  iterate 24 all_goals try (first | with_reducible exact hp | with_reducible apply event_wf
                                  | with_reducible apply enqueue_wf | with_reducible apply badAccount_wf | split
                                  | dsimp only | with_reducible exact id | with_reducible exact tabWf_put _ _ _
                                  | with_reducible exact fun _ => tabWf_nil
                                  | with_reducible exact fun h => tabWf_foldl_upd _ _ h
                                  | with_reducible refine TabsOk.lit ?_ ?_ ?_ ?_ ?_ ?_ ?_ ?_ ?_ ?_ ?_ ?_)

theorem entrySent_wf (e : Nat) (k : Nat) {s : State} (hp : TabsOk s) :
    TabsOk (entrySent e k s) := by
  unfold entrySent
  iterate 24 all_goals try (first | with_reducible exact hp | with_reducible apply endEntry_wf
                                  | with_reducible apply uncount_wf | with_reducible apply linkCompleted_wf)

theorem completionFault_wf (kind : Nat) (flags : Nat) (k : Nat) (slot : Nat) (d : List Byte) {s : State} (hp :
    TabsOk s) :
    TabsOk (completionFault kind flags k slot d s) := by
  simpa [TabsOk] using hp

theorem completeOk_wf (e : Nat) (k : Nat) {s : State} (hp : TabsOk s) :
    TabsOk (completeOk e k s).1 := by
  unfold completeOk
  iterate 24 all_goals try (first | with_reducible exact hp | with_reducible apply event_wf
                                  | with_reducible apply setEntry_wf | with_reducible apply enqueue_wf
                                  | with_reducible apply entrySent_wf | split | dsimp only | with_reducible exact id
                                  | with_reducible exact tabWf_put _ _ _ | with_reducible exact fun _ => tabWf_nil
                                  | with_reducible exact fun h => tabWf_foldl_upd _ _ h
                                  | with_reducible refine TabsOk.lit ?_ ?_ ?_ ?_ ?_ ?_ ?_ ?_ ?_ ?_ ?_ ?_)

theorem completeFail_wf (e : Nat) (k : Nat) {s : State} (hp : TabsOk s) :
    TabsOk (completeFail e k s) := by
  unfold completeFail
  iterate 24 all_goals try (first | with_reducible exact hp | with_reducible apply endEntry_wf
                                  | with_reducible apply uncount_wf | with_reducible apply failEntry_wf
                                  | with_reducible apply linkCompleted_wf | split)

theorem judgeCompletion_wf (k : Nat) (slot : Nat) (d : List Byte) {s : State} (hp : TabsOk s) :
    TabsOk (judgeCompletion k slot d s).1 := by
  unfold judgeCompletion
  iterate 24 all_goals try (first | with_reducible exact hp | with_reducible apply completionFault_wf
                                  | with_reducible apply completeOk_wf | with_reducible apply completeFail_wf
                                  | split | dsimp only)

theorem joinWait_wf (e : Nat) (en : Entry) {s : State} (hp : TabsOk s) :
    TabsOk (joinWait e en s) := by
  unfold joinWait
  iterate 24 all_goals try (first | with_reducible exact hp | with_reducible apply setEntry_wf | split | dsimp only
                                  | with_reducible exact id | with_reducible exact tabWf_put _ _ _
                                  | with_reducible exact fun _ => tabWf_nil
                                  | with_reducible exact fun h => tabWf_foldl_upd _ _ h
                                  | with_reducible refine TabsOk.lit ?_ ?_ ?_ ?_ ?_ ?_ ?_ ?_ ?_ ?_ ?_ ?_)

theorem judgeTake_wf (t : Take) (d : List Byte) {s : State} (hp : TabsOk s) :
    TabsOk (judgeTake t d s) := by
  unfold judgeTake
  iterate 24 all_goals try (first | with_reducible exact hp | with_reducible apply setEntry_wf
                                  | with_reducible apply endEntry_wf | with_reducible apply badAccount_wf
                                  | with_reducible apply joinWait_wf | split | dsimp only)

theorem badIndex_wf (index : Nat) (v : Nat) (size : Nat) {s : State} (hp : TabsOk s) :
    TabsOk (badIndex index v size s) := by
  simpa [TabsOk] using hp

theorem latchCommand_wf (l : Latch) {s : State} (hp : TabsOk s) :
    TabsOk (latchCommand l s) := by
  simpa [TabsOk] using hp

theorem commandProducer_wf (v : Nat) {s : State} (hp : TabsOk s) :
    TabsOk (commandProducer v s) := by
  simpa [TabsOk] using hp

theorem restartReports_wf  {s : State} (hp : TabsOk s) :
    TabsOk (restartReports s) := by
  simpa [TabsOk] using hp

theorem latchReportBase_wf (v : Nat) {s : State} (hp : TabsOk s) :
    TabsOk (latchReportBase v s) := by
  simpa [TabsOk] using hp

theorem latchReportSize_wf (v : Nat) {s : State} (hp : TabsOk s) :
    TabsOk (latchReportSize v s) := by
  simpa [TabsOk] using hp

theorem reportConsumer_wf (v : Nat) {s : State} (hp : TabsOk s) :
    TabsOk (reportConsumer v s) := by
  unfold reportConsumer
  iterate 24 all_goals try (first | with_reducible exact hp | with_reducible apply placeWaiters_wf
                                  | with_reducible apply badIndex_wf | split | dsimp only | with_reducible exact id
                                  | with_reducible exact tabWf_put _ _ _ | with_reducible exact fun _ => tabWf_nil
                                  | with_reducible exact fun h => tabWf_foldl_upd _ _ h
                                  | with_reducible refine TabsOk.lit ?_ ?_ ?_ ?_ ?_ ?_ ?_ ?_ ?_ ?_ ?_ ?_)

theorem handField_wf (f : ControlField) (v : Nat) {s : State} (hp : TabsOk s) :
    TabsOk (handField f v s) := by
  unfold handField
  iterate 24 all_goals try (first | with_reducible exact hp | with_reducible apply latchCommand_wf
                                  | with_reducible apply commandProducer_wf
                                  | with_reducible apply latchReportBase_wf
                                  | with_reducible apply latchReportSize_wf | with_reducible apply reportConsumer_wf
                                  | split)

theorem pathFault_wf (t : Txn) (g : RegionKind) (kind : Nat) (dropped : Nat) {s : State} (hp : TabsOk s) :
    TabsOk (pathFault t g kind dropped s) := by
  simpa [TabsOk] using hp

theorem flushOwed_wf  {s : State} (hp : TabsOk s) :
    TabsOk (flushOwed s) := by
  simpa [TabsOk] using hp

theorem answerHead_wf (h : Head) (data : List Byte) {s : State} (hp : TabsOk s) :
    TabsOk (answerHead h data s) := by
  simpa [TabsOk] using hp

theorem moveHead_wf  {s : State} (hp : TabsOk s) :
    TabsOk (moveHead s) := by
  simpa [TabsOk] using hp

theorem setHead_wf (h : Head) {s : State} (hp : TabsOk s) :
    TabsOk (setHead h s) := by
  simpa [TabsOk] using hp

theorem takeRead_wf (t : Txn) {s : State} (hp : TabsOk s) :
    TabsOk (takeRead t s) := by
  unfold takeRead
  iterate 24 all_goals try (first | with_reducible exact hp | with_reducible apply presentRead_wf
                                  | with_reducible apply setHead_wf
                                  | with_reducible refine wf_foldl (fun s a hp => ?_) _ ?_)

theorem applyVerdict_wf (p : Producer) (r : State × Verdict)  (hp : TabsOk r.1) :
    TabsOk (applyVerdict p r) := by
  simpa [TabsOk] using hp

theorem handOff_wf (t : Txn) (o : Outcome) {s : State} (hp : TabsOk s) :
    TabsOk (handOff t o s) := by
  unfold handOff
  iterate 24 all_goals try (first | with_reducible exact hp | with_reducible apply tryTake_wf
                                  | with_reducible apply judgeDownlink_wf | with_reducible apply judgeCompletion_wf
                                  | with_reducible apply handField_wf | with_reducible apply applyVerdict_wf
                                  | with_reducible refine wf_foldl (fun s a hp => ?_) _ ?_ | dsimp only | split
                                  | with_reducible exact id | with_reducible exact tabWf_put _ _ _
                                  | with_reducible exact fun _ => tabWf_nil
                                  | with_reducible exact fun h => tabWf_foldl_upd _ _ h
                                  | with_reducible refine TabsOk.lit ?_ ?_ ?_ ?_ ?_ ?_ ?_ ?_ ?_ ?_ ?_ ?_)

theorem takeWrite_wf (t : Txn) {s : State} (hp : TabsOk s) :
    TabsOk (takeWrite t s) := by
  unfold takeWrite
  iterate 24 all_goals try (first | with_reducible exact hp | with_reducible apply pathFault_wf
                                  | with_reducible apply setHead_wf | with_reducible apply handOff_wf
                                  | with_reducible refine wf_foldl (fun s a hp => ?_) _ ?_)

theorem takeTxn_wf (t : Txn) {s : State} (hp : TabsOk s) :
    TabsOk (takeTxn t s) := by
  unfold takeTxn
  iterate 24 all_goals try (first | with_reducible exact hp | with_reducible apply takeRead_wf
                                  | with_reducible apply takeWrite_wf | split)

theorem dealWith_wf (t : Txn) {s : State} (hp : TabsOk s) :
TabsOk (dealWith t s) := by
  unfold dealWith
  iterate 24 all_goals try (first | with_reducible exact hp | with_reducible apply settleEvent_wf
                                  | with_reducible apply moveHead_wf | with_reducible apply takeTxn_wf | split
                                  | dsimp only | with_reducible exact id | with_reducible exact tabWf_put _ _ _
                                  | with_reducible exact fun _ => tabWf_nil
                                  | with_reducible exact fun h => tabWf_foldl_upd _ _ h
                                  | with_reducible refine TabsOk.lit ?_ ?_ ?_ ?_ ?_ ?_ ?_ ?_ ?_ ?_ ?_ ?_)

theorem pumpLoop_wf (n : Nat) {s : State} (hp : TabsOk s) :
TabsOk (pumpLoop n s) := by
  induction n generalizing s with
  | zero => simpa [pumpLoop] using hp
  | succ n ih =>
    unfold pumpLoop
    iterate 24 all_goals try (first | with_reducible exact hp | with_reducible apply ih
                                    | with_reducible apply dealWith_wf | split | dsimp only | with_reducible exact id
                                    | with_reducible exact tabWf_put _ _ _ | with_reducible exact fun _ => tabWf_nil
                                    | with_reducible exact fun h => tabWf_foldl_upd _ _ h
                                    | with_reducible refine TabsOk.lit ?_ ?_ ?_ ?_ ?_ ?_ ?_ ?_ ?_ ?_ ?_ ?_)

theorem pumpUpstream_wf  {s : State} (hp : TabsOk s) :
    TabsOk (pumpUpstream s) := by
  unfold pumpUpstream
  iterate 24 all_goals try (first | with_reducible exact hp | with_reducible apply pumpLoop_wf)

theorem portEvent_wf (old : State) {s : State} (hp : TabsOk s) :
TabsOk (portEvent old s) := by
  unfold portEvent
  iterate 24 all_goals try (first | with_reducible exact hp | with_reducible apply pumpUpstream_wf
                                  | with_reducible apply settleEvent_wf | with_reducible apply moveHead_wf | split
                                  | dsimp only | with_reducible exact id | with_reducible exact tabWf_put _ _ _
                                  | with_reducible exact fun _ => tabWf_nil
                                  | with_reducible exact fun h => tabWf_foldl_upd _ _ h
                                  | with_reducible refine TabsOk.lit ?_ ?_ ?_ ?_ ?_ ?_ ?_ ?_ ?_ ?_ ?_ ?_)

theorem arrive_wf (t : Txn) {s : State} (hp : TabsOk s) :
    TabsOk (arrive t s) := by
  unfold arrive
  iterate 24 all_goals try (first | with_reducible exact hp | with_reducible apply settleEvent_wf
                                  | with_reducible apply pumpUpstream_wf | split | dsimp only
                                  | with_reducible exact id | with_reducible exact tabWf_put _ _ _
                                  | with_reducible exact fun _ => tabWf_nil
                                  | with_reducible exact fun h => tabWf_foldl_upd _ _ h
                                  | with_reducible refine TabsOk.lit ?_ ?_ ?_ ?_ ?_ ?_ ?_ ?_ ?_ ?_ ?_ ?_)

theorem releaseVerdict_wf (v : Verdict) {s : State} (hp : TabsOk s) :
    TabsOk (releaseVerdict v s) := by
  simpa [TabsOk] using hp

theorem noWaiting_wf  {s : State} (hp : TabsOk s) :
    TabsOk (noWaiting s) := by
  unfold noWaiting
  iterate 24 all_goals try (first | with_reducible exact hp | split | dsimp only | with_reducible exact id
                                  | with_reducible exact tabWf_put _ _ _ | with_reducible exact fun _ => tabWf_nil
                                  | with_reducible exact fun h => tabWf_foldl_upd _ _ h
                                  | with_reducible refine TabsOk.lit ?_ ?_ ?_ ?_ ?_ ?_ ?_ ?_ ?_ ?_ ?_ ?_)

theorem dealWaiting_wf (w : WaitingEvent) {s : State} (hp : TabsOk s) :
TabsOk (dealWaiting w s) := by
  unfold dealWaiting
  iterate 24 all_goals try (first | with_reducible exact hp | with_reducible apply enqueue_wf
                                  | with_reducible apply entrySent_wf | with_reducible apply releaseVerdict_wf
                                  | with_reducible apply noWaiting_wf | with_reducible apply tryRate_wf | split
                                  | dsimp only | with_reducible exact id | with_reducible exact tabWf_put _ _ _
                                  | with_reducible exact fun _ => tabWf_nil
                                  | with_reducible exact fun h => tabWf_foldl_upd _ _ h
                                  | with_reducible refine TabsOk.lit ?_ ?_ ?_ ?_ ?_ ?_ ?_ ?_ ?_ ?_ ?_ ?_)

theorem releaseWaiting_wf {s : State} (hp : TabsOk s) :
TabsOk (releaseWaiting s) := by
  unfold releaseWaiting
  iterate 24 all_goals try (first | with_reducible exact hp | with_reducible apply portEvent_wf
                                  | with_reducible apply dealWaiting_wf | split | dsimp only
                                  | with_reducible exact id | with_reducible exact tabWf_put _ _ _
                                  | with_reducible exact fun _ => tabWf_nil
                                  | with_reducible exact fun h => tabWf_foldl_upd _ _ h
                                  | with_reducible refine TabsOk.lit ?_ ?_ ?_ ?_ ?_ ?_ ?_ ?_ ?_ ?_ ?_ ?_)

theorem noteIssue_wf (t : OwnTxn) {s : State} (hp : TabsOk s) :
    TabsOk (noteIssue t s) := by
  simpa [TabsOk] using hp

theorem issueOwn_wf (t : OwnTxn) (again : Bool) {s : State} (hp : TabsOk s) :
    TabsOk (issueOwn t again s) := by
  simpa [TabsOk] using hp

theorem issuePassing_wf (p : Passing) (count : Nat) {s : State} (hp : TabsOk s) :
    TabsOk (issuePassing p count s) := by
  simpa [TabsOk] using hp

theorem arbiterIssue_wf  {s : State} (hp : TabsOk s) :
    TabsOk (arbiterIssue s) := by
  simpa [TabsOk] using hp

theorem writeEntered_wf (w : OwnWrite) {s : State} (hp : TabsOk s) :
TabsOk (writeEntered w s) := by
  unfold writeEntered
  iterate 24 all_goals try (first | with_reducible exact hp | with_reducible apply runReports_wf
                                  | with_reducible apply finishJob_wf | with_reducible apply writeConsumer_wf
                                  | with_reducible apply writeStatus_wf | with_reducible apply freeEntry_wf
                                  | with_reducible apply dispatchPass_wf | with_reducible apply markPosted_wf | split
                                  | dsimp only | with_reducible exact id | with_reducible exact tabWf_put _ _ _
                                  | with_reducible exact fun _ => tabWf_nil
                                  | with_reducible exact fun h => tabWf_foldl_upd _ _ h
                                  | with_reducible refine TabsOk.lit ?_ ?_ ?_ ?_ ?_ ?_ ?_ ?_ ?_ ?_ ?_ ?_)

theorem ownWriteEnters_wf  {s : State} (hp : TabsOk s) :
    TabsOk (ownWriteEnters s) := by
  unfold ownWriteEnters
  iterate 24 all_goals try (first | with_reducible exact hp | with_reducible apply settleEvent_wf
                                  | with_reducible apply writeEntered_wf | split | dsimp only
                                  | with_reducible exact id | with_reducible exact tabWf_put _ _ _
                                  | with_reducible exact fun _ => tabWf_nil
                                  | with_reducible exact fun h => tabWf_foldl_upd _ _ h
                                  | with_reducible refine TabsOk.lit ?_ ?_ ?_ ?_ ?_ ?_ ?_ ?_ ?_ ?_ ?_ ?_)

theorem answered_wf  {s : State} (hp : TabsOk s) :
    TabsOk (answered s) := by
  simpa [TabsOk] using hp

theorem passResponse_wf (p : Passing) (ok : Bool) (data : List Byte) {s : State} (hp : TabsOk s) :
    TabsOk (passResponse p ok data s) := by
  simpa [TabsOk] using hp

theorem takeReadDone_wf (data : List Byte) {s : State} (hp : TabsOk s) :
    TabsOk (takeReadDone data s) := by
  unfold takeReadDone
  iterate 24 all_goals try (first | with_reducible exact hp | with_reducible apply settleEvent_wf
                                  | with_reducible apply judgeTake_wf | with_reducible apply answered_wf | split
                                  | dsimp only | with_reducible exact id | with_reducible exact tabWf_put _ _ _
                                  | with_reducible exact fun _ => tabWf_nil
                                  | with_reducible exact fun h => tabWf_foldl_upd _ _ h
                                  | with_reducible refine TabsOk.lit ?_ ?_ ?_ ?_ ?_ ?_ ?_ ?_ ?_ ?_ ?_ ?_)

theorem fillLine_wf (i : Nat) (data : List Byte) {s : State} (hp : TabsOk s) :
    TabsOk (fillLine i data s) := by
  unfold fillLine
  iterate 24 all_goals try (first | with_reducible exact hp | with_reducible apply setLine_wf
                                  | with_reducible apply grantLine_wf | split | dsimp only)

theorem fillDone_wf (data : List Byte) {s : State} (hp : TabsOk s) :
TabsOk (fillDone data s) := by
  unfold fillDone
  iterate 24 all_goals try (first | with_reducible exact hp | with_reducible apply portEvent_wf
                                  | with_reducible apply answered_wf | with_reducible apply fillLine_wf | split
                                  | dsimp only | with_reducible exact id | with_reducible exact tabWf_put _ _ _
                                  | with_reducible exact fun _ => tabWf_nil
                                  | with_reducible exact fun h => tabWf_foldl_upd _ _ h
                                  | with_reducible refine TabsOk.lit ?_ ?_ ?_ ?_ ?_ ?_ ?_ ?_ ?_ ?_ ?_ ?_)

theorem lineGrant_wf (i : Nat) {s : State} (hp : TabsOk s) :
TabsOk (lineGrant i s) := by
  unfold lineGrant
  iterate 24 all_goals try (first | with_reducible exact hp | with_reducible apply portEvent_wf
                                  | with_reducible apply grantLine_wf | split | dsimp only | with_reducible exact id
                                  | with_reducible exact tabWf_put _ _ _ | with_reducible exact fun _ => tabWf_nil
                                  | with_reducible exact fun h => tabWf_foldl_upd _ _ h
                                  | with_reducible refine TabsOk.lit ?_ ?_ ?_ ?_ ?_ ?_ ?_ ?_ ?_ ?_ ?_ ?_)

theorem serveFlush_wf  {s : State} (hp : TabsOk s) :
    TabsOk (serveFlush s) := by
  unfold serveFlush
  iterate 24 all_goals try (first | with_reducible exact hp | with_reducible apply complete_wf | split | dsimp only
                                  | with_reducible exact id | with_reducible exact tabWf_put _ _ _
                                  | with_reducible exact fun _ => tabWf_nil
                                  | with_reducible exact fun h => tabWf_foldl_upd _ _ h
                                  | with_reducible refine TabsOk.lit ?_ ?_ ?_ ?_ ?_ ?_ ?_ ?_ ?_ ?_ ?_ ?_)

theorem countAtStop_wf (i : Nat) {s : State} (hp : TabsOk s) :
TabsOk (countAtStop i s) := by
  unfold countAtStop
  iterate 24 all_goals try (first | with_reducible exact hp | with_reducible apply beginWriteBack_wf | split
                                  | dsimp only | with_reducible exact id | with_reducible exact tabWf_put _ _ _
                                  | with_reducible exact fun _ => tabWf_nil
                                  | with_reducible exact fun h => tabWf_foldl_upd _ _ h
                                  | with_reducible refine TabsOk.lit ?_ ?_ ?_ ?_ ?_ ?_ ?_ ?_ ?_ ?_ ?_ ?_)

theorem writeBackDone_wf {s : State} (hp : TabsOk s) :
TabsOk (writeBackDone s) := by
  unfold writeBackDone
  iterate 24 all_goals try (first | with_reducible exact hp | with_reducible apply setLine_wf
                                  | with_reducible apply serveMisses_wf | with_reducible apply settleEvent_wf
                                  | with_reducible apply answered_wf | with_reducible apply serveFlush_wf
                                  | with_reducible apply countAtStop_wf | with_reducible apply endEviction_wf | split
                                  | dsimp only | with_reducible exact id | with_reducible exact tabWf_put _ _ _
                                  | with_reducible exact fun _ => tabWf_nil
                                  | with_reducible exact fun h => tabWf_foldl_upd _ _ h
                                  | with_reducible refine TabsOk.lit ?_ ?_ ?_ ?_ ?_ ?_ ?_ ?_ ?_ ?_ ?_ ?_)

theorem consumerReadDone_wf (data : List Byte) {s : State} (hp : TabsOk s) :
    TabsOk (consumerReadDone data s) := by
  unfold consumerReadDone
  iterate 24 all_goals try (first | with_reducible exact hp | with_reducible apply settleEvent_wf
                                  | with_reducible apply reportConsumer_wf | with_reducible apply answered_wf
                                  | split)

theorem haltCapture_wf  {s : State} (hp : TabsOk s) :
    TabsOk (haltCapture s) := by
  unfold haltCapture
  iterate 24 all_goals try (first | with_reducible exact hp | with_reducible apply releaseVerdict_wf | split
                                  | dsimp only | with_reducible exact id | with_reducible exact tabWf_put _ _ _
                                  | with_reducible exact fun _ => tabWf_nil
                                  | with_reducible exact fun h => tabWf_foldl_upd _ _ h
                                  | with_reducible refine TabsOk.lit ?_ ?_ ?_ ?_ ?_ ?_ ?_ ?_ ?_ ?_ ?_ ?_)

theorem haltRating_wf  {s : State} (hp : TabsOk s) :
    TabsOk (haltRating s) := by
  unfold haltRating
  iterate 24 all_goals try (first | with_reducible exact hp | with_reducible apply withdraw_wf | split | dsimp only
                                  | with_reducible exact id | with_reducible exact tabWf_put _ _ _
                                  | with_reducible exact fun _ => tabWf_nil
                                  | with_reducible exact fun h => tabWf_foldl_upd _ _ h
                                  | with_reducible refine TabsOk.lit ?_ ?_ ?_ ?_ ?_ ?_ ?_ ?_ ?_ ?_ ?_ ?_)

theorem haltScan_wf  {s : State} (hp : TabsOk s) :
    TabsOk (haltScan s) := by
  unfold haltScan
  iterate 24 all_goals try (first | with_reducible exact hp | with_reducible apply complete_wf
                                  | with_reducible apply withdraw_wf | with_reducible apply setAcct_wf | split)

theorem haltCommand_wf  {s : State} (hp : TabsOk s) :
    TabsOk (haltCommand s) := by
  unfold haltCommand
  iterate 24 all_goals try (first | with_reducible exact hp | with_reducible apply refuse_wf
                                  | with_reducible apply withdraw_wf | with_reducible apply setAcct_wf | split)

theorem haltWalk_wf  {s : State} (hp : TabsOk s) :
    TabsOk (haltWalk s) := by
  unfold haltWalk
  iterate 24 all_goals try (first | with_reducible exact hp | with_reducible apply complete_wf | split | dsimp only
                                  | with_reducible exact id | with_reducible exact tabWf_put _ _ _
                                  | with_reducible exact fun _ => tabWf_nil
                                  | with_reducible exact fun h => tabWf_foldl_upd _ _ h
                                  | with_reducible refine TabsOk.lit ?_ ?_ ?_ ?_ ?_ ?_ ?_ ?_ ?_ ?_ ?_ ?_)

theorem haltFlush_wf  {s : State} (hp : TabsOk s) :
    TabsOk (haltFlush s) := by
  unfold haltFlush
  iterate 24 all_goals try (first | with_reducible exact hp | with_reducible apply complete_wf
                                  | with_reducible apply mapLines_wf | split | dsimp only | with_reducible exact id
                                  | with_reducible exact tabWf_put _ _ _ | with_reducible exact fun _ => tabWf_nil
                                  | with_reducible exact fun h => tabWf_foldl_upd _ _ h
                                  | with_reducible refine TabsOk.lit ?_ ?_ ?_ ?_ ?_ ?_ ?_ ?_ ?_ ?_ ?_ ?_)

theorem haltReport_wf  {s : State} (hp : TabsOk s) :
    TabsOk (haltReport s) := by
  simpa [TabsOk] using hp

theorem enterHalted_wf  {s : State} (hp : TabsOk s) :
    TabsOk (enterHalted s) := by
  unfold enterHalted
  iterate 24 all_goals try (first | with_reducible exact hp | with_reducible apply covLeaveRunning_wf
                                  | with_reducible apply withdraw_wf | with_reducible apply haltCapture_wf
                                  | with_reducible apply haltRating_wf | with_reducible apply haltScan_wf
                                  | with_reducible apply haltCommand_wf | with_reducible apply haltWalk_wf
                                  | with_reducible apply haltFlush_wf | with_reducible apply haltReport_wf | split
                                  | dsimp only | with_reducible exact id | with_reducible exact tabWf_put _ _ _
                                  | with_reducible exact fun _ => tabWf_nil
                                  | with_reducible exact fun h => tabWf_foldl_upd _ _ h
                                  | with_reducible refine TabsOk.lit ?_ ?_ ?_ ?_ ?_ ?_ ?_ ?_ ?_ ?_ ?_ ?_)

theorem memoryError_wf (t : OwnTxn) {s : State} (hp : TabsOk s) :
    TabsOk (memoryError t s) := by
  simpa [TabsOk] using hp

theorem fillFailed_wf (i : Nat) {s : State} (hp : TabsOk s) :
    TabsOk (fillFailed i s) := by
  unfold fillFailed
  iterate 24 all_goals try (first | with_reducible exact hp | with_reducible apply setLine_wf
                                  | with_reducible apply answerRead_wf | split | dsimp only
                                  | with_reducible exact id | with_reducible exact tabWf_put _ _ _
                                  | with_reducible exact fun _ => tabWf_nil
                                  | with_reducible exact fun h => tabWf_foldl_upd _ _ h
                                  | with_reducible refine TabsOk.lit ?_ ?_ ?_ ?_ ?_ ?_ ?_ ?_ ?_ ?_ ?_ ?_)

theorem writeBackFailed_wf (i : Nat) {s : State} (hp : TabsOk s) :
TabsOk (writeBackFailed i s) := by
  unfold writeBackFailed
  iterate 24 all_goals try (first | with_reducible exact hp | with_reducible apply setLine_wf
                                  | with_reducible apply endEviction_wf | split | dsimp only
                                  | with_reducible exact id | with_reducible exact tabWf_put _ _ _
                                  | with_reducible exact fun _ => tabWf_nil
                                  | with_reducible exact fun h => tabWf_foldl_upd _ _ h
                                  | with_reducible refine TabsOk.lit ?_ ?_ ?_ ?_ ?_ ?_ ?_ ?_ ?_ ?_ ?_ ?_)

theorem tellFailed_wf (t : OwnTxn) {s : State} (hp : TabsOk s) :
    TabsOk (tellFailed t s) := by
  unfold tellFailed
  iterate 24 all_goals try (first | with_reducible exact hp | with_reducible apply applyLatches_wf
                                  | with_reducible apply fillFailed_wf | with_reducible apply writeBackFailed_wf
                                  | split | dsimp only | with_reducible exact id
                                  | with_reducible exact tabWf_put _ _ _ | with_reducible exact fun _ => tabWf_nil
                                  | with_reducible exact fun h => tabWf_foldl_upd _ _ h
                                  | with_reducible refine TabsOk.lit ?_ ?_ ?_ ?_ ?_ ?_ ?_ ?_ ?_ ?_ ?_ ?_)

theorem abandon_wf (t : OwnTxn) {s : State} (hp : TabsOk s) :
    TabsOk (abandon t s) := by
  unfold abandon
  iterate 24 all_goals try (first | with_reducible exact hp | with_reducible apply enterHalted_wf
                                  | with_reducible apply memoryError_wf | with_reducible apply tellFailed_wf | split)

theorem ownError_wf (ahead : Nat) {s : State} (hp : TabsOk s) :
    TabsOk (ownError ahead s) := by
  unfold ownError
  iterate 24 all_goals try (first | with_reducible exact hp | with_reducible apply abandon_wf | split | dsimp only
                                  | with_reducible exact id | with_reducible exact tabWf_put _ _ _
                                  | with_reducible exact fun _ => tabWf_nil
                                  | with_reducible exact fun h => tabWf_foldl_upd _ _ h
                                  | with_reducible refine TabsOk.lit ?_ ?_ ?_ ?_ ?_ ?_ ?_ ?_ ?_ ?_ ?_ ?_)

theorem abortLists_wf  {s : State} (hp : TabsOk s) :
    TabsOk (abortLists s) := by
  unfold abortLists
  iterate 24 all_goals try (first | with_reducible exact hp | with_reducible apply endEntry_wf
                                  | with_reducible refine wf_foldl (fun s a hp => ?_) _ ?_)

theorem stopDone_wf  {s : State} (hp : TabsOk s) :
    TabsOk (stopDone s) := by
  simpa [TabsOk] using hp

theorem beginStep_wf (n : Nat) {s : State} (hp : TabsOk s) :
    TabsOk (beginStep n s) := by
  unfold beginStep
  iterate 24 all_goals try (first | with_reducible exact hp | with_reducible apply beginWalk_wf
                                  | with_reducible apply invalidateAll_wf | with_reducible apply disableAll_wf
                                  | with_reducible apply judgeFinisher_wf | with_reducible apply abortLists_wf
                                  | with_reducible apply writeBackAll_wf | with_reducible apply stopDone_wf | split
                                  | dsimp only | with_reducible exact id | with_reducible exact tabWf_put _ _ _
                                  | with_reducible exact fun _ => tabWf_nil
                                  | with_reducible exact fun h => tabWf_foldl_upd _ _ h
                                  | with_reducible refine TabsOk.lit ?_ ?_ ?_ ?_ ?_ ?_ ?_ ?_ ?_ ?_ ?_ ?_)

theorem advanceStop_wf (n : Nat) {s : State} (hp : TabsOk s) :
    TabsOk (advanceStop n s) := by
  induction n generalizing s with
  | zero => simpa [advanceStop] using hp
  | succ n ih =>
    unfold advanceStop
    iterate 24 all_goals try (first | with_reducible exact hp | with_reducible apply ih
                                    | with_reducible apply beginStep_wf | split)

theorem stopAdvance_wf  {s : State} (hp : TabsOk s) :
    TabsOk (stopAdvance s) := by
  unfold stopAdvance
  iterate 24 all_goals try (first | with_reducible exact hp | with_reducible apply advanceStop_wf)

theorem stopRunning_wf {s : State} (hp : TabsOk s) :
TabsOk (stopRunning s) := by
  unfold stopRunning
  iterate 24 all_goals try (first | with_reducible exact hp | with_reducible apply covLeaveRunning_wf
                                  | with_reducible apply stopAdvance_wf | with_reducible apply dropPosts_wf | split
                                  | dsimp only | with_reducible exact id | with_reducible exact tabWf_put _ _ _
                                  | with_reducible exact fun _ => tabWf_nil
                                  | with_reducible exact fun h => tabWf_foldl_upd _ _ h
                                  | with_reducible refine TabsOk.lit ?_ ?_ ?_ ?_ ?_ ?_ ?_ ?_ ?_ ?_ ?_ ?_)

theorem abortPosted_wf  {s : State} (hp : TabsOk s) :
    TabsOk (abortPosted s) := by
  unfold abortPosted
  iterate 24 all_goals try (first | with_reducible exact hp | with_reducible apply setEntry_wf
                                  | with_reducible apply endEntry_wf
                                  | with_reducible refine wf_foldl (fun s a hp => ?_) _ ?_ | dsimp only | split)

theorem postedWaitExpiry_wf  {s : State} (hp : TabsOk s) :
    TabsOk (postedWaitExpiry s) := by
  unfold postedWaitExpiry
  iterate 24 all_goals try (first | with_reducible exact hp | with_reducible apply disableLinks_wf
                                  | with_reducible apply stopAdvance_wf | with_reducible apply abortPosted_wf
                                  | split)

theorem clearRelay_wf  {s : State} (hp : TabsOk s) :
    TabsOk (clearRelay s) := by
  unfold clearRelay
  iterate 24 all_goals try (first | with_reducible exact hp | split | dsimp only | with_reducible exact id
                                  | with_reducible exact tabWf_put _ _ _ | with_reducible exact fun _ => tabWf_nil
                                  | with_reducible exact fun h => tabWf_foldl_upd _ _ h
                                  | with_reducible refine TabsOk.lit ?_ ?_ ?_ ?_ ?_ ?_ ?_ ?_ ?_ ?_ ?_ ?_)

theorem clearFinisher_wf  {s : State} (hp : TabsOk s) :
    TabsOk (clearFinisher s) := by
  simpa [TabsOk] using hp

theorem clearLinks_wf  {s : State} (hp : TabsOk s) :
    TabsOk (clearLinks s) := by
  unfold clearLinks
  iterate 24 all_goals try (first | with_reducible exact hp | with_reducible apply covBackhaul_wf
                                  | with_reducible apply tellMode_wf | with_reducible apply disableLink_wf
                                  | with_reducible refine wf_foldl (fun s a hp => ?_) _ ?_ | dsimp only | split
                                  | with_reducible exact id | with_reducible exact tabWf_put _ _ _
                                  | with_reducible exact fun _ => tabWf_nil
                                  | with_reducible exact fun h => tabWf_foldl_upd _ _ h
                                  | with_reducible refine TabsOk.lit ?_ ?_ ?_ ?_ ?_ ?_ ?_ ?_ ?_ ?_ ?_ ?_)

theorem clearHalted_wf  {s : State} (hp : TabsOk s) :
    TabsOk (clearHalted s) := by
  unfold clearHalted
  iterate 24 all_goals try (first | with_reducible exact hp | with_reducible apply complete_wf
                                  | with_reducible apply invalidateAll_wf | with_reducible apply clearRelay_wf
                                  | with_reducible apply clearFinisher_wf | with_reducible apply clearLinks_wf
                                  | split | dsimp only | with_reducible exact id
                                  | with_reducible exact tabWf_put _ _ _ | with_reducible exact fun _ => tabWf_nil
                                  | with_reducible exact fun h => tabWf_foldl_upd _ _ h
                                  | with_reducible refine TabsOk.lit ?_ ?_ ?_ ?_ ?_ ?_ ?_ ?_ ?_ ?_ ?_ ?_)

theorem adoptConfig_wf (p : ConfigureParams) {s : State} (hp : TabsOk s) :
    TabsOk (adoptConfig p s) := by
  unfold adoptConfig
  iterate 24 all_goals try (first | with_reducible exact hp | split | dsimp only | with_reducible exact id
                                  | with_reducible exact tabWf_put _ _ _ | with_reducible exact fun _ => tabWf_nil
                                  | with_reducible exact fun h => tabWf_foldl_upd _ _ h
                                  | with_reducible refine TabsOk.lit ?_ ?_ ?_ ?_ ?_ ?_ ?_ ?_ ?_ ?_ ?_ ?_)

theorem adoptionExpiries_wf  {s : State} (hp : TabsOk s) :
    TabsOk (adoptionExpiries s) := by
  unfold adoptionExpiries
  iterate 24 all_goals try (first | with_reducible exact hp | with_reducible apply lostGraceExpiry_wf
                                  | with_reducible apply backhaulLossExpiry_wf
                                  | with_reducible apply warmUpExpiry_wf | with_reducible apply drainExpiry_wf
                                  | with_reducible apply darkMinimumExpiry_wf
                                  | with_reducible apply deferredSwapExpiry_wf
                                  | with_reducible apply fixLossExpiry_wf)

theorem doConfigure_wf (p : ConfigureParams) {s : State} (hp : TabsOk s) :
    TabsOk (doConfigure p s) := by
  unfold doConfigure
  iterate 24 all_goals try (first | with_reducible exact hp | with_reducible apply complete_wf
                                  | with_reducible apply refuse_wf | with_reducible apply adoptConfig_wf
                                  | with_reducible apply adoptionExpiries_wf | split)

theorem beginStart_wf  {s : State} (hp : TabsOk s) :
    TabsOk (beginStart s) := by
  unfold beginStart
  iterate 24 all_goals try (first | with_reducible exact hp | with_reducible apply requestLine_wf | split
                                  | dsimp only | with_reducible exact id | with_reducible exact tabWf_put _ _ _
                                  | with_reducible exact fun _ => tabWf_nil
                                  | with_reducible exact fun h => tabWf_foldl_upd _ _ h
                                  | with_reducible refine TabsOk.lit ?_ ?_ ?_ ?_ ?_ ?_ ?_ ?_ ?_ ?_ ?_ ?_)

theorem doStart_wf  {s : State} (hp : TabsOk s) :
    TabsOk (doStart s) := by
  unfold doStart
  iterate 24 all_goals try (first | with_reducible exact hp | with_reducible apply refuse_wf
                                  | with_reducible apply beginStart_wf | split)

theorem doStop_wf  {s : State} (hp : TabsOk s) :
    TabsOk (doStop s) := by
  unfold doStop
  iterate 24 all_goals try (first | with_reducible exact hp | with_reducible apply refuse_wf
                                  | with_reducible apply stopRunning_wf | split)

theorem doLoadZone_wf (p : LoadZoneParams) {s : State} (hp : TabsOk s) :
    TabsOk (doLoadZone p s) := by
  unfold doLoadZone
  iterate 24 all_goals try (first | with_reducible exact hp | with_reducible apply complete_wf
                                  | with_reducible apply refuse_wf | with_reducible apply loadZone_wf | split)

theorem doPosition_wf (p : PositionParams) {s : State} (hp : TabsOk s) :
    TabsOk (doPosition p s) := by
  unfold doPosition
  iterate 24 all_goals try (first | with_reducible exact hp | with_reducible apply complete_wf
                                  | with_reducible apply refuse_wf | with_reducible apply discard_wf
                                  | with_reducible apply takeFix_wf | split | dsimp only)

theorem doCoverageHold_wf  {s : State} (hp : TabsOk s) :
    TabsOk (doCoverageHold s) := by
  simpa [TabsOk] using hp

theorem doCoverageRelease_wf  {s : State} (hp : TabsOk s) :
    TabsOk (doCoverageRelease s) := by
  simpa [TabsOk] using hp

theorem loadLink_wf (k : Nat) (r : LinkRec) {s : State} (hp : TabsOk s) :
    TabsOk (loadLink k r s) := by
  unfold loadLink
  iterate 24 all_goals try (first | with_reducible exact hp | with_reducible apply setLink_wf
                                  | with_reducible apply moveHealth_wf | split | dsimp only)

theorem doLoadLink_wf (p : LoadLinkParams) {s : State} (hp : TabsOk s) :
    TabsOk (doLoadLink p s) := by
  unfold doLoadLink
  iterate 24 all_goals try (first | with_reducible exact hp | with_reducible apply complete_wf
                                  | with_reducible apply refuse_wf | with_reducible apply loadLink_wf | split
                                  | dsimp only)

theorem doLinkEnable_wf (k : Nat) {s : State} (hp : TabsOk s) :
    TabsOk (doLinkEnable k s) := by
  unfold doLinkEnable
  iterate 24 all_goals try (first | with_reducible exact hp | with_reducible apply complete_wf
                                  | with_reducible apply refuse_wf | with_reducible apply enableLink_wf | split)

theorem doLinkReset_wf (k : Nat) {s : State} (hp : TabsOk s) :
    TabsOk (doLinkReset k s) := by
  unfold doLinkReset
  iterate 24 all_goals try (first | with_reducible exact hp | with_reducible apply complete_wf
                                  | with_reducible apply refuse_wf | with_reducible apply resetLink_wf | split)

theorem doLinkQuality_wf (k : Nat) (score : Nat) {s : State} (hp : TabsOk s) :
    TabsOk (doLinkQuality k score s) := by
  unfold doLinkQuality
  iterate 24 all_goals try (first | with_reducible exact hp | with_reducible apply complete_wf
                                  | with_reducible apply refuse_wf | with_reducible apply setLink_wf
                                  | with_reducible apply evaluateLink_wf | split)

theorem doLinkForce_wf (v : Nat) {s : State} (hp : TabsOk s) :
    TabsOk (doLinkForce v s) := by
  unfold doLinkForce
  iterate 24 all_goals try (first | with_reducible exact hp | with_reducible apply complete_wf
                                  | with_reducible apply refuse_wf | with_reducible apply selectorEval_wf | split
                                  | dsimp only | with_reducible exact id | with_reducible exact tabWf_put _ _ _
                                  | with_reducible exact fun _ => tabWf_nil
                                  | with_reducible exact fun h => tabWf_foldl_upd _ _ h
                                  | with_reducible refine TabsOk.lit ?_ ?_ ?_ ?_ ?_ ?_ ?_ ?_ ?_ ?_ ?_ ?_)

theorem doSetSchedule_wf (p : SetScheduleParams) {s : State} (hp : TabsOk s) :
    TabsOk (doSetSchedule p s) := by
  unfold doSetSchedule
  iterate 24 all_goals try (first | with_reducible exact hp | with_reducible apply complete_wf
                                  | with_reducible apply refuse_wf | with_reducible apply installSchedule_wf
                                  | with_reducible apply dispatchPass_wf | split | dsimp only
                                  | with_reducible exact id | with_reducible exact tabWf_put _ _ _
                                  | with_reducible exact fun _ => tabWf_nil
                                  | with_reducible exact fun h => tabWf_foldl_upd _ _ h
                                  | with_reducible refine TabsOk.lit ?_ ?_ ?_ ?_ ?_ ?_ ?_ ?_ ?_ ?_ ?_ ?_)

theorem doLoadTariff_wf (p : LoadTariffParams) {s : State} (hp : TabsOk s) :
    TabsOk (doLoadTariff p s) := by
  unfold doLoadTariff
  iterate 24 all_goals try (first | with_reducible exact hp | with_reducible apply complete_wf
                                  | with_reducible apply refuse_wf | with_reducible apply loadTariff_wf | split
                                  | dsimp only)

theorem doLoadPartner_wf (p : LoadPartnerParams) {s : State} (hp : TabsOk s) :
    TabsOk (doLoadPartner p s) := by
  unfold doLoadPartner
  iterate 24 all_goals try (first | with_reducible exact hp | with_reducible apply complete_wf
                                  | with_reducible apply refuse_wf | with_reducible apply recomputeFlag_wf | split
                                  | dsimp only | with_reducible exact id | with_reducible exact tabWf_put _ _ _
                                  | with_reducible exact fun _ => tabWf_nil
                                  | with_reducible exact fun h => tabWf_foldl_upd _ _ h
                                  | with_reducible refine TabsOk.lit ?_ ?_ ?_ ?_ ?_ ?_ ?_ ?_ ?_ ?_ ?_ ?_)

theorem doSettle_wf  {s : State} (hp : TabsOk s) :
    TabsOk (doSettle s) := by
  unfold doSettle
  iterate 24 all_goals try (first | with_reducible exact hp | with_reducible apply refuse_wf
                                  | with_reducible apply beginWalk_wf | split)

theorem accountCommand_wf (a : Nat) {go : State → State} (hg : ∀ s, TabsOk s → TabsOk (go s)) {s : State}
    (hp : TabsOk s) : TabsOk (accountCommand a go s) := by
  unfold accountCommand
  split
  · exact refuse_wf _ hp
  · split
    · exact refuse_wf _ hp
    · exact hg _ hp

theorem doOpenAccount_wf (p : OpenAccountParams) {s : State} (hp : TabsOk s) : TabsOk (doOpenAccount p s) := by
  refine accountCommand_wf _ (fun s hp => ?_) hp
  split
  · exact refuse_wf _ hp
  · exact requestCommandLine_wf _ hp

theorem doGrant_wf (p : GrantParams) {s : State} (hp : TabsOk s) : TabsOk (doGrant p s) :=
  accountCommand_wf _ (fun _ hp => requestCommandLine_wf _ hp) hp

theorem doSuspend_wf (a : Nat) {s : State} (hp : TabsOk s) : TabsOk (doSuspend a s) :=
  accountCommand_wf _ (fun _ hp => requestCommandLine_wf _ hp) hp

theorem doResume_wf (a : Nat) {s : State} (hp : TabsOk s) : TabsOk (doResume a s) :=
  accountCommand_wf _ (fun _ hp => requestCommandLine_wf _ hp) hp

theorem doCloseAccount_wf (a : Nat) {s : State} (hp : TabsOk s) : TabsOk (doCloseAccount a s) :=
  accountCommand_wf _ (fun _ hp => grantCalled_wf _ (closeTakesPlace_wf _ hp)) hp

theorem markWriting_wf  {s : State} (hp : TabsOk s) :
    TabsOk (markWriting s) := by
  unfold markWriting
  iterate 24 all_goals try (first | with_reducible exact hp | with_reducible apply mapLines_wf)

theorem doFlush_wf  {s : State} (hp : TabsOk s) :
    TabsOk (doFlush s) := by
  unfold doFlush
  iterate 24 all_goals try (first | with_reducible exact hp | with_reducible apply complete_wf
                                  | with_reducible apply refuse_wf | with_reducible apply writeBackAll_wf
                                  | with_reducible apply serveFlush_wf | with_reducible apply markWriting_wf | split
                                  | dsimp only | with_reducible exact id | with_reducible exact tabWf_put _ _ _
                                  | with_reducible exact fun _ => tabWf_nil
                                  | with_reducible exact fun h => tabWf_foldl_upd _ _ h
                                  | with_reducible refine TabsOk.lit ?_ ?_ ?_ ?_ ?_ ?_ ?_ ?_ ?_ ?_ ?_ ?_)

theorem handCommand_wf (r : Request) {s : State} (hp : TabsOk s) :
    TabsOk (handCommand r s) := by
  unfold handCommand
  iterate 24 all_goals try (first | with_reducible exact hp | with_reducible apply doConfigure_wf
                                  | with_reducible apply doStart_wf | with_reducible apply doStop_wf
                                  | with_reducible apply doLoadZone_wf | with_reducible apply doPosition_wf
                                  | with_reducible apply doCoverageHold_wf
                                  | with_reducible apply doCoverageRelease_wf | with_reducible apply doLoadLink_wf
                                  | with_reducible apply doLinkEnable_wf | with_reducible apply doLinkReset_wf
                                  | with_reducible apply doLinkQuality_wf | with_reducible apply doLinkForce_wf
                                  | with_reducible apply doSetSchedule_wf | with_reducible apply doLoadTariff_wf
                                  | with_reducible apply doLoadPartner_wf | with_reducible apply doSettle_wf
                                  | with_reducible apply doOpenAccount_wf | with_reducible apply doGrant_wf
                                  | with_reducible apply doSuspend_wf | with_reducible apply doResume_wf
                                  | with_reducible apply doCloseAccount_wf | with_reducible apply doFlush_wf | split)

theorem beginJob_wf {r : Option Request} {code : Nat} {notify : Bool} {s s' : State} (hp : TabsOk s)
    (h : beginJob r code notify s = some s') : TabsOk s' := by
  unfold beginJob at h
  split at h
  · split at h
    · cases h
    · cases h
      exact hp
  · cases h

theorem commandFetched_wf (r : Option Request) (code : Nat) (notify : Bool) {s : State} (hp : TabsOk s) :
    TabsOk (commandFetched r code notify s) := by
  unfold commandFetched
  split
  · split
    · exact answered_wf hp
    · exact hp
  · have h := beginJob_wf hp ‹_›
    apply settleEvent_wf
    split
    · exact handCommand_wf _ h
    · exact refuse_wf _ h

theorem recordFetched_wf (record : List Byte) {s : State} (hp : TabsOk s) :
    TabsOk (recordFetched record s) := by
  unfold recordFetched
  iterate 24 all_goals try (first | with_reducible exact hp | with_reducible apply commandFetched_wf)

end Sys2Proof.Machine
end

