-- ==== Sys2Proof/Tests/Slice0.lean ====
section
/-! SUPPORT. Small tests of the rows, each about one event on a small state, with values from the manual's worked sequences and
tables; the refusal of ill-formed transactions; and, for each statement with hypotheses, a state that meets them. -/

namespace Sys2Proof.Machine.Tests

set_option Elab.async false

/-! ### Small states -/

/-- Every bit of a state the tests start from: the value after pin reset, with rings latched and CONFIGURE's settings. -/
def cfg0 : Settings :=
  { softMask := 240, accounts := 8, acctBase := 4194304, upBase := 5242880, downBase := 5767168, packCeiling := 50000
    upSize := 64, downSize := 64, lostGrace := 30000, warmUp := 30000, drain := 60000, darkMin := 120000
    backhaulLimit := 20000, swapHold := 60000, maxWait := 5000, closeWait := 10000, flushAge := 2000
    radioInitiator := 3 }

/-- Zone 0: SERVE, region 2, SINGLE, list 0 then 1. -/
def zone0 : Zone :=
  { enabled := true, box := none, priority := 0, cover := .serve, region := 2, mode := .single, prefs := [0, 1], dwell := 0 }

/-- A zone with a box around the origin, `r` wide. -/
def zoneBox (r : Int) (priority : Nat) (cover : Cover) (dwell : Nat) : Zone :=
  { enabled := true, box := some { latMin := -r, latMax := r, lonMin := -r, lonMax := r }, priority := priority
    cover := cover, region := 1, mode := .single, prefs := [0, 1], dwell := dwell }

/-- Link k's record. -/
def rec0 (k : Nat) : LinkRec :=
  { cls := .shoreCell, initiator := 8 + k, carrierUse := .always, retries := 1, threshold := 40, base := 6291456 + 4096 * k
    size := 16, timeout := 10000, probation := 20000 }

/-- Link k, loaded, with this health. -/
def link0 (k : Nat) (h : Health) : Link :=
  { (default : Link) with record := some (rec0 k), health := h, quality := 55 }

/-- An OPEN account of class PACK. -/
def acct0 : AcctRec :=
  { (default : AcctRec) with
    st := acctOpen, cls := clsPack, credit := creditNormal, incarnation := 3, partner := 255, grant := 10000
    used := 8000, low := 1500, lastRegion := 255, lastClass := 255 }

/-- A cache line that holds account `a`. -/
def line0 (st : LineState) (a : Nat) (r : AcctRec) : Line :=
  { (default : Line) with st := st, account := some a, contents := r }

/-- A part in this run state: rings and settings in force, zone 0 current, link 0 UP and active, account 1 OPEN with its record
in line 0 and its gate open, coverage SERVING. The time is 100,000. -/
def demo (run : RunState) : State :=
  let s := State.resetWith 3 []
  { s with
    clock := 100000
    cfg := cfg0
    pos := { s.pos with zones := [(0, some zone0)], current := some 0 }
    cov := { s.cov with st := .serving, view := true }
    sup := { s.sup with links := [(0, link0 0 .up)], active := some 0, eligible := [0], backhaul := true }
    gate := { s.gate with map := [(1, { opened := true, partner := none, incarnation := 3 })] }
    cache := { s.cache with lines := [(0, line0 .clean 1 acct0)] }
    settle := { s.settle with region := some 2 }
    cmd := { s.cmd with base := some 1048576, size := some 16, view := some 0, configured := true, run := run }
    rep := { s.rep with base := some 2097152, size := some 64, view := some 0 } }

/-- An own read in flight, alone. -/
def reading (u : ReadUse) (s : State) : State :=
  { s with path := { s.path with
      inFlight := [.own (.read { block := .commandEngine, addr := 0, beats := 8, use := u, seq := 0 }) 1] } }

/-- The fetch of record 0 of the command ring is in flight. -/
def fetching (s : State) : State :=
  reading (.fetch s.cmd.latched) { s with cmd := { s.cmd with view := some 3, fetching := some (1048576, 0, 16) } }

/-- The part of `demo` while the record of a command is being fetched. -/
def asked (run : RunState) : State := fetching (demo run)

/-- A one-beat write with every byte enabled. -/
def slotTxn (initiator addr : Nat) (data : List Byte) : Txn :=
  { initiator := initiator, addr := addr, beats := 1, write := true, data := data, enables := List.replicate 16 true }

/-- A read. -/
def readTxn (initiator addr beats : Nat) : Txn :=
  { initiator := initiator, addr := addr, beats := beats, write := false, data := [], enables := [] }

/-- A 16-byte descriptor: length, account or tag, byte 12, byte 13 and the generation. -/
def desc (length account own b13 gen : Nat) : List Byte :=
  recordOf 16 [(8, 2, length), (10, 2, account), (12, 1, own), (13, 1, b13), (14, 2, gen)]

/-- A write of one control block field. -/
def ctlTxn (f : ControlField) (v : Nat) : Txn :=
  let p := fieldPlace f
  { initiator := 4, addr := 805306368 + p.1 / 16 * 16, beats := 1, write := true
    data := recordOf 16 [(p.1 % 16, p.2, v)], enables := enablesOf 16 [(p.1 % 16, p.2)] }

/-- A row gives a next state, of which this holds. -/
def gives (i : Instr) (s : State) (p : State → Bool) : Bool :=
  match exec i s with
  | .next t => p t
  | .fault _ => false
  | .refused _ => false

/-- The reports that a state has formed but not yet written, each as its 64 bytes. -/
def reportsIn (s : State) : List (List Byte) :=
  (s.path.queue.filter fun w => w.use == .reportRecord).map OwnWrite.data

/-- Some report of this kind and cause has been placed. -/
def reported (kind cause : Nat) (s : State) : Bool :=
  (reportsIn s).any fun b => field b 0 1 == kind && field b 2 1 == cause

/-- The status the command has completed with, once its status write is placed. -/
def statusIn (s : State) : Option Nat :=
  (s.path.queue.find? fun w => w.use == .status).map fun w => field w.data 2 1

/-- A number in the results of a completed command, at this offset of its record. -/
def resultIn (s : State) (off size : Nat) : Option Nat :=
  (s.path.queue.find? fun w => w.use == .results).map fun w => field w.data (off - (128 - 16 * w.beats)) size

/-! ### The transaction form: one ill-formed transaction for each check -/

def goodTxn : Txn := slotTxn 4 4096 (List.replicate 16 0)

theorem test_form_accepts : goodTxn.wellFormed = true := by decide
theorem test_form_initiator : { goodTxn with initiator := 16 }.wellFormed = false := by decide
theorem test_form_no_beat : (readTxn 4 4096 0).wellFormed = false := by decide
theorem test_form_17_beats : (readTxn 4 4096 17).wellFormed = false := by decide
theorem test_form_aligned : { goodTxn with addr := 4104 }.wellFormed = false := by decide
theorem test_form_4k_block : (readTxn 4 8176 2).wellFormed = false := by decide
theorem test_form_address : { goodTxn with addr := 18446744073709551616 }.wellFormed = false := by decide
theorem test_form_data : { goodTxn with data := [] }.wellFormed = false := by decide
theorem test_form_enables : { goodTxn with enables := [] }.wellFormed = false := by decide
theorem test_form_command : (Instr.passingTransaction (readTxn 4 4096 0)).wellFormed = false := by decide

/-! ### Positions and zones (01, worked sequences) -/

/-- The damaged frame of the first worked sequence: 13 buffered bytes, the last still to come. -/
def damaged : List Byte := [195, 1, 3, 7, 165, 195, 7, 7, 7, 7, 7, 7]

theorem test_frame_reexamined :
    gives (.navByte 7) (let s := demo .running; { s with pos := { s.pos with rx := .body, buf := damaged } }) (fun t =>
      t.pos.rx == .body && t.pos.buf.length == 8 && t.pos.buf.head? == some 195 && t.pos.discards == 1) = true := by decide

theorem test_sync_pair :
    gives (.navByte 195) (let s := demo .running; { s with pos := { s.pos with rx := .sync } }) (fun t =>
      t.pos.rx == .body && t.pos.buf == [195]) = true := by decide

/-- R3: a fix frame whose checksum is the sum of its ten body bytes. -/
def goodFrame : List Byte := [195, 1, 3, 0, 0, 0, 0, 0, 0, 0, 0, 4]

theorem test_good_frame :
    gives (.navByte 0) (let s := demo .running; { s with pos := { s.pos with rx := .body, buf := goodFrame, discards := 9 } })
      (fun t => t.pos.st == .valid && t.pos.discards == 0 && t.pos.rx == .hunt && reported 2 1 t) = true := by
  decide +kernel

theorem test_framing_error_in_body :
    gives .navFramingError (let s := demo .running; { s with pos := { s.pos with rx := .body, buf := [195], discards := 65535 } })
      (fun t => t.pos.rx == .hunt && t.pos.buf == [] && t.pos.discards == 65535) = true := by decide

/-- The harbour of the second worked sequence: zone 2 QUIET inside zone 3, zone 2 current. -/
def harbour (now : Time) (pendingZone : Option Nat) (since : Time) : State :=
  let s := asked .running
  { s with
    clock := now
    pos := { s.pos with
      zones := [(0, some zone0), (2, some (zoneBox 10 50 .quiet 0)), (3, some (zoneBox 100 10 .serve 20000))]
      current := some 2, pendingZone := pendingZone, pendingSince := since } }

/-- A fix in box 3 outside box 2. -/
def inCoast : PositionParams := { quality := 3, lat := 50, lon := 0 }

theorem test_dwell_begins : gives (.position false inCoast) (harbour 101000 none 0) (fun t =>
    t.pos.pendingZone == some 3 && t.pos.pendingSince == 101000 && t.pos.current == some 2) = true := by decide +kernel

theorem test_dwell_confirms : gives (.position false inCoast) (harbour 133000 (some 3) 113000) (fun t =>
    t.pos.pendingZone == none && t.pos.current == some 3 && reported 1 2 t) = true := by decide +kernel

theorem test_dwell_before_its_time : gives (.position false inCoast) (harbour 110000 (some 3) 101000) (fun t =>
    t.pos.pendingZone == some 3 && t.pos.current == some 2 && !reported 1 2 t) = true := by decide +kernel

theorem test_dwell_cancelled : gives (.position false { inCoast with lat := 0 }) (harbour 112000 (some 3) 101000)
    (fun t => t.pos.pendingZone == none && t.pos.current == some 2) = true := by decide +kernel

/-- A position VALID by a fix taken at 100,000. -/
def valid0 (now : Time) : State :=
  let s := demo .running
  { s with
    clock := now
    pos := { s.pos with st := .valid, fix := some { quality := 3, lat := 0, lon := 0, source := .line, time := 100000 } } }

theorem test_fix_loss_at_its_time : gives .fixLossExpiry (valid0 110000) (fun t =>
    t.pos.st == .lost && t.pos.lostSince == 110000 && reported 2 2 t) = true := by decide +kernel

theorem test_fix_loss_one_early : exec .fixLossExpiry (valid0 109999) = .next (valid0 109999) := by rfl

/-- LOAD_ZONE of zone 6 of the coverage sequence: CLOSE. -/
def loadSix : LoadZoneParams :=
  { index := 6, enabled := 1, priority := 40, cover := 1, region := 1, mode := 0, prefCount := 1, prefs := #v[0, 9, 9, 9]
    dwell := 700000, latMin := 0, latMax := 10, lonMin := 0, lonMax := 10 }

theorem test_load_zone_clamps_dwell : gives (.loadZone false loadSix) (asked .running) (fun t =>
    (look t.pos.zones 6).map Zone.dwell == some 600000 && statusIn t == some 1 && resultIn t 96 4 == some 600000) = true := by
  decide +kernel

theorem test_load_zone_inverted_box : gives (.loadZone false { loadSix with latMin := 11 }) (asked .running) (fun t =>
    look t.pos.zones 6 == none && statusIn t == some 4) = true := by decide +kernel

/-! ### Coverage (02, worked sequence) -/

theorem test_close_zone_closes : gives (.loadZone false { loadSix with index := 3 })
    (let s := asked .running; { s with clock := 1500000, pos := { s.pos with current := some 3 } }) (fun t =>
      t.cov.st == .closing && t.cov.closingSince == 1500000 && !admission t && gateTerm t && reported 3 4 t) = true := by
  decide +kernel

theorem test_quiet_zone_forces_dark : gives (.loadZone false { loadSix with index := 3, cover := 2 })
    (let s := asked .running
     { s with clock := 1540000, pos := { s.pos with current := some 3 }, cov := { s.cov with st := .closing } }) (fun t =>
      t.cov.st == .dark && t.cov.darkSince == 1540000 && !rfEnable t && reported 3 9 t) = true := by decide +kernel

theorem test_hold_closes : gives (.coverageHold false) (asked .running) (fun t =>
    t.cov.hold && t.cov.st == .closing && reported 3 3 t && resultIn t 97 1 == some 3) = true := by decide +kernel

/-- Coverage DARK since 0 under a hold. -/
def darkHeld : State := let s := asked .running; { s with clock := 120000, cov := { s.cov with st := .dark, hold := true } }

theorem test_release_opens : gives (.coverageRelease false) darkHeld (fun t =>
    !t.cov.hold && t.cov.st == .opening && t.cov.openingSince == 120000) = true := by decide +kernel

theorem test_dark_minimum_opens : gives .darkMinimumExpiry { darkHeld with cov := { darkHeld.cov with hold := false } } (fun t =>
    t.cov.st == .opening && reported 3 1 t) = true := by decide +kernel

theorem test_warm_up_serves :
    gives .warmUpExpiry (let s := demo .running; { s with cov := { s.cov with st := .opening, openingSince := 70000 } }) (fun t =>
      t.cov.st == .serving && reported 3 2 t) = true := by decide +kernel

theorem test_drain_goes_dark :
    gives .drainExpiry (let s := demo .running; { s with cov := { s.cov with st := .closing, closingSince := 40000 } }) (fun t =>
      t.cov.st == .dark && reported 3 8 t) = true := by decide +kernel

theorem test_backhaul_loss_closes :
    gives .backhaulLossExpiry (let s := demo .running; { s with cov := { s.cov with view := false, absentSince := 80000 } })
      (fun t => t.cov.st == .closing && reported 3 6 t) = true := by decide +kernel

theorem test_lost_grace_closes :
    gives .lostGraceExpiry (let s := demo .running; { s with pos := { s.pos with st := .lost, lostSince := 70000 } }) (fun t =>
      t.cov.st == .closing && reported 3 5 t) = true := by decide +kernel

/-! ### The memory path (03, worked sequences) -/

/-- The mixed write of the worked sequence: 3 beats, every byte enabled, over the whole control block; producer and consumer
index 1. -/
def mixedTxn : Txn :=
  { initiator := 4, addr := 805306368, beats := 3, write := true
    data := recordOf 48 [(0, 8, 4096), (8, 4, 32), (12, 4, 1), (16, 4, 9), (24, 8, 8192), (32, 4, 128), (36, 4, 9), (40, 4, 0)]
    enables := List.replicate 48 true }

theorem test_mixed_write_passes : gives (.controlBlockWrite mixedTxn) (demo .running) (fun t =>
    t.cmd.base == some 1048576 && t.cmd.view == some 1 && t.rep.view == some 0 &&
      (t.path.stream.map fun p => (p.txn.enables.filter id).length) == [40]) = true := by decide +kernel

theorem test_mixed_write_fault : gives (.controlBlockWrite mixedTxn) (demo .running) (fun t =>
    (reportsIn t).any fun b => field b 0 1 == 11 && field b 2 1 == 1 && field b 12 2 == 8) = true := by decide +kernel

theorem test_command_ring_latched : gives (.commandRingLatch (ctlTxn .cmdSize 32))
    (let s := demo .stopped; { s with cmd := { s.cmd with consumer := 5 } }) (fun t =>
      t.cmd.size == some 32 && t.cmd.view == none && t.cmd.consumer == 0) = true := by decide +kernel

theorem test_report_ring_latched : gives (.reportRingLatch (ctlTxn .repSize 128))
    (let s := demo .stopped; { s with rep := { s.rep with producer := 5, written := 5 } }) (fun t =>
      t.rep.size == some 128 && t.rep.view == none && t.rep.producer == 0 && t.path.reads.length == 1) = true := by
  decide +kernel

theorem test_producer_16_is_ignored : gives (.commandProducerIndexWrite (ctlTxn .cmdProducer 16)) (demo .running) (fun t =>
    t.cmd.view == some 0 && t.cmd.fetching == none && reported 11 11 t) = true := by decide +kernel

theorem test_producer_3_fetches : gives (.commandProducerIndexWrite (ctlTxn .cmdProducer 3)) (demo .running) (fun t =>
    t.cmd.view == some 3 && t.cmd.fetching == some (1048576, 0, 16) && t.path.reads.length == 1) = true := by decide +kernel

theorem test_consumer_index_lowers_irq : gives (.reportConsumerIndexWrite (ctlTxn .repConsumer 2))
    (let s := demo .running; { s with rep := { s.rep with producer := 2, written := 2 } }) (fun t =>
      t.rep.view == some 2 && !irq t) = true := by decide +kernel

/-- A post of the relay, 1 beat into link 0's slot 7, still queued. -/
def postC : OwnWrite :=
  { block := .uplinkRelay, addr := 6291456 + 16 * 7, beats := 1, data := List.replicate 16 1
    enables := List.replicate 16 true, use := .post 0 0, resume := false, seq := 2 }

theorem test_poll_is_held : gives (.passingTransaction (readTxn 8 (6291456 + 16 * 4) 4))
    (let s := demo .running; { s with path := { s.path with queue := [postC] } }) (fun t =>
      t.path.head.isSome && t.path.stream == []) = true := by decide +kernel

theorem test_poll_goes_on : gives .holdRelease
    (let s := demo .running
     { s with path := { s.path with head := some { txn := readTxn 8 (6291456 + 16 * 4) 4, recs := [], verdict := none
                                                   spent := false } } }) (fun t =>
      t.path.head == none && t.path.stream.length == 1) = true := by decide +kernel

/-- Step 2 of the worked sequence: the passing side ready, the own side ready, the count 6. -/
def bothReady (count : Nat) : State :=
  let s := demo .running
  { s with path := { s.path with
      queue := [postC], stream := [{ txn := readTxn 4 9437184 1, subs := [] }], runCount := count } }

theorem test_arbiter_passing : gives .arbiterIssue (bothReady 6) (fun t =>
    t.path.runCount == 7 && t.path.stream == [] && t.path.queue.length == 1) = true := by decide +kernel

theorem test_arbiter_own_after_8 : gives .arbiterIssue (bothReady 8) (fun t =>
    t.path.runCount == 0 && t.path.stream.length == 1 && t.path.queue == []) = true := by decide +kernel

theorem test_write_enters_queue : gives .ownWriteEntersQueue
    (let s := demo .running
     { s with path := { s.path with queue := List.replicate 15 postC, waiting := [postC, postC] } }) (fun t =>
      t.path.queue.length == 16 && t.path.waiting.length == 1) = true := by decide +kernel

theorem test_first_error_retries : gives (.ownTransactionError 0) (reading (.fill 0) (demo .running)) (fun t =>
    t.path.reissue.length == 1 && t.cmd.run == .running && reportsIn t == []) = true := by decide +kernel

theorem test_second_error_halts : gives (.ownTransactionError 0)
    (let s := demo .running
     { s with path := { s.path with inFlight := [.own (.write postC) 2] } }) (fun t =>
      t.cmd.run == .halted && t.cov.st == .dark && reported 11 12 t && reported 11 13 t) = true := by decide +kernel

/-- A read of account 1 answered in part from a line, in flight. -/
def mixedRead : State :=
  let s := demo .running
  { s with path := { s.path with
      inFlight := [.passing { txn := readTxn 4 4194304 8, subs := [(4194368, List.replicate 64 9)] }]
      owed := [{ initiator := 4, answer := none }] } }

theorem test_line_bytes_replace_memory : gives (.passingResponse true (List.replicate 128 0)) mixedRead (fun t =>
    t.path.upOut.map Response.data == [List.replicate 64 0 ++ List.replicate 64 9]) = true := by decide +kernel

theorem test_error_is_unchanged : gives (.passingResponse false []) mixedRead (fun t =>
    t.path.upOut == [{ initiator := 4, ok := false, data := [] }]) = true := by decide +kernel

/-! ### Shore links (04, worked sequence) -/

/-- Links 0 and 1 of the coastal stretch, at this time; link 1 UP. -/
def coast (now : Time) (h : Health) (active lastSwap : Nat) : State :=
  let s := asked .running
  { s with
    clock := now
    sup := { s.sup with
      links := [(0, link0 0 h), (1, { link0 1 .up with quality := 80 })], active := some active, eligible := [1]
      lastSwap := BitVec.ofNat 32 lastSwap } }

theorem test_low_quality_swaps : gives (.linkQuality false 0 35) (coast 1000000 .up 0 500000) (fun t =>
    (linkOf t 0).health == .down && t.sup.active == some 1 && t.sup.lastSwap == 1000000 && reported 5 2 t) = true := by
  decide +kernel

theorem test_preference_swap_is_deferred : gives (.probationExpiry 0)
    (let s := coast 1050000 .probation 1 1000000
     { s with sup := { s.sup with links := put s.sup.links 0 { link0 0 .probation with probationSince := 1030000 } } }) (fun t =>
      (linkOf t 0).health == .up && t.sup.active == some 1 && t.sup.deferred == some 1060000) = true := by decide +kernel

theorem test_deferred_swap : gives .deferredSwapExpiry
    (let s := coast 1060000 .up 1 1000000
     { s with sup := { s.sup with deferred := some 1060000 } }) (fun t =>
      t.sup.active == some 0 && t.sup.deferred == none && t.sup.lastSwap == 1060000 && reported 5 3 t) = true := by
  decide +kernel

theorem test_link_stalls : gives (.completionTimeoutExpiry 0)
    (let s := coast 1075000 .up 0 1060000
     { s with sup := { s.sup with links := put s.sup.links 0 { link0 0 .up with posted := 9, oldest := some 1065000 } } })
    (fun t => (linkOf t 0).health == .stalled && t.sup.active == some 1 && (linkOf t 0).posted == 9) = true := by
  decide +kernel

theorem test_force_active_link : gives (.linkForce false 1) (coast 1120000 .up 1 1075000) (fun t =>
    t.sup.active == some 1 && t.sup.deferred == none && t.sup.lastSwap == 1075000) = true := by decide +kernel

theorem test_release_force : gives (.linkForce false 255)
    (let s := coast 1200000 .up 1 1075000; { s with sup := { s.sup with forced := some 1 } }) (fun t =>
      t.sup.active == some 0 && t.sup.lastSwap == 1200000 && reported 5 3 t) = true := by decide +kernel

theorem test_carrier_falls : gives (.linkCarrierChange 0 false)
    (let s := coast 2000000 .up 0 500000
     let l := { link0 0 .up with record := some { rec0 0 with carrierUse := .line }, carrierLine := true, posted := 3 }
     { s with sup := { s.sup with links := put s.sup.links 0 l } }) (fun t =>
      (linkOf t 0).health == .down && t.sup.active == some 1 && (linkOf t 0).posted == 3 && reported 5 2 t) = true := by
  decide +kernel

theorem test_link_enable : gives (.linkEnable false 0) (coast 1000000 .disabled 1 0) (fun t =>
    (linkOf t 0).health == .down && (linkOf t 0).gen == 1 && (linkOf t 0).quality == 0 && statusIn t == some 1) = true := by
  decide +kernel

theorem test_load_link_clamps : gives (.loadLink false
    { link := 2, cls := 2, initiator := 10, carrierUse := 1, retries := 9, threshold := 120, ringSize := 64
      ringBase := 7340032, timeout := 5, probation := 0 }) (coast 1000000 .up 0 0) (fun t =>
      (linkOf t 2).health == .disabled && resultIn t 96 1 == some 3 && resultIn t 97 1 == some 100 &&
        resultIn t 100 4 == some 10) = true := by decide +kernel

/-! ### The uplink relay (05, worked sequences) -/

/-- Relay entry 42 of the swap under load, POSTED on link 0 in slot 12, unmetered. -/
def entry42 : Entry :=
  { (default : Entry) with
    st := .posted, slot := 50, length := 1500, account := shipAccount, takeTime := 99700, link := some 0, linkSlot := 12
    postTime := 99700, attempts := 1, consecutive := 1 }

/-- Entry 42 POSTED on link 0, both links UP, link 0 active. -/
def posted42 : State :=
  let s := coast 100000 .up 0 0
  { s with
    sup := { s.sup with links := put s.sup.links 0 { link0 0 .up with posted := 1, oldest := some 99700 } }
    relay := { s.relay with table := [(42, entry42)], held := [(50, true)] } }

theorem test_completion_ok : gives (.linkRingWrite (slotTxn 8 (6291456 + 16 * 12) (desc 0 42 0 1 0))) posted42 (fun t =>
    (entryOf t 42).st == .free && !look t.relay.held 50 && (linkOf t 0).posted == 0 &&
      (t.path.queue.map fun w => (w.addr, field w.data 13 1, field w.data 14 1, field w.data 15 1)) ==
        [(5242880 + 16 * 50, 1, 0, 1)]) = true := by decide +kernel

theorem test_completion_fail_posts_again :
    gives (.linkRingWrite (slotTxn 8 (6291456 + 16 * 12) (desc 0 42 0 2 0)))
      (let s := posted42; { s with relay := { s.relay with table := [(42, { entry42 with consecutive := 2 })] } }) (fun t =>
      (entryOf t 42).st == .posted && (entryOf t 42).link == some 1 && (entryOf t 42).attempts == 2 &&
        (entryOf t 42).consecutive == 1 && (linkOf t 1).posted == 1) = true := by decide +kernel

theorem test_link_reset_releases : gives (.linkReset false 0) posted42 (fun t =>
    (linkOf t 0).health == .disabled && (linkOf t 0).gen == 1 && (entryOf t 42).link == some 1 &&
      (entryOf t 42).attempts == 2 && (linkOf t 0).posted == 0) = true := by decide +kernel

theorem test_ready_slot_is_taken : gives (.uplinkRingWrite (slotTxn 4 5242880 (desc 1400 shipAccount 1 0 0))) (demo .running)
    (fun t => t.relay.take == some { slot := 0, entry := 0, time := 100000 } && look t.relay.held 0 && t.relay.takePtr == 1 &&
      t.path.reads.length == 1) = true := by decide +kernel

/-- A take of slot 3 into entry 0 whose read is in flight. -/
def taking : State :=
  reading .take (let s := demo .running
    { s with relay := { s.relay with take := some { slot := 3, entry := 0, time := 99000 }, held := [(3, true)] } })

/-- The 16 bytes of a read. -/
def beat (length account : Nat) : Vector Byte 16 := ⟨(desc length account 1 0 0).toArray, by rfl⟩

theorem test_take_posts : gives (.takeReadDone (beat 1400 shipAccount)) taking (fun t =>
    (entryOf t 0).st == .posted && (entryOf t 0).link == some 0 && (entryOf t 0).attempts == 1 && (linkOf t 0).postPtr == 1 &&
      t.relay.take == none) = true := by decide +kernel

theorem test_take_of_nothing : gives (.takeReadDone (beat 0 1)) taking (fun t =>
    (entryOf t 0).st == .free && !look t.relay.held 3 && (t.path.queue.map fun w => field w.data 13 1) == [5]) = true := by
  decide +kernel

theorem test_head_age : gives .headAgeExpiry
    (let s := demo .running
     { s with relay := { s.relay with
        table := [(7, { (default : Entry) with st := .waiting, account := shipAccount, takeTime := 94999 })], waitList := [7] } })
    (fun t => t.relay.waitList == [] && (t.path.queue.map fun w => field w.data 13 1) == [4]) = true := by decide +kernel

/-- A schedule of two slots. -/
def sched2 : SetScheduleParams := { count := 2, slots := Vector.ofFn fun i => if i.val = 0 then 3 else 255 }

theorem test_schedule_staged : gives (.setSchedule false sched2)
    (let s := asked .running
     { s with sup := { s.sup with mode := .shared }, relay := { s.relay with running := { slots := [some 2, some 2, some 3] }, round := 1 } })
    (fun t => t.relay.staged == some { slots := [some 3, none] } && t.relay.round == 1 && resultIn t 96 1 == some 0) = true := by
  decide +kernel

theorem test_schedule_installed : gives (.setSchedule false sched2) (asked .stopped) (fun t =>
    t.relay.running == { slots := [some 3, none] } && resultIn t 96 1 == some 1) = true := by decide +kernel

/-! ### Capture (06, worked sequences) -/

/-- Account 1 a ROAMER of partner 9 with 40 events queued, an event of it being rated. -/
def roamer (admitted : Bool) : State :=
  let s := demo .running
  let e : UsageEvent := { dir := .uplink, account := 1, incarnation := 3, bytes := 1, cls := .shoreCell, region := 1, tag := 0 }
  { s with
    gate := { s.gate with
      map := [(1, { opened := true, partner := some 9, incarnation := 3 })], queue := List.replicate 40 e }
    rate := { s.rate with requested := some 1 }
    settle := { s.settle with admitted := if admitted then [(9, true)] else [] } }

/-- Software hands over slot 70 for account 1, 1,400 bytes from link 0. -/
def handOver : Txn := slotTxn 4 (5767168 + 16 * 60) (desc 1400 1 1 0 0)

theorem test_descriptor_is_charged : gives (.downlinkDescriptor handOver) (roamer true) (fun t =>
    t.gate.queue.length == 41 && (t.gate.queue.getLast?.map UsageEvent.cls) == some .shoreCell &&
      (t.gate.queue.getLast?.map UsageEvent.region) == some 2 &&
      (t.path.stream.map fun p => field p.txn.data 12 1) == [1]) = true := by decide +kernel

theorem test_descriptor_is_discarded : gives (.downlinkDescriptor handOver) (roamer false) (fun t =>
    t.gate.queue.length == 40 && (t.path.stream.map fun p => field p.txn.data 12 1) == [3]) = true := by decide +kernel

theorem test_waiting_event_enters : gives .waitingEventRelease
    (let s := roamer true
     let e : UsageEvent := { dir := .downlink, account := 1, incarnation := 3, bytes := 1200, cls := .satellite, region := 1, tag := 0 }
     { s with
       gate := { s.gate with queue := List.replicate 127 e, waiting := some { event := e, producer := .downlink } }
       path := { s.path with head := some { txn := handOver, recs := [], verdict := some .downlink, spent := false } } })
    (fun t => t.gate.queue.length == 128 && t.gate.waiting == none && t.path.head == none &&
      (t.path.stream.map fun p => field p.txn.data 12 1) == [1]) = true := by decide +kernel

theorem test_waiting_event_withdrawn : gives .waitingEventRelease
    (let s := roamer false
     let e : UsageEvent := { dir := .downlink, account := 1, incarnation := 3, bytes := 1200, cls := .satellite, region := 1, tag := 0 }
     { s with
       gate := { s.gate with queue := List.replicate 127 e, waiting := some { event := e, producer := .downlink } }
       path := { s.path with head := some { txn := handOver, recs := [], verdict := some .downlink, spent := false } } })
    (fun t => t.gate.queue.length == 127 && t.gate.waiting == none &&
      (t.path.stream.map fun p => field p.txn.data 12 1) == [3]) = true := by decide +kernel

theorem test_radio_write_passes : gives (.radioDownlinkRingWrite (slotTxn 3 (5767168 + 16 * 60) (desc 1400 1 1 0 0)))
    (roamer false) (fun t => t.gate.queue.length == 40 && (t.path.stream.map fun p => field p.txn.data 12 1) == [1]) = true := by
  decide +kernel

/-! ### Rating (07, worked sequence and worked cases) -/

/-- The tariff of region 1 and PACK. -/
def tariff1 : Tariff := { block := 1024, upPrice := 150, downPrice := 60, mults := [256, 320, 600, 128] }

/-- The record before the first event. -/
def before1 : AcctRec :=
  { acct0 with carryUp := 700, residue := 37, total := 12000, lastRegion := 1, lastClass := 2 }

/-- The three events. -/
def ev (dir : Direction) (bytes : Nat) (cls : LinkClass) : UsageEvent :=
  { dir := dir, account := 1, incarnation := 3, bytes := bytes, cls := cls, region := 1, tag := 0 }

theorem test_event_1 : gives (.lineGrant 0)
    (let s := demo .running
     { s with
       rate := { s.rate with tariffs := [(4, some tariff1)], requested := some 1 }
       gate := { s.gate with queue := [ev .uplink 2000 .satellite] }
       cache := { s.cache with lines := [(0, { line0 .clean 1 before1 with waiting := [.rating] })] } }) (fun t =>
      (lineOf t 0).contents == { before1 with carryUp := 652, residue := 69, used := 8703, total := 12703, bytesUp := 2000,
                                              credit := creditLow, marks := 1 } &&
        (lineOf t 0).st == .dirty && t.gate.queue == [] && reported 6 1 t) = true := by decide +kernel

theorem test_event_2 : (rate tariff1 { before1 with carryUp := 652, residue := 69 } (ev .downlink 500 .shoreCell)).record =
    { before1 with carryUp := 652, carryDown := 500, residue := 69, bytesDown := 500 } := by decide +kernel

theorem test_event_3 :
    let w := rate tariff1 { before1 with used := 8703, carryDown := 500, residue := 69 } (ev .downlink 3000 .shoreRadio)
    w.blocks = 3 ∧ w.charge = 225 ∧ w.record.carryDown = 428 ∧ w.record.residue = 69 ∧ w.record.used = 8928 ∧
      w.record.lastClass = 1 := by decide +kernel

/-- The record before the close. -/
def before4 : AcctRec :=
  { before1 with carryUp := 652, carryDown := 428, residue := 69, used := 8928, total := 12928, lastClass := 1 }

theorem test_round_up : (roundUp tariff1 before4).2 = 263 ∧ (roundUp tariff1 before4).1.used = 9191 ∧
    (roundUp tariff1 before4).1.total = 13191 ∧ (roundUp tariff1 before4).1.credit = creditLow := by decide +kernel

theorem test_round_up_after_event_1 :
    (roundUp tariff1 { before4 with carryDown := 0, used := 8703, lastClass := 2 }).2 = 352 := by decide +kernel

theorem test_charge_saturates :
    let w := rate { block := 1, upPrice := 0, downPrice := 1000000, mults := [0, 0, 0, 1023] } { acct0 with residue := 100 }
      (ev .downlink 65535 .portFixed)
    w.full = 261884003906 ∧ w.record.residue = 164 ∧ w.charge = 4294967295 ∧ clampedSinceOpen w.record = true := by
  decide +kernel

theorem test_stale_event : gives (.lineGrant 0)
    (let s := demo .running
     { s with
       rate := { s.rate with tariffs := [(4, some tariff1)], requested := some 1 }
       gate := { s.gate with queue := [{ ev .uplink 2000 .satellite with incarnation := 2 }] }
       cache := { s.cache with lines := [(0, { line0 .clean 1 before1 with waiting := [.rating] })] } }) (fun t =>
      (lineOf t 0).contents == before1 && (lineOf t 0).st == .clean && t.gate.queue == [] && reported 11 8 t) = true := by
  decide +kernel

theorem test_load_tariff_region_9 : gives (.loadTariff false
    { region := 9, cls := 1, mults := Vector.replicate 4 1, block := 1, upPrice := 1, downPrice := 1 }) (asked .stopped) (fun t =>
      statusIn t == some 4 && t.rate.loaded == 0 && t.cmd.consumer == 1) = true := by decide +kernel

theorem test_load_tariff_clamps : gives (.loadTariff false
    { region := 2, cls := 3, mults := Vector.replicate 4 2000, block := 0, upPrice := 2000000, downPrice := 1 }) (asked .stopped)
    (fun t => look t.rate.tariffs 8 == some { block := 1, upPrice := 1000000, downPrice := 1, mults := [1023, 1023, 1023, 1023] }) =
    true := by decide +kernel

/-! ### Accounts (08, worked sequences) -/

/-- Account 1 with this record. -/
def holding (r : AcctRec) : State :=
  let s := asked .running
  { s with cache := { s.cache with lines := [(0, line0 .clean 1 r)] } }

theorem test_grant_race : gives (.grant false { account := 1, generation := 4, threshold := 3000, amount := 30000 })
    (holding { acct0 with credit := creditExhausted, gen := 4, grant := 20000, used := 20150, low := 2000, marks := 1 }) (fun t =>
      (lineOf t 0).contents == { acct0 with gen := 5, grant := 30000, used := 150, low := 3000, marks := 0 } &&
        (look t.gate.map 1).opened && statusIn t == some 1 && resultIn t 120 8 == some 20150) = true := by decide +kernel

theorem test_grant_mismatch : gives (.grant false { account := 1, generation := 4, threshold := 1000, amount := 10000 })
    (holding { acct0 with gen := 5 }) (fun t => (lineOf t 0).contents == { acct0 with gen := 5 } && statusIn t == some 9) =
    true := by decide +kernel

theorem test_open_crew : gives (.openAccount false
    { account := 1, cls := 3, partner := 7, subscriber := 99, grant := 500, threshold := 5 })
    (holding { acct0 with st := acctFree, incarnation := 255, used := 77 }) (fun t =>
      (lineOf t 0).contents == { acct0 with cls := clsCrew, credit := creditNone, incarnation := 0, grant := 0, used := 0, low := 0
                                            subscriber := 99, openTime := 100000 } &&
        look t.gate.map 1 == { opened := true, partner := none, incarnation := 0 }) = true := by decide +kernel

theorem test_open_when_closing : gives (.openAccount false
    { account := 1, cls := 3, partner := 7, subscriber := 99, grant := 500, threshold := 5 })
    (let s := holding { acct0 with st := acctFree }; { s with cov := { s.cov with st := .closing } }) (fun t =>
      (lineOf t 0).contents.st == acctFree && statusIn t == some 10) = true := by decide +kernel

theorem test_suspend : gives (.suspend false 1) (holding acct0) (fun t =>
    (lineOf t 0).contents == { acct0 with st := acctSuspended, cause := 1 } && !(look t.gate.map 1).opened) = true := by
  decide +kernel

theorem test_resume_exhausted : gives (.resume false 1)
    (holding { acct0 with st := acctSuspended, cause := 1, credit := creditExhausted }) (fun t =>
      (lineOf t 0).contents.st == acctOpen && (lineOf t 0).contents.cause == 0 && !(look t.gate.map 1).opened) = true := by
  decide +kernel

theorem test_close_with_an_event : gives (.closeAccount false 1)
    (let s := holding acct0; { s with gate := { s.gate with queue := [ev .uplink 1 .shoreCell] }, rate := { s.rate with requested := some 1 } })
    (fun t => (lineOf t 0).contents.st == acctClosing && t.acct.finisher == .idle && statusIn t == some 2 &&
      t.acct.places == [{ account := 1, incarnation := 3, closeTime := 100000, expired := false, detached := 0 }]) = true := by
  decide +kernel

theorem test_close_wait_limit : gives (.closeWaitLimitExpiry 0)
    (let s := demo .running
     { s with
       acct := { s.acct with
        places := [{ account := 1, incarnation := 3, closeTime := 90000, expired := false, detached := 0 }] }
       relay := { s.relay with
        table := [(301, { (default : Entry) with st := .posted, account := 1, metered := true, incarnation := 3 })] } })
    (fun t => (entryOf t 301).detached && (t.acct.places.map Place.detached) == [1] && t.acct.finisher == .requesting &&
      (lineOf t 0).waiting == [.finisher]) = true := by decide +kernel

theorem test_finisher_frees_record : gives (.lineGrant 0)
    (let s := demo .running
     { s with
       rate := { s.rate with tariffs := [(7, some tariff1)] }
       acct := { s.acct with
        places := [{ account := 1, incarnation := 3, closeTime := 90000, expired := true, detached := 1 }]
        finisher := .requesting, finishing := some 0 }
       cache := { s.cache with lines := [(0, { line0 .clean 1 { before4 with st := acctClosing } with waiting := [.finisher] })] } })
    (fun t => (lineOf t 0).contents.st == acctFree && (lineOf t 0).contents.used == 9191 && t.acct.places == [] &&
      t.acct.finisher == .idle && (reportsIn t).any fun b => field b 0 1 == 8 && field b 14 1 == 1 && field b 15 3 == 263) =
    true := by decide +kernel

/-! ### The account cache (09, worked sequences) -/

theorem test_read_of_dirty_line : gives (.accountTableRead (readTxn 4 (4194304 + 64) 4))
    (let s := demo .running
     { s with cache := { s.cache with lines := [(0, line0 .dirty 1 before1)] } }) (fun t =>
      t.path.upOut.map Response.data == [bytesOfRec before1] && (lineOf t 0).st == .writing && t.path.queue.length == 1) =
    true := by decide +kernel

theorem test_read_of_missing_record : gives (.accountTableRead (readTxn 4 (4194304 + 128) 4)) (demo .running) (fun t =>
    t.path.upOut == [] && t.path.stream.length == 1 && t.path.reads == []) = true := by decide +kernel

theorem test_table_write_is_dropped : gives (.accountTableWrite (slotTxn 4 4194304 (List.replicate 16 1))) (demo .running) (fun t =>
    t.path.stream == [] && t.path.upOut == [{ initiator := 4, ok := true, data := [] }] && reported 11 1 t) = true := by
  decide +kernel

theorem test_fill : gives (.fillDone ⟨(bytesOfRec before1).toArray, by rfl⟩)
    (let s := reading (.fill 0) (demo .running)
     { s with cache := { s.cache with lines := [(0, { (default : Line) with st := .filling, account := some 1 })] } }) (fun t =>
      (lineOf t 0).st == .clean && (lineOf t 0).contents == before1) = true := by decide +kernel

/-- A write-back of line 0 in flight. -/
def writingBack (redirty : Bool) : State :=
  let s := demo .running
  { s with
    path := { s.path with inFlight := [.own (.write (fullWrite .accountCache 4194368 (bytesOfRec acct0) (.lineBack 0))) 1] }
    cache := { s.cache with lines := [(0, { line0 .writing 1 before1 with redirty := redirty, dirtySince := 5 })] } }

theorem test_write_back_clean : gives .writeBackDone (writingBack false) (fun t => (lineOf t 0).st == .clean) = true := by
  decide +kernel

theorem test_write_back_redirtied : gives .writeBackDone (writingBack true) (fun t =>
    (lineOf t 0).st == .dirty && (lineOf t 0).dirtySince == 5 && !(lineOf t 0).redirty) = true := by decide +kernel

theorem test_age_expiry : gives (.ageExpiry 0)
    (let s := demo .running
     { s with cache := { s.cache with lines := [(0, { line0 .dirty 1 before1 with dirtySince := 98000 })] } }) (fun t =>
      (lineOf t 0).st == .writing && (t.path.queue.map OwnWrite.data) == [bytesOfRec before1]) = true := by decide +kernel

theorem test_age_one_early : gives (.ageExpiry 0)
    (let s := demo .running
     { s with cache := { s.cache with lines := [(0, { line0 .dirty 1 before1 with dirtySince := 98001 })] } }) (fun t =>
      (lineOf t 0).st == .dirty) = true := by decide +kernel

theorem test_flush : gives (.flush false)
    (let s := asked .running
     { s with cache := { s.cache with lines := [(0, line0 .dirty 1 before1)] } }) (fun t =>
      (lineOf t 0).st == .writing && (lineOf t 0).flushMark && t.cache.flush == some 1 && statusIn t == none) = true := by
  decide +kernel

/-! ### Partners and settlement (10, worked sequence) -/

/-- Pairs (9, 1) and (9, 2) nonzero, walk count 41, room for one report. -/
def twoPairs : State :=
  let s := asked .running
  let a : Accum := { charge := 48200, bytesUp := 3100000, bytesDown := 9800000, events := 2140, saturated := false, lastCut := 54 }
  { s with
    settle := { s.settle with accums := [(73, a), (74, { a with charge := 12050 })], walkCount := 41 }
    rep := { s.rep with view := some 2 } }

theorem test_settle_first_cut : gives (.settle false) twoPairs (fun t =>
    t.settle.walkCount == 42 && (look t.settle.accums 73).charge == 0 && (look t.settle.accums 73).lastCut == 100000 &&
      (look t.settle.accums 74).charge == 12050 &&
      t.settle.walk == some { stopCause := false, next := 74, records := 1, charge := 48200 } && t.rep.waiters == [.cut] &&
      (reportsIn t).any fun b => field b 8 1 == 9 && field b 9 1 == 1 && field b 10 2 == 42 && field b 16 8 == 48200 &&
        field b 40 4 == 54) = true := by decide +kernel

theorem test_settle_goes_on : gives .billingReportPlaced
    (let s := twoPairs
     { s with
       settle := { s.settle with walk := some { stopCause := false, next := 74, records := 1, charge := 48200 } }
       rep := { s.rep with waiters := [.cut] }
       cmd := { s.cmd with
        fetching := none
        job := some { request := some .settle, code := 21, notify := false, addr := 1048576, index := 0, size := 16, done := none } } })
    (fun t => t.settle.walk == none && (look t.settle.accums 74).charge == 0 && resultIn t 104 8 == some 60250) = true := by
  decide +kernel

theorem test_barred_partner_clears_flag : gives (.loadPartner false { partner := 9, state := 2, mask := 255, ceiling := 1 })
    (let s := asked .running; { s with settle := { s.settle with admitted := [(9, true)] } }) (fun t =>
      !look t.settle.admitted 9 && reported 7 2 t) = true := by decide +kernel

/-! ### Commands, reports and run states (11, worked sequence) -/

/-- CONFIGURE with a swap hold of 900,000 ms. -/
def config0 : ConfigureParams :=
  { softMask := 240, accounts := 8, acctBase := 4194304, upBase := 5242880, downBase := 5767168, packCeiling := 50000
    upSize := 64, downSize := 64, fixLoss := 10000, lostGrace := 0, warmUp := 0, drain := 60000, darkMin := 0
    backhaulLimit := 20000, swapHold := 900000, maxWait := 5000, closeWait := 10000, flushAge := 2000
    radioInitiator := 3, minQuality := 1 }

theorem test_configure_clamps_swap_hold : gives (.configure false config0) (asked .stopped) (fun t =>
    t.cfg.swapHold == 600000 && resultIn t 68 4 == some 600000 && resultIn t 96 2 == some 64 && statusIn t == some 1) = true := by
  decide +kernel

theorem test_configure_no_accounts : gives (.configure false { config0 with accounts := 0 }) (asked .stopped) (fun t =>
    t.cfg == cfg0 && statusIn t == some 4) = true := by decide +kernel

theorem test_start_not_configured : gives (.start true)
    (let s := asked .stopped; { s with pos := { s.pos with zones := [] } }) (fun t =>
      statusIn t == some 6 && t.cmd.run == .stopped && t.cmd.consumer == 1 &&
        (reportsIn t).any fun b => field b 0 1 == 10 && field b 9 1 == 2 && field b 10 1 == 6 && field b 11 1 == 0) = true := by
  decide +kernel

theorem test_start_scans : gives (.start false)
    (let s := asked .stopped; { s with rate := { s.rate with loaded := 24 } }) (fun t =>
      t.cmd.run == .starting && t.gate.map == [] && (t.acct.scan.map Scan.next) == some 0 && t.path.reads.length == 1) = true := by
  decide +kernel

/-- A record of 128 bytes that holds only its code. -/
def record0 (code : Nat) : Vector Byte 128 := ⟨(recordOf 128 [(0, 1, code)]).toArray, by simp [recordOf, poke, leBytes]⟩

theorem test_bad_code : gives (.commandFetchDone (record0 23)) (asked .running) (fun t =>
    statusIn t == some 3 && t.cmd.consumer == 1 && t.cmd.fetching.isSome) = true := by decide +kernel

theorem test_code_6_is_hold : gives (.commandFetchDone (record0 6)) (asked .running) (fun t => t.cov.hold) = true := by
  decide +kernel

theorem test_consumer_read_taken : gives (.reportConsumerReadDone ⟨(recordOf 16 [(8, 4, 5)]).toArray, by rfl⟩)
    (reading (.consumerIndex 0) (demo .stopped)) (fun t => t.rep.view == some 5) = true := by decide +kernel

theorem test_consumer_read_too_late : gives (.reportConsumerReadDone ⟨(recordOf 16 [(8, 4, 5)]).toArray, by rfl⟩)
    (let s := reading (.consumerIndex 0) (demo .stopped); { s with rep := { s.rep with accepted := 1 } }) (fun t =>
      t.rep.view == some 0) = true := by decide +kernel

theorem test_stop_forces_dark : gives (.stop false) (asked .running) (fun t => t.cov.st == .dark && reported 3 9 t) = true := by
  decide +kernel

/-- STOP's step 4 with entry 42 still posted. -/
def step4 : State :=
  let s := posted42
  { s with cmd := { s.cmd with run := .stopping, stopStep := 4, stepSince := 90000 }, cov := { s.cov with st := .dark } }

theorem test_posted_wait : gives .stopPostedWaitExpiry step4 (fun t =>
    (entryOf t 42).st == .free && (linkOf t 0).health == .disabled && (linkOf t 0).gen == 1 && (linkOf t 0).posted == 0) =
    true := by decide +kernel

theorem test_stop_step_waits : exec .stopStepAdvance step4 = .next step4 := by rfl

/-- STOP in progress. -/
def stopJob : Job :=
  { request := some .stop, code := 3, notify := false, addr := 1048576, index := 0, size := 16, done := none }

theorem test_stop_step_goes_on : gives .stopStepAdvance
    (let s := demo .stopping; { s with cmd := { s.cmd with stopStep := 6, job := some stopJob } }) (fun t =>
      t.cmd.run == .stopped && statusIn t == some 1) = true := by decide +kernel

theorem test_stop_from_halted : gives .stopHaltedClear
    (let s := demo .halted
     { s with
       cache := { s.cache with lines := [(0, line0 .dirty 1 acct0)] }
       gate := { s.gate with queue := [ev .uplink 1 .shoreCell], haltDiscards := 1 }
       cmd := { s.cmd with job := some stopJob } })
    (fun t => t.cmd.run == .stopped && statusIn t == some 1 && resultIn t 96 1 == some 4 && resultIn t 106 2 == some 1 &&
      resultIn t 108 2 == some 2 && (lineOf t 0).st == .invalid && (linkOf t 0).health == .disabled) = true := by decide +kernel

theorem test_pin_reset_keeps_carrier : gives (.pinReset 5)
    (let s := demo .running; { s with sup := { s.sup with links := [(2, { link0 2 .up with carrierLine := true })] } }) (fun t =>
      t == State.resetWith 5 [(2, true)] && ctrlBase t == 1342177280) = true := by decide +kernel

theorem test_idle_clock_ticks : step State.reset = .next { State.reset with clock := 1 } := by rfl

/-! ### A state and operands for the hypotheses of each statement -/

/-- A fetch of record 0 returns. -/
theorem asked_fetch (run : RunState) : fetchReturns (asked run) 1048576 0 16 := ⟨rfl, rfl, rfl⟩

/-- A state of the tests with this command in front. -/
def queued (i : Instr) (s : State) : State := { s with pending := [i] }

theorem witness_StepRunsFront : ∃ (c : Instr) (rest : List Instr) (s : State), s.pending = c :: rest :=
  ⟨.navFramingError, [], queued .navFramingError (demo .running), rfl⟩

theorem witness_EveryStepKeepsRfLaw : ∃ s t : State, rfLaw s = true ∧ s.cov.st = .serving ∧ step s = .next t :=
  ⟨queued .navFramingError (demo .running), demo .running, by decide, rfl, by rfl⟩

/-- Every capacity reached. -/
def fullParts : State :=
  let s := demo .running
  { s with
    pos := { s.pos with discards := 65535 }
    path := { s.path with queue := List.replicate 16 postC, runCount := 8 }
    gate := { s.gate with queue := List.replicate 128 (ev .uplink 1 .shoreCell) }
    rep := { s.rep with dropped := 255 } }

theorem witness_EveryStepKeepsBounds : ∃ s t : State, bounded s = true ∧ step s = .next t :=
  ⟨queued .navFramingError fullParts, fullParts, by decide +kernel, by rfl⟩

theorem witness_EveryStepKeepsTables : ∃ s t : State, tablesWf s = true ∧ s.sup.links ≠ [] ∧ step s = .next t :=
  ⟨queued .navFramingError (demo .running), demo .running, by decide, by decide, by rfl⟩

theorem witness_RowFrames : ∃ (i : Instr) (s t : State), exec i s = .next t ∧ t ≠ s :=
  ⟨.fixLossExpiry, valid0 110000, fixLossExpiry (valid0 110000), by rfl, by decide +kernel⟩

theorem witness_LoadedTablesMoveByTheirCommand : ∃ (i : Instr) (s t : State), exec i s = .next t ∧
    (∀ sel, i ≠ .pinReset sel) ∧ (∀ r, i ≠ .commandFetchDone r) ∧ (∀ n p, i ≠ .loadZone n p) ∧ (∀ n p, i ≠ .configure n p) :=
  ⟨.navFramingError, demo .running, demo .running, by rfl, nofun, nofun, nofun, nofun⟩

theorem witness_OnlyMalformedIsRefused : ∃ (i : Instr) (s : State) (f : Fault), exec i s = .fault f :=
  ⟨.passingResponse true [], mixedRead, .responseLength, by rfl⟩

/-- The receiver in BODY with these bytes. -/
def inBody (buf : List Byte) : State := let s := demo .running; { s with pos := { s.pos with rx := .body, buf := buf } }

theorem witness_NavByteMovesReceiver : ∃ s : State, ¬(s.pos.rx = .body ∧ s.pos.buf.length = 12) ∧ s.pos.rx = .body ∧
    s.pos.buf.length = 11 := ⟨inBody (goodFrame.take 11), by decide, rfl, by decide⟩

theorem witness_CompleteFrameIsJudged_used : ∃ (b : Byte) (s : State), s.pos.rx = .body ∧ s.pos.buf.length = 12 ∧
    frameUsed s (s.pos.buf ++ [b]) = true := ⟨0, inBody goodFrame, rfl, by decide, by decide⟩

theorem witness_CompleteFrameIsJudged_discarded : ∃ (b : Byte) (s : State), s.pos.rx = .body ∧ s.pos.buf.length = 12 ∧
    frameUsed s (s.pos.buf ++ [b]) = false ∧ frameSumOk (s.pos.buf ++ [b]) = false :=
  ⟨7, inBody damaged, rfl, by decide, by decide, by decide⟩

theorem witness_FixLossEntersLost : ∃ (f : Fix) (s : State), s.pos.fix = some f ∧ s.pos.st = .valid ∧
    elapsed s f.time = s.pos.fixLoss := ⟨_, valid0 110000, rfl, rfl, by decide⟩

theorem witness_FixLossEntersLost_early : ∃ (f : Fix) (s : State), s.pos.fix = some f ∧
    elapsed s f.time + 1 = s.pos.fixLoss := ⟨_, valid0 109999, rfl, by decide⟩

theorem witness_CandidateIsBestBox : ∃ (s : State) (lat lon : Int) (i : Nat), i = 31 ∧ matchesBox s lat lon i = true ∧
    candidate s lat lon = some i :=
  ⟨let s := demo .running; { s with pos := { s.pos with zones := [(31, some (zoneBox 5 0 .serve 0))] } }, 0, 5, 31, rfl,
    by decide, by decide⟩

theorem witness_PositionTakesFix : ∃ (p : PositionParams) (s : State), fetchReturns s 1048576 0 16 ∧ s.cmd.run ≠ .halted ∧
    lineActive s = false ∧ p.quality.toNat ≤ 3 ∧ inRange p.lat.toInt p.lon.toInt = true ∧
    s.pos.minQuality = p.quality.toNat :=
  ⟨{ quality := 1, lat := 9000000, lon := 18000000 }, asked .running, asked_fetch _, by decide, by decide, by decide,
    by decide, by decide⟩

theorem witness_PositionTakesFix_unusable : ∃ (p : PositionParams) (s : State), fetchReturns s 1048576 0 16 ∧
    s.cmd.run ≠ .halted ∧ lineActive s = false ∧ p.quality.toNat ≤ 3 ∧ inRange p.lat.toInt p.lon.toInt = true ∧
    p.quality.toNat + 1 = s.pos.minQuality :=
  ⟨{ quality := 0, lat := -9000000, lon := -18000000 }, asked .stopped, asked_fetch _, by decide, by decide, by decide,
    by decide, by decide⟩

/-- LOAD_ZONE of zone 0. -/
def loadZero : LoadZoneParams := { loadSix with index := 0, cover := 0 }

theorem witness_LoadZoneLoadsAndPublishes : ∃ (p : LoadZoneParams) (z : Zone) (s : State), fetchReturns s 1048576 0 16 ∧
    s.cmd.run ≠ .halted ∧ zoneOf p = some z ∧ s.pos.current = some p.index.toNat :=
  ⟨loadZero, _, asked .running, asked_fetch _, by decide, rfl, rfl⟩

theorem witness_LoadZoneLoadsAndPublishes_first : ∃ (p : LoadZoneParams) (z : Zone) (s : State),
    fetchReturns s 1048576 0 16 ∧ s.cmd.run ≠ .halted ∧ zoneOf p = some z ∧ s.pos.current = none ∧ p.index.toNat = 0 ∧
    z.enabled = true :=
  ⟨loadZero, _, let s := asked .stopped; { s with pos := { s.pos with current := none } }, ⟨rfl, rfl, rfl⟩, by decide, rfl, rfl,
    by decide, rfl⟩

theorem witness_CoverageExpiries_lost : ∃ s : State, s.pos.st = .lost ∧ s.cfg.lostGrace = elapsed s s.pos.lostSince ∧
    s.cov.st = .serving :=
  ⟨let s := demo .running; { s with pos := { s.pos with st := .lost, lostSince := 70000 } }, rfl, by decide, rfl⟩

theorem witness_CoverageExpiries_backhaul : ∃ s : State, s.cov.view = false ∧
    s.cfg.backhaulLimit = elapsed s s.cov.absentSince ∧ s.cov.st = .opening :=
  ⟨let s := demo .running; { s with cov := { s.cov with view := false, absentSince := 80000, st := .opening } }, rfl,
    by decide, rfl⟩

theorem witness_CoverageExpiries_warm : ∃ s : State, s.cov.st = .opening ∧ s.cfg.warmUp = elapsed s s.cov.openingSince ∧
    allowed s = true :=
  ⟨let s := demo .running; { s with cov := { s.cov with st := .opening, openingSince := 70000 } }, rfl, by decide, by decide⟩

theorem witness_CoverageExpiries_drain : ∃ s : State, s.cov.st = .closing ∧ s.cfg.drain = elapsed s s.cov.closingSince ∧
    s.cfg.darkMin ≠ 0 :=
  ⟨let s := demo .running; { s with cov := { s.cov with st := .closing, closingSince := 40000 } }, rfl, by decide, by decide⟩

theorem witness_CoverageExpiries_open : ∃ s : State, s.cov.st = .dark ∧ allowed s = true ∧ s.cov.view = true ∧
    s.cfg.darkMin = elapsed s s.cov.darkSince :=
  ⟨let s := demo .running; { s with clock := 120000, cov := { s.cov with st := .dark } }, rfl, by decide, rfl, by decide⟩

theorem witness_CoverageExpiries_closed : ∃ s : State, s.cov.st = .dark ∧ elapsed s s.cov.darkSince + 1 = s.cfg.darkMin :=
  ⟨let s := demo .running; { s with clock := 119999, cov := { s.cov with st := .dark } }, rfl, by decide⟩

theorem witness_CoverageCommands : ∃ s : State, fetchReturns s 1048576 0 16 ∧ s.cmd.run ≠ .halted ∧ s.cov.st = .serving :=
  ⟨asked .running, asked_fetch _, by decide, rfl⟩

theorem witness_CoverageCommands_halted : ∃ s : State, fetchReturns s 1048576 0 16 ∧ s.cmd.run = .halted :=
  ⟨asked .halted, asked_fetch _, rfl⟩

theorem witness_CoverageCommands_release : ∃ s : State, fetchReturns s 1048576 0 16 ∧ s.cmd.run ≠ .halted ∧
    s.cov.hold = true ∧ openingTestPasses { s with cov := { s.cov with hold := false } } = true :=
  ⟨darkHeld, ⟨rfl, rfl, rfl⟩, by decide, rfl, by decide⟩

/-! Traffic. -/

/-- Nothing waits at the port of the part. -/
theorem demo_portFree (run : RunState) : portFree (demo run) := ⟨rfl, rfl⟩

/-- A transaction at 0x900000 that touches nothing. -/
def elsewhere : Txn := readTxn 4 9437184 16

theorem witness_UnjudgedTrafficPasses : ∃ (x : Txn) (s : State), x.wellFormed = true ∧ portFree s ∧
    (∀ g ∈ allRegions, touches s x g = false) ∧ overlapsOwn s x = false :=
  ⟨elsewhere, demo .running, by decide, demo_portFree _, by decide +kernel, by decide +kernel⟩

/-- A write of one radio downlink slot. -/
def radioSlot (initiator account : Nat) : Txn := slotTxn initiator 5767168 (desc 1400 account 1 0 0)

theorem witness_UnjudgedTrafficPasses_radio : ∃ (x : Txn) (s : State), x.wellFormed = true ∧ x.write = true ∧ portFree s ∧
    touchesOnly s x .radioRing ∧ isRadio s x.initiator = true ∧ overlapsOwn s x = false :=
  ⟨radioSlot 3 1, demo .running, by decide, rfl, demo_portFree _, by unfold touchesOnly; decide +kernel, by decide, by decide +kernel⟩

theorem witness_UnjudgedTrafficPasses_hold : ∃ (h : Head) (s : State), s.path.head = some h ∧ s.path.upstream = [] ∧
    headReady h = true ∧ h.spent = false ∧ whollyAnswered h.txn (lineRecords s h) = false ∧ overlapsOwn s h.txn = false :=
  ⟨{ txn := elsewhere, recs := [], verdict := none, spent := false },
    let s := demo .running
    { s with path := { s.path with head := some { txn := elsewhere, recs := [], verdict := none, spent := false } } },
    rfl, rfl, rfl, rfl, by decide +kernel, by decide +kernel⟩

theorem witness_PartWrittenWordsAreDropped : ∃ (f : ControlField) (v : Nat) (x : Txn) (s : State),
    (f = .cmdConsumer ∨ f = .repProducer) ∧ fieldTxn s f v x ∧ portFree s ∧ touchesOnly s x .control ∧ s.path.owed = [] :=
  ⟨.cmdConsumer, 7, ctlTxn .cmdConsumer 7, demo .running, .inl rfl, by unfold fieldTxn; decide +kernel, demo_portFree _,
    by unfold touchesOnly; decide +kernel, rfl⟩

theorem witness_PartWrittenWordsAreDropped_producer : ∃ (v : Nat) (x : Txn) (s : State),
    fieldTxn s .repProducer v x ∧ portFree s ∧ touchesOnly s x .control ∧ s.path.owed = [] :=
  ⟨7, ctlTxn .repProducer 7, demo .stopped, by unfold fieldTxn; decide +kernel, demo_portFree _, by unfold touchesOnly; decide +kernel, rfl⟩

theorem witness_RingGeometryLatches : ∃ (f : ControlField) (v : Nat) (x : Txn) (s : State),
    (f = .cmdBase ∨ f = .cmdSize) ∧ fieldTxn s f v x ∧ portFree s ∧ touchesOnly s x .control ∧ s.cmd.run = .stopped ∧
    s.cmd.job = none ∧ s.cmd.fetching.isSome = true :=
  ⟨.cmdSize, 256, ctlTxn .cmdSize 256, asked .stopped, .inr rfl, by unfold fieldTxn; decide +kernel, ⟨rfl, rfl⟩,
    by unfold touchesOnly; decide +kernel, rfl, rfl, rfl⟩

theorem witness_RingGeometryLatches_running : ∃ (v : Nat) (x : Txn) (s : State), fieldTxn s .cmdBase v x ∧ portFree s ∧
    touchesOnly s x .control ∧ s.cmd.run ≠ .stopped :=
  ⟨4096, ctlTxn .cmdBase 4096, demo .running, by unfold fieldTxn; decide +kernel, demo_portFree _, by unfold touchesOnly; decide +kernel,
    by decide⟩

theorem witness_RingGeometryLatches_report : ∃ (f : ControlField) (v : Nat) (x : Txn) (s : State),
    (f = .repBase ∨ f = .repSize) ∧ fieldTxn s f v x ∧ portFree s ∧ touchesOnly s x .control ∧ s.cmd.run = .stopped :=
  ⟨.repSize, 4096, ctlTxn .repSize 4096, demo .stopped, .inr rfl, by unfold fieldTxn; decide +kernel, demo_portFree _,
    by unfold touchesOnly; decide +kernel, rfl⟩

theorem witness_RingGeometryLatches_report_running : ∃ (v : Nat) (x : Txn) (s : State), fieldTxn s .repBase v x ∧ portFree s ∧
    touchesOnly s x .control ∧ s.cmd.run ≠ .stopped :=
  ⟨4096, ctlTxn .repBase 4096, demo .running, by unfold fieldTxn; decide +kernel, demo_portFree _, by unfold touchesOnly; decide +kernel,
    by decide⟩

theorem witness_RingIndexesAreTaken_last : ∃ (v base size : Nat) (x : Txn) (s : State), fieldTxn s .cmdProducer v x ∧
    portFree s ∧ touchesOnly s x .control ∧ cmdRing s = some (base, size) ∧ v + 1 = size :=
  ⟨15, 1048576, 16, ctlTxn .cmdProducer 15, demo .running, by unfold fieldTxn; decide +kernel, demo_portFree _,
    by unfold touchesOnly; decide +kernel, by decide, rfl⟩

theorem witness_RingIndexesAreTaken_size : ∃ (v base size : Nat) (x : Txn) (s : State), fieldTxn s .cmdProducer v x ∧
    portFree s ∧ touchesOnly s x .control ∧ cmdRing s = some (base, size) ∧ v = size :=
  ⟨16, 1048576, 16, ctlTxn .cmdProducer 16, demo .running, by unfold fieldTxn; decide +kernel, demo_portFree _,
    by unfold touchesOnly; decide +kernel, by decide, rfl⟩

theorem witness_RingIndexesAreTaken_report : ∃ (v base size : Nat) (x : Txn) (s : State), fieldTxn s .repConsumer v x ∧
    portFree s ∧ touchesOnly s x .control ∧ s.rep.waiters = [] ∧ repRing s = some (base, size) ∧ v + 1 = size :=
  ⟨63, 2097152, 64, ctlTxn .repConsumer 63, demo .running, by unfold fieldTxn; decide +kernel, demo_portFree _,
    by unfold touchesOnly; decide +kernel, rfl, by decide, rfl⟩

theorem witness_RingIndexesAreTaken_report_size : ∃ (v base size : Nat) (x : Txn) (s : State), fieldTxn s .repConsumer v x ∧
    portFree s ∧ touchesOnly s x .control ∧ s.rep.waiters = [] ∧ repRing s = some (base, size) ∧ v = size :=
  ⟨64, 2097152, 64, ctlTxn .repConsumer 64, demo .running, by unfold fieldTxn; decide +kernel, demo_portFree _,
    by unfold touchesOnly; decide +kernel, rfl, by decide, rfl⟩

theorem witness_RingIndexesAreTaken_read : ∃ (data : Vector Byte 16) (k base size : Nat) (r : OwnRead) (s : State),
    frontRead s = some r ∧ r.use = .consumerIndex k ∧ repRing s = some (base, size) ∧ s.rep.waiters = [] ∧
    k = s.rep.accepted ∧ field data.toList 8 4 + 1 = size :=
  ⟨⟨(recordOf 16 [(8, 4, 63)]).toArray, by rfl⟩, 0, 2097152, 64, _, reading (.consumerIndex 0) (demo .stopped), rfl, rfl,
    by decide, rfl, rfl, by decide⟩

theorem witness_RingIndexesAreTaken_read_late : ∃ (k base size : Nat) (r : OwnRead) (s : State),
    frontRead s = some r ∧ r.use = .consumerIndex k ∧ repRing s = some (base, size) ∧ s.rep.waiters = [] ∧
    k ≠ s.rep.accepted :=
  ⟨1, 2097152, 64, _, reading (.consumerIndex 1) (demo .stopped), rfl, rfl, by decide, rfl, by decide⟩

theorem witness_AccountTableTraffic_missing : ∃ (a : Nat) (x : Txn) (s : State), x.wellFormed = true ∧ x.write = false ∧
    portFree s ∧ touchesOnly s x .accountTable ∧ recordAddr s a = x.addr ∧ x.addr + 16 * x.beats = recordAddr s a + 64 ∧
    findLine s a = none ∧ overlapsOwn s x = false :=
  ⟨2, readTxn 4 4194432 4, demo .running, by decide, rfl, demo_portFree _, by unfold touchesOnly; decide +kernel, by decide,
    by decide, by decide, by decide +kernel⟩

/-- Account 1 in line 0, DIRTY. -/
def dirtyOne (run : RunState) : State := let s := demo run; { s with cache := { s.cache with lines := [(0, line0 .dirty 1 acct0)] } }

theorem witness_AccountTableTraffic_dirty : ∃ (a i : Nat) (x : Txn) (s : State), x.wellFormed = true ∧ x.write = false ∧
    portFree s ∧ touchesOnly s x .accountTable ∧ recordAddr s a ≤ x.addr ∧ x.addr + 16 * x.beats ≤ recordAddr s a + 64 ∧
    findLine s a = some i ∧ (lineOf s i).st = .dirty ∧ (lineOf s i).waiting = [] ∧ (lineOf s i).account = some a ∧
    s.cmd.run ≠ .halted ∧ s.path.owed = [] :=
  ⟨1, 0, readTxn 4 4194368 4, dirtyOne .running, by decide, rfl, ⟨rfl, rfl⟩, by unfold touchesOnly; decide +kernel, by decide,
    by decide, by decide, rfl, rfl, rfl, by decide, rfl⟩

theorem witness_AccountTableTraffic_write : ∃ (x : Txn) (s : State), x.wellFormed = true ∧ x.write = true ∧ portFree s ∧
    touchesOnly s x .accountTable ∧ s.cfg.acctBase ≤ x.addr ∧
    x.addr + 16 * x.beats ≤ s.cfg.acctBase + 64 * s.cfg.accounts ∧ s.cmd.run = .stopped ∧ overlapsOwn s x = false :=
  ⟨slotTxn 4 4194304 (List.replicate 16 1), demo .stopped, by decide, rfl, demo_portFree _, by unfold touchesOnly; decide +kernel, by decide, by decide, rfl,
    by decide +kernel⟩

theorem witness_AccountTableTraffic_drop : ∃ (x : Txn) (s : State), x.wellFormed = true ∧ x.write = true ∧ portFree s ∧
    touchesOnly s x .accountTable ∧ s.cfg.acctBase ≤ x.addr ∧
    x.addr + 16 * x.beats ≤ s.cfg.acctBase + 64 * s.cfg.accounts ∧ s.cmd.run ≠ .stopped ∧ s.path.owed = [] :=
  ⟨slotTxn 4 4194304 (List.replicate 16 1), demo .halted, by decide, rfl, demo_portFree _, by unfold touchesOnly; decide +kernel,
    by decide, by decide, by decide, rfl⟩

/-- Software marks slot 0 of the logical ring ready or not. -/
def readySlot (own : Nat) : Txn := slotTxn 4 5242880 (desc 1400 1 own 0 0)

theorem witness_UplinkSlotBecomesReady : ∃ (slot e : Nat) (x : Txn) (s : State), x.wellFormed = true ∧ x.write = true ∧
    portFree s ∧ touchesOnly s x .logicalRing ∧ isSoftware s x.initiator = true ∧ fullSlot x = true ∧
    x.addr = s.cfg.upBase + 16 * slot ∧ look s.relay.held slot = false ∧ s.cmd.run = .running ∧ overlapsOwn s x = false ∧
    s.relay.takePtr = slot ∧ s.relay.take = none ∧ descOwn x.data = true ∧ freeEntryNo s = some e :=
  ⟨0, 0, readySlot 1, demo .running, by decide, rfl, demo_portFree _, by unfold touchesOnly; decide +kernel, by decide,
    by decide, rfl, rfl, rfl, by decide +kernel, rfl, rfl, by decide, by decide +kernel⟩

theorem witness_UplinkSlotBecomesReady_clear : ∃ (slot : Nat) (x : Txn) (s : State), x.wellFormed = true ∧ x.write = true ∧
    portFree s ∧ touchesOnly s x .logicalRing ∧ isSoftware s x.initiator = true ∧ fullSlot x = true ∧
    x.addr = s.cfg.upBase + 16 * slot ∧ look s.relay.held slot = false ∧ s.cmd.run = .running ∧ overlapsOwn s x = false ∧
    descOwn x.data = false :=
  ⟨0, readySlot 0, demo .running, by decide, rfl, demo_portFree _, by unfold touchesOnly; decide +kernel, by decide,
    by decide, rfl, rfl, rfl, by decide +kernel, by decide⟩

theorem witness_DownlinkDescriptorIsJudged_open : ∃ (x : Txn) (s : State), x.wellFormed = true ∧ x.write = true ∧
    portFree s ∧ touchesOnly s x .radioRing ∧ isRadio s x.initiator = false ∧ isSoftware s x.initiator = true ∧
    fullSlot x = true ∧ descOwn x.data = true ∧ s.cmd.run ≠ .stopped ∧ descAccount x.data ≠ shipAccount ∧
    descAccount x.data < s.cfg.accounts ∧ overlapsOwn s x = false ∧ gateDecision s (descAccount x.data) = true ∧
    0 < descLength x.data ∧ s.gate.queue.length = 127 ∧ (findLine s (descAccount x.data)).isSome = true :=
  ⟨radioSlot 4 1,
    let s := demo .running
    { s with gate := { s.gate with queue := List.replicate 127 (ev .uplink 1 .shoreCell) } },
    by decide, rfl, ⟨rfl, rfl⟩, by unfold touchesOnly; decide +kernel, by decide, by decide, by decide, by decide, by decide,
    by decide, by decide, by decide +kernel, by decide, by decide, by decide +kernel, by decide⟩

theorem witness_DownlinkDescriptorIsJudged_miss : ∃ (x : Txn) (s : State), x.wellFormed = true ∧ x.write = true ∧
    portFree s ∧ touchesOnly s x .radioRing ∧ isRadio s x.initiator = false ∧ isSoftware s x.initiator = true ∧
    fullSlot x = true ∧ descOwn x.data = true ∧ s.cmd.run ≠ .stopped ∧ descAccount x.data ≠ shipAccount ∧
    descAccount x.data < s.cfg.accounts ∧ overlapsOwn s x = false ∧ gateDecision s (descAccount x.data) = true ∧
    0 < descLength x.data ∧ s.gate.queue = [] ∧ s.gate.waiting = none ∧ s.rate.requested = none ∧
    findLine s (descAccount x.data) = none ∧
    ∀ k a, (lineOf s k).st = .dirty → (lineOf s k).account = some a → a < s.cfg.accounts :=
  ⟨radioSlot 4 1,
    let s := demo .running
    { s with cache := { s.cache with lines := [] } },
    by decide, rfl, ⟨rfl, rfl⟩, by unfold touchesOnly; decide +kernel, by decide, by decide, by decide, by decide, by decide,
    by decide, by decide, by decide +kernel, by decide, by decide, rfl, rfl, rfl, rfl, nofun⟩

theorem witness_DownlinkDescriptorIsJudged_closed : ∃ (x : Txn) (s : State), x.wellFormed = true ∧ x.write = true ∧
    portFree s ∧ touchesOnly s x .radioRing ∧ isRadio s x.initiator = false ∧ isSoftware s x.initiator = true ∧
    fullSlot x = true ∧ descOwn x.data = true ∧ s.cmd.run ≠ .stopped ∧ descAccount x.data ≠ shipAccount ∧
    descAccount x.data + 1 = s.cfg.accounts ∧ overlapsOwn s x = false ∧ gateDecision s (descAccount x.data) = false :=
  ⟨radioSlot 4 7, demo .running, by decide, rfl, demo_portFree _, by unfold touchesOnly; decide +kernel, by decide, by decide, by decide,
    by decide, by decide, by decide, by decide, by decide +kernel, by decide⟩

/-- Entry 42 POSTED on link 0, and nothing else in hand. -/
def oneposted : State :=
  let s := demo .running
  { s with
    sup := { s.sup with links := put s.sup.links 0 { link0 0 .up with posted := 1, oldest := some 99700 } }
    relay := { s.relay with table := [(42, { entry42 with metered := true, account := 1, incarnation := 3 })] } }

theorem witness_CompletionEndsEntrySent : ∃ (k slot e : Nat) (x : Txn) (s : State), x.wellFormed = true ∧ x.write = true ∧
    portFree s ∧ k < 4 ∧ touchesOnly s x (.linkRing k) ∧ isLinkInitiator s k x.initiator = true ∧ fullSlot x = true ∧
    descOwn x.data = false ∧ s.cmd.run = .running ∧ (linkOf s k).health ≠ .disabled ∧
    x.addr = ((linkOf s k).record.map LinkRec.base).getD 0 + 16 * slot ∧ descGen x.data = (linkOf s k).gen.toNat ∧
    descAccount x.data = e ∧ matched s k slot e = true ∧ descByte13 x.data = 1 ∧ s.gate.queue.length < 128 :=
  ⟨0, 12, 42, slotTxn 8 (6291456 + 16 * 12) (desc 0 42 0 1 0), oneposted, by decide, rfl, ⟨rfl, rfl⟩, by decide,
    by unfold touchesOnly; decide +kernel, by decide, by decide, by decide, rfl, by decide, by decide, by decide, by decide,
    by decide, by decide, by decide⟩

theorem witness_ArbiterAlternates_passing : ∃ (s : State) (p : Passing) (rest : List Passing), s.path.stream = p :: rest ∧
    ownOffer s = none :=
  ⟨let s := bothReady 0; { s with path := { s.path with queue := [] } }, _, _, rfl, by rfl⟩

theorem witness_ArbiterAlternates_below : ∃ (s : State) (p : Passing) (rest : List Passing) (o : OwnTxn × Bool),
    s.path.stream = p :: rest ∧ ownOffer s = some o ∧ s.path.runCount = 7 :=
  ⟨bothReady 7, _, _, (.write postC, false), rfl, by rfl, rfl⟩

theorem witness_ArbiterAlternates_own : ∃ (s : State) (o : OwnTxn) (again : Bool), ownOffer s = some (o, again) ∧
    s.path.runCount = 8 := ⟨bothReady 8, .write postC, false, by rfl, rfl⟩

theorem witness_ArbiterAlternates_idle : ∃ s : State, s.path.stream = [] ∧ ownOffer s = none := ⟨demo .running, rfl, by rfl⟩

theorem witness_WaitingWriteEnters : ∃ (w : OwnWrite) (rest : List OwnWrite) (s : State), s.path.waiting = w :: rest ∧
    s.path.queue.length = 15 :=
  ⟨postC, [], let s := demo .running; { s with path := { s.path with queue := List.replicate 15 postC, waiting := [postC] } },
    rfl, by decide⟩

theorem witness_PassingResponseIsReturned : ∃ (ok : Bool) (data : List Byte) (p : Passing) (rest : List Flight) (o : Owed)
    (owed : List Owed) (s : State), heard s = .passing p :: rest ∧ s.path.owed = o :: owed ∧ o.answer = none ∧
    lengthOk p ok data = true :=
  ⟨true, List.replicate 128 0, _, _, _, _, mixedRead, rfl, rfl, rfl, by decide +kernel⟩

theorem witness_PassingResponseIsReturned_short : ∃ (ok : Bool) (data : List Byte) (p : Passing) (rest : List Flight) (o : Owed)
    (owed : List Owed) (s : State), heard s = .passing p :: rest ∧ s.path.owed = o :: owed ∧ o.answer = none ∧
    lengthOk p ok data = false :=
  ⟨true, List.replicate 127 0, _, _, _, _, mixedRead, rfl, rfl, rfl, by decide +kernel⟩

theorem witness_OwnErrorIsRetriedOnce_first : ∃ (x : OwnTxn) (rest : List Flight) (s : State),
    s.path.inFlight = .own x 1 :: rest ∧ s.cmd.run ≠ .halted := ⟨_, _, asked .running, rfl, by decide⟩

theorem witness_OwnErrorIsRetriedOnce_second : ∃ (x : OwnTxn) (rest : List Flight) (s : State),
    s.path.inFlight = .own x 2 :: rest ∧ s.cmd.run = .running :=
  ⟨.write postC, [], let s := demo .running; { s with path := { s.path with inFlight := [.own (.write postC) 2] } }, rfl, rfl⟩

theorem witness_CarrierChangeEvaluatesLink : ∃ (k : Fin 4) (high : Bool) (s : State), (linkOf s k).carrierLine ≠ high :=
  ⟨3, true, demo .running, by decide⟩

theorem witness_LinkExpiriesMoveHealth_probation : ∃ (k : Fin 4) (r : LinkRec) (s : State), s.cmd.run ≠ .halted ∧
    (linkOf s k).record = some r ∧ (linkOf s k).health = .probation ∧ r.probation = elapsed s (linkOf s k).probationSince :=
  ⟨0, _, let s := demo .running
    { s with sup := { s.sup with links := [(0, { link0 0 .probation with probationSince := 80000 })] } },
    by decide, rfl, rfl, by decide⟩

theorem witness_LinkExpiriesMoveHealth_timeout : ∃ (k : Fin 4) (r : LinkRec) (old : Time) (s : State), s.cmd.run ≠ .halted ∧
    (linkOf s k).record = some r ∧ (linkOf s k).health = .up ∧ (linkOf s k).oldest = some old ∧ r.timeout = elapsed s old :=
  ⟨0, _, 90000, let s := demo .running
    { s with sup := { s.sup with links := [(0, { link0 0 .up with posted := 1, oldest := some 90000 })] } },
    by decide, rfl, rfl, rfl, by decide⟩

theorem witness_DeferredSwapIsMade : ∃ (due : Time) (s : State), s.cmd.run ≠ .halted ∧ s.sup.deferred = some due ∧
    reached s due = true ∧ effectiveMode s = .single ∧ s.cfg.swapHold = elapsed s s.sup.lastSwap ∧
    selectorTarget s ≠ s.sup.active :=
  ⟨1060000, let s := coast 1060000 .up 1 1000000; { s with sup := { s.sup with deferred := some 1060000 } }, by decide, rfl,
    by decide, by decide, by decide, by decide⟩

/-- LOAD_LINK of link 3. -/
def loadThree : LoadLinkParams :=
  { link := 3, cls := 3, initiator := 15, carrierUse := 0, retries := 3, threshold := 100, ringSize := 1024
    ringBase := 7340032, timeout := 10, probation := 600000 }

theorem witness_LoadLinkAndResetDisable_load : ∃ (p : LoadLinkParams) (r : LinkRec) (s : State), fetchReturns s 1048576 0 16 ∧
    s.cmd.run = .running ∧ p.link.toNat = 3 ∧ (linkOf s p.link.toNat).health = .unconfigured ∧ linkRecOf p = some r ∧
    ringOverlaps s p.link.toNat r = false :=
  ⟨loadThree, _, asked .running, asked_fetch _, rfl, by decide, by decide, rfl, by decide⟩

theorem witness_LoadLinkAndResetDisable_reset : ∃ (v : BitVec 8) (s : State), fetchReturns s 1048576 0 16 ∧
    s.cmd.run = .running ∧ v.toNat ≤ 3 ∧ (linkOf s v.toNat).health ≠ .unconfigured :=
  ⟨0, asked .running, asked_fetch _, rfl, by decide, by decide⟩

theorem witness_LinkEnableAndQualityEvaluate_enable : ∃ (v : BitVec 8) (s : State), fetchReturns s 1048576 0 16 ∧
    s.cmd.run = .running ∧ v.toNat ≤ 3 ∧ (linkOf s v.toNat).health = .disabled :=
  ⟨0, coast 1000000 .disabled 1 0, ⟨rfl, rfl, rfl⟩, rfl, by decide, by decide⟩

theorem witness_LinkEnableAndQualityEvaluate_quality : ∃ (v : BitVec 8) (s : State), fetchReturns s 1048576 0 16 ∧
    s.cmd.run = .running ∧ v.toNat ≤ 3 ∧ (linkOf s v.toNat).health ≠ .unconfigured ∧
    (linkOf s v.toNat).health ≠ .disabled := ⟨0, asked .running, asked_fetch _, rfl, by decide, by decide, by decide⟩

theorem witness_LinkForceSetsForcedLink : ∃ (v : BitVec 8) (s : State), fetchReturns s 1048576 0 16 ∧ s.cmd.run = .running ∧
    v.toNat ≤ 3 ∧ v.toNat ≠ 255 ∧ (linkOf s v.toNat).health = .up :=
  ⟨0, asked .running, asked_fetch _, rfl, by decide, by decide, by decide⟩

theorem witness_LinkForceSetsForcedLink_clear : ∃ (v : BitVec 8) (s : State), fetchReturns s 1048576 0 16 ∧
    s.cmd.run = .running ∧ v.toNat = 255 := ⟨255, asked .running, asked_fetch _, rfl, by decide⟩

theorem witness_HeadAgeExpiresHead : ∃ (e : Nat) (rest : List Nat) (s : State), s.cmd.run = .running ∧
    s.relay.suspended = false ∧ s.relay.retryList = [] ∧ s.relay.waitList = e :: rest ∧ entryGated s (entryOf s e) = false ∧
    s.cfg.maxWait + 1 = elapsed s (entryOf s e).takeTime :=
  ⟨7, [], let s := demo .running
    { s with relay := { s.relay with
        table := [(7, { (default : Entry) with st := .waiting, account := shipAccount, takeTime := 94999 })], waitList := [7] } },
    rfl, rfl, rfl, rfl, by decide, by decide⟩

theorem witness_TakeIsJudged_rejected : ∃ (data : Vector Byte 16) (k : Take) (r : OwnRead) (s : State),
    frontRead s = some r ∧ r.use = .take ∧ s.relay.take = some k ∧ s.cmd.run = .running ∧ descLength data.toList = 0 :=
  ⟨beat 0 1, _, _, taking, rfl, rfl, rfl, rfl, by decide⟩

theorem witness_TakeIsJudged_account : ∃ (data : Vector Byte 16) (k : Take) (r : OwnRead) (s : State),
    frontRead s = some r ∧ r.use = .take ∧ s.relay.take = some k ∧ s.cmd.run = .running ∧
    descAccount data.toList ≠ shipAccount ∧ s.cfg.accounts = descAccount data.toList :=
  ⟨beat 5 8, _, _, taking, rfl, rfl, rfl, rfl, by decide, by decide⟩

theorem witness_TakeIsJudged_gated : ∃ (data : Vector Byte 16) (k : Take) (r : OwnRead) (s : State),
    frontRead s = some r ∧ r.use = .take ∧ s.relay.take = some k ∧ s.cmd.run = .running ∧ descLength data.toList ≠ 0 ∧
    descAccount data.toList ≠ shipAccount ∧ descAccount data.toList + 1 = s.cfg.accounts ∧
    gateDecision s (descAccount data.toList) = false :=
  ⟨beat 5 7, _, _, taking, rfl, rfl, rfl, rfl, by decide, by decide, by decide, by decide⟩

theorem witness_TakeIsJudged_waits : ∃ (data : Vector Byte 16) (k : Take) (r : OwnRead) (s : State),
    frontRead s = some r ∧ r.use = .take ∧ s.relay.take = some k ∧ s.cmd.run = .running ∧ descLength data.toList ≠ 0 ∧
    descAccount data.toList < s.cfg.accounts ∧ gateDecision s (descAccount data.toList) = true :=
  ⟨beat 5 1, _, _, taking, rfl, rfl, rfl, rfl, by decide, by decide, by decide⟩

theorem witness_TakeIsJudged_ship : ∃ (data : Vector Byte 16) (k : Take) (r : OwnRead) (s : State),
    frontRead s = some r ∧ r.use = .take ∧ s.relay.take = some k ∧ s.cmd.run = .running ∧ descLength data.toList ≠ 0 ∧
    descAccount data.toList = shipAccount := ⟨beat 5 65535, _, _, taking, rfl, rfl, rfl, rfl, by decide, by decide⟩

theorem witness_SetScheduleInstallsOrStages : ∃ (p : SetScheduleParams) (sch : Schedule) (s : State),
    fetchReturns s 1048576 0 16 ∧ s.cmd.run ≠ .halted ∧ scheduleOf p = some sch ∧ s.sup.mode = .single :=
  ⟨sched2, { slots := [some 3, none] }, asked .running, asked_fetch _, by decide, by decide, rfl⟩

theorem witness_SetScheduleInstallsOrStages_staged : ∃ (p : SetScheduleParams) (sch : Schedule) (s : State),
    fetchReturns s 1048576 0 16 ∧ s.cmd.run ≠ .halted ∧ scheduleOf p = some sch ∧ s.sup.mode = .shared ∧ s.relay.round ≠ 0 :=
  ⟨sched2, { slots := [some 3, none] },
    let s := asked .running; { s with sup := { s.sup with mode := .shared }, relay := { s.relay with round := 1 } },
    ⟨rfl, rfl, rfl⟩, by decide, by decide, rfl, by decide⟩

theorem witness_WaitingEventIsDealtWith : ∃ (w : WaitingEvent) (s : State), s.gate.waiting = some w ∧
    s.gate.queue.length = 127 ∧ s.cmd.run ≠ .halted ∧ s.path.upstream = [] ∧ w.producer = .downlink ∧
    stillOpen s w.event = false :=
  ⟨_, let s := roamer false
    { s with gate := { s.gate with
        queue := List.replicate 127 (ev .downlink 1 .satellite)
        waiting := some { event := ev .downlink 1200 .satellite, producer := .downlink } } },
    rfl, by decide +kernel, by decide, rfl, rfl, by decide⟩

theorem witness_WaitingEventIsDealtWith_uplink : ∃ (w : WaitingEvent) (s : State), s.gate.waiting = some w ∧
    s.gate.queue.length < 128 ∧ s.cmd.run ≠ .halted ∧ s.path.upstream = [] ∧ w.producer = .uplink 42 :=
  ⟨_, let s := oneposted
    { s with gate := { s.gate with waiting := some { event := ev .uplink 1200 .satellite, producer := .uplink 42 } } },
    rfl, by decide, by decide, rfl, rfl⟩

theorem witness_RatingLosesNothing : ∃ (k : Tariff) (r : AcctRec) (e : UsageEvent), k.block = 1 ∧ (rate k r e).blocks ≠ 0 :=
  ⟨{ tariff1 with block := 1 }, before1, ev .uplink 1 .satellite, rfl, by decide +kernel⟩

theorem witness_RatingLosesNothing_no_block : ∃ (k : Tariff) (r : AcctRec) (e : UsageEvent), 0 < k.block ∧
    carryOf e.dir r + e.bytes + 1 = k.block ∧ (rate k r e).blocks = 0 :=
  ⟨tariff1, before1, ev .uplink 323 .satellite, by decide, by decide, by decide +kernel⟩

theorem witness_RoundUpChargesOneBlock : ∃ (k : Tariff) (r : AcctRec), k.upPrice = 1000000 ∧ k.downPrice = 1000000 ∧
    (∀ m ∈ k.mults, m ≤ 1023) ∧ r.residue = 255 ∧ (roundUp k r).2 = 7992189 :=
  ⟨{ block := 1, upPrice := 1000000, downPrice := 1000000, mults := [1023, 1023, 1023, 1023] },
    { acct0 with carryUp := 1, carryDown := 1, residue := 255 }, rfl, rfl, by decide, rfl, by decide +kernel⟩

theorem witness_TariffsAndPartnersLoad_tariff : ∃ (p : LoadTariffParams) (s : State), fetchReturns s 1048576 0 16 ∧
    s.cmd.run ≠ .halted ∧ p.region.toNat = 7 ∧ 1 ≤ p.cls.toNat ∧ p.cls.toNat = 3 :=
  ⟨{ region := 7, cls := 3, mults := Vector.replicate 4 1, block := 1, upPrice := 1, downPrice := 1 }, asked .stopped,
    asked_fetch _, by decide, by decide, by decide, by decide⟩

theorem witness_TariffsAndPartnersLoad_partner : ∃ (p : LoadPartnerParams) (s : State), fetchReturns s 1048576 0 16 ∧
    s.cmd.run ≠ .halted ∧ p.partner.toNat = 63 ∧ p.state.toNat = 2 :=
  ⟨{ partner := 63, state := 2, mask := 255, ceiling := 1 }, asked .running, asked_fetch _, by decide, by decide, by decide⟩

/-! Accounts. -/

theorem witness_OpenAccountOpensRecord : ∃ (p : OpenAccountParams) (i : Nat) (s : State), fetchReturns s 1048576 0 16 ∧
    s.cmd.run = .running ∧ p.account.toNat < s.cfg.accounts ∧ p.cls.toNat = clsRoamer ∧
    findLine s p.account.toNat = some i ∧ grantableNow (lineOf s i) = true ∧ (lineOf s i).contents.st = acctFree ∧
    s.cov.st = .serving ∧ p.partner.toNat = 63 ∧ look s.settle.admitted p.partner.toNat = true ∧
    ((look s.settle.partners p.partner.toNat).map Partner.enabled).getD false = true :=
  ⟨{ account := 1, cls := 1, partner := 63, subscriber := 0, grant := 5, threshold := 0 }, 0,
    let s := holding { acct0 with st := acctFree }
    { s with settle := { s.settle with
        partners := [(63, some { enabled := true, mask := 255, ceiling := 9 })], admitted := [(63, true)] } },
    ⟨rfl, rfl, rfl⟩, rfl, by decide, by decide, by decide, by decide, rfl, rfl, by decide, by decide, by decide⟩

theorem witness_OpenAccountOpensRecord_crew : ∃ (p : OpenAccountParams) (i : Nat) (s : State), fetchReturns s 1048576 0 16 ∧
    s.cmd.run = .running ∧ p.account.toNat < s.cfg.accounts ∧ p.cls.toNat = 3 ∧ findLine s p.account.toNat = some i ∧
    grantableNow (lineOf s i) = true ∧ (lineOf s i).contents.st = acctFree ∧ s.cov.st = .serving ∧
    p.cls.toNat ≠ clsRoamer :=
  ⟨{ account := 1, cls := 3, partner := 63, subscriber := 0, grant := 5, threshold := 0 }, 0,
    holding { acct0 with st := acctFree }, ⟨rfl, rfl, rfl⟩, rfl, by decide, by decide, by decide, by decide, rfl, rfl, by decide⟩

theorem witness_GrantInstallsCredit : ∃ (p : GrantParams) (i : Nat) (s : State), fetchReturns s 1048576 0 16 ∧
    s.cmd.run = .running ∧ p.account.toNat < s.cfg.accounts ∧ findLine s p.account.toNat = some i ∧
    grantableNow (lineOf s i) = true ∧ (lineOf s i).contents.st = acctSuspended ∧ (lineOf s i).contents.cls ≠ clsCrew ∧
    p.generation.toNat = (lineOf s i).contents.gen :=
  ⟨{ account := 1, generation := 65535, threshold := 0, amount := 7 }, 0, holding { acct0 with st := acctSuspended, gen := 65535 },
    ⟨rfl, rfl, rfl⟩, rfl, by decide, by decide, by decide, rfl, by decide, by decide⟩

/-- What SUSPEND, RESUME and CLOSE_ACCOUNT of account 1 ask for, where its record is in state `st`. -/
theorem holding_one (st : Nat) : fetchReturns (holding { acct0 with st := st }) 1048576 0 16 ∧
    (holding { acct0 with st := st }).cmd.run = .running ∧
    (1 : BitVec 16).toNat < (holding { acct0 with st := st }).cfg.accounts ∧
    findLine (holding { acct0 with st := st }) (1 : BitVec 16).toNat = some 0 ∧
    grantableNow (lineOf (holding { acct0 with st := st }) 0) = true ∧
    (lineOf (holding { acct0 with st := st }) 0).contents.st = st :=
  ⟨⟨rfl, rfl, rfl⟩, rfl, by simp [holding, asked, fetching, reading, demo, cfg0], rfl, rfl, rfl⟩

theorem witness_SuspendAndResume : ∃ (a : BitVec 16) (i : Nat) (s : State), fetchReturns s 1048576 0 16 ∧
    s.cmd.run = .running ∧ a.toNat < s.cfg.accounts ∧ findLine s a.toNat = some i ∧ grantableNow (lineOf s i) = true ∧
    (lineOf s i).contents.st = acctOpen := ⟨1, 0, _, holding_one acctOpen⟩

theorem witness_SuspendAndResume_suspended : ∃ (a : BitVec 16) (i : Nat) (s : State), fetchReturns s 1048576 0 16 ∧
    s.cmd.run = .running ∧ a.toNat < s.cfg.accounts ∧ findLine s a.toNat = some i ∧ grantableNow (lineOf s i) = true ∧
    (lineOf s i).contents.st = acctSuspended := ⟨1, 0, _, holding_one acctSuspended⟩

theorem witness_SuspendAndResume_neither : ∃ (a : BitVec 16) (i : Nat) (s : State), fetchReturns s 1048576 0 16 ∧
    s.cmd.run = .running ∧ a.toNat < s.cfg.accounts ∧ findLine s a.toNat = some i ∧ grantableNow (lineOf s i) = true ∧
    (lineOf s i).contents.st = acctClosing := ⟨1, 0, _, holding_one acctClosing⟩

/-- A finisher list with 63 places taken. -/
def nearlyFull (st : Nat) : State :=
  let s := holding { acct0 with st := st }
  { s with acct := { s.acct with places := List.replicate 63 default } }

theorem witness_CloseTakesPlaceAndDetaches : ∃ (a : BitVec 16) (i : Nat) (s : State), fetchReturns s 1048576 0 16 ∧
    s.cmd.run = .running ∧ a.toNat < s.cfg.accounts ∧ s.acct.places.length = 63 ∧ findLine s a.toNat = some i ∧
    grantableNow (lineOf s i) = true ∧ (lineOf s i).contents.st = acctOpen :=
  ⟨1, 0, nearlyFull acctOpen, ⟨rfl, rfl, rfl⟩, rfl, by decide, by decide +kernel, by decide, by decide, rfl⟩

theorem witness_CloseTakesPlaceAndDetaches_not_open : ∃ (a : BitVec 16) (i : Nat) (s : State), fetchReturns s 1048576 0 16 ∧
    s.cmd.run = .running ∧ a.toNat < s.cfg.accounts ∧ s.acct.places.length < 64 ∧ findLine s a.toNat = some i ∧
    grantableNow (lineOf s i) = true ∧ (lineOf s i).contents.st = acctClosing :=
  ⟨1, 0, nearlyFull acctClosing, ⟨rfl, rfl, rfl⟩, rfl, by decide, by decide +kernel, by decide, by decide, rfl⟩

theorem witness_CloseTakesPlaceAndDetaches_limit : ∃ (k : Nat) (p : Place) (s : State), s.acct.places[k]? = some p ∧
    s.cmd.run = .running ∧ p.expired = false ∧ s.acct.finishing ≠ some k ∧ s.cfg.closeWait = elapsed s p.closeTime ∧
    tabWf s.relay.table = true ∧ countedEntries s p.account p.incarnation ≠ [] :=
  ⟨0, { account := 1, incarnation := 3, closeTime := 90000, expired := false, detached := 0 },
    let s := oneposted
    { s with acct := { s.acct with
        places := [{ account := 1, incarnation := 3, closeTime := 90000, expired := false, detached := 0 }] } },
    rfl, rfl, rfl, by decide, by decide, by decide, by decide⟩

/-! The cache, settlement, commands. -/

theorem witness_CacheLineTransfers_age : ∃ (k : Fin 64) (a : Nat) (s : State), s.cmd.run = .stopping ∧
    (lineOf s k).st = .dirty ∧ (lineOf s k).account = some a ∧ s.cfg.flushAge = elapsed s (lineOf s k).dirtySince :=
  ⟨63, 1, let s := demo .stopping
    { s with cache := { s.cache with lines := [(63, { line0 .dirty 1 acct0 with dirtySince := 98000 })] } },
    rfl, by decide, by decide, by decide⟩

theorem witness_CacheLineTransfers_fill : ∃ (k : Nat) (r : OwnRead) (s : State), frontRead s = some r ∧ r.use = .fill k ∧
    (lineOf s k).st = .filling ∧ (lineOf s k).waiting = [] ∧ s.cache.misses = [] ∧ firstReady s = none ∧
    s.path.upstream = [] ∧ s.path.head = none :=
  ⟨63, _, let s := reading (.fill 63) (demo .running)
    { s with cache := { s.cache with lines := [(63, { (default : Line) with st := .filling, account := some 1 })] } },
    rfl, rfl, by decide, by decide, rfl, rfl, rfl, rfl⟩

theorem witness_CacheLineTransfers_write_back : ∃ (k att : Nat) (w : OwnWrite) (rest : List Flight) (s : State),
    heard s = .own (.write w) att :: rest ∧ w.use = .lineBack k ∧ (lineOf s k).st = .writing ∧ s.cache.misses = [] ∧
    s.cache.flush = none ∧ s.cmd.run = .running ∧ firstReady s = none :=
  ⟨0, 1, _, _, writingBack true, rfl, rfl, rfl, rfl, rfl, rfl, rfl⟩

theorem witness_LineGrantRatesHead : ∃ (k : Fin 64) (e : UsageEvent) (rest : List UsageEvent) (s : State),
    holdsRecord (lineOf s k) = true ∧ (lineOf s k).st = .dirty ∧ (lineOf s k).waiting = [.rating] ∧ s.gate.queue = e :: rest ∧ s.path.upstream = [] ∧
    (∀ e' ∈ rest.head?, findLine s e'.account = none) ∧ noneReady s s.acct.places rest ∧ rest.length = 1 ∧
    stale (lineOf s k).contents e = false :=
  ⟨0, ev .uplink 2000 .satellite, [{ ev .uplink 1 .satellite with account := 2 }], let s := demo .running
    { s with
      gate := { s.gate with queue := [ev .uplink 2000 .satellite, { ev .uplink 1 .satellite with account := 2 }] }
      cache := { s.cache with lines := [(0, { line0 .dirty 1 before1 with waiting := [.rating] })] } },
    by decide, rfl, rfl, rfl, rfl, by simp [findLine, line0, ev], rfl, rfl, by decide⟩

/-- A CLEAN line of a ROAMER record that the rating changes, and one that a stale event leaves as it is. -/
theorem witness_LineGrantRatesHead_clean : ∃ (k : Fin 64) (e : UsageEvent) (r : AcctRec) (s : State),
    holdsRecord (lineOf s k) = true ∧ (lineOf s k).st = .clean ∧ (lineOf s k).waiting = [.rating] ∧
    (lineOf s k).contents = r ∧ s.gate.queue = [e] ∧ s.path.upstream = [] ∧ noneReady s s.acct.places [] ∧
    r.cls = clsRoamer ∧ stale r e = false ∧
    settleCredit (rate (tariffFor s (some e.region) r.cls) r e).record ≠ r :=
  ⟨0, ev .uplink 2000 .satellite, { before1 with cls := clsRoamer, partner := 9 }, let s := demo .running
    { s with
      gate := { s.gate with queue := [ev .uplink 2000 .satellite] }
      cache := { s.cache with lines :=
        [(0, { line0 .clean 1 { before1 with cls := clsRoamer, partner := 9 } with waiting := [.rating] })] } },
    by decide, rfl, rfl, rfl, rfl, rfl, rfl, rfl, by decide, fun h => absurd (congrArg AcctRec.bytesUp h) (by decide)⟩

theorem witness_LineGrantRatesHead_clean_stale : ∃ (k : Fin 64) (e : UsageEvent) (r : AcctRec) (s : State),
    holdsRecord (lineOf s k) = true ∧ (lineOf s k).st = .clean ∧ (lineOf s k).waiting = [.rating] ∧
    (lineOf s k).contents = r ∧ s.gate.queue = [e] ∧ s.path.upstream = [] ∧ noneReady s s.acct.places [] ∧
    stale r e = true :=
  ⟨0, ev .uplink 2000 .satellite, { before1 with incarnation := 4 }, let s := demo .running
    { s with
      gate := { s.gate with queue := [ev .uplink 2000 .satellite] }
      cache := { s.cache with lines := [(0, { line0 .clean 1 { before1 with incarnation := 4 } with waiting := [.rating] })] } },
    by decide, rfl, rfl, rfl, rfl, rfl, rfl, by decide⟩

theorem witness_LineGrantRatesHead_stale : ∃ (k : Fin 64) (e : UsageEvent) (rest : List UsageEvent) (s : State),
    (lineOf s k).st = .dirty ∧ (lineOf s k).waiting = [.rating] ∧ s.gate.queue = e :: rest ∧ s.path.upstream = [] ∧
    (∀ e' ∈ rest.head?, findLine s e'.account = none) ∧ s.acct.finisher ≠ .idle ∧
    stale (lineOf s k).contents e = true :=
  ⟨0, ev .uplink 2000 .satellite, [], let s := demo .running
    { s with
      acct := { s.acct with finisher := .reporting }
      gate := { s.gate with queue := [ev .uplink 2000 .satellite] }
      cache := { s.cache with lines := [(0, { line0 .dirty 1 { before1 with incarnation := 4 } with waiting := [.rating] })] } },
    rfl, rfl, rfl, rfl, nofun, nofun, by decide⟩

theorem witness_AccountRecordRoundTrip : ∃ b : List Byte, b.length = 64 ∧ recOfBytes b = before1 :=
  ⟨bytesOfRec before1, by decide, by decide +kernel⟩

theorem witness_SettleBeginsWalk : ∃ s : State, fetchReturns s 1048576 0 16 ∧ s.cmd.run = .running ∧ nextPair s 0 = none :=
  ⟨asked .running, asked_fetch _, rfl, rfl⟩

theorem witness_SettleBeginsWalk_cut : ∃ (pair : Nat) (s : State), fetchReturns s 1048576 0 16 ∧ s.cmd.run = .running ∧
    nextPair s 0 = some pair ∧ canPlace s = true := ⟨73, twoPairs, ⟨rfl, rfl, rfl⟩, rfl, by decide, by decide⟩

theorem witness_SettleBeginsWalk_full : ∃ (pair : Nat) (s : State), fetchReturns s 1048576 0 16 ∧ s.cmd.run = .running ∧
    nextPair s 0 = some pair ∧ pair = 511 ∧ canPlace s = false :=
  ⟨511, let s := asked .running
    { s with
      settle := { s.settle with accums := [(511, { (default : Accum) with events := 1 })] }
      rep := { s.rep with view := some 1 } }, ⟨rfl, rfl, rfl⟩, rfl, by decide, rfl, by decide⟩

theorem witness_RunStateRefusals : ∃ (r : Request) (s : State), fetchReturns s 1048576 0 16 ∧ s.cmd.run = .halted ∧
    refusedIn r s.cmd.run = true := ⟨.flush, asked .halted, asked_fetch _, rfl, rfl⟩

theorem witness_RunStateRefusals_running : ∃ (r : Request) (s : State), fetchReturns s 1048576 0 16 ∧ s.cmd.run = .running ∧
    refusedIn r s.cmd.run = true := ⟨.start, asked .running, asked_fetch _, rfl, rfl⟩

theorem witness_RunStateRefusals_stopped : ∃ (r : Request) (s : State), fetchReturns s 1048576 0 16 ∧ s.cmd.run = .stopped ∧
    refusedIn r s.cmd.run = true := ⟨.stop, asked .stopped, asked_fetch _, rfl, rfl⟩

theorem witness_FetchedRecordIsItsCommand : ∃ (record : Vector Byte 128) (r : Request) (s : State),
    fetchReturns s 1048576 0 16 ∧ requestOf record.toList = some r ∧ requestCode r = 22 :=
  ⟨record0 22, .flush, asked .running, asked_fetch _, by decide +kernel, rfl⟩

theorem witness_FetchedRecordIsItsCommand_bad : ∃ (record : Vector Byte 128) (s : State), fetchReturns s 1048576 0 16 ∧
    requestOf record.toList = none := ⟨record0 23, asked .running, asked_fetch _, by decide +kernel⟩

theorem witness_ConfigureAdoptsValues : ∃ (p : ConfigureParams) (s : State), fetchReturns s 1048576 0 16 ∧
    s.cmd.run = .stopped ∧ configureOk p = true ∧ p.accounts.toNat = 16384 :=
  ⟨{ config0 with accounts := 16384 }, asked .stopped, asked_fetch _, rfl, by decide, by decide⟩

/-- STOPPED, with everything START asks for. -/
def startable : State := let s := asked .stopped; { s with rate := { s.rate with loaded := 24 } }

theorem witness_StartBeginsScan : ∃ s : State, fetchReturns s 1048576 0 16 ∧ s.cmd.run = .stopped ∧
    s.cmd.configured = true ∧ zoneZeroReady s = true ∧ s.rate.loaded = 24 ∧ (repRing s).isSome = true ∧
    regionsOverlap s = false := ⟨startable, ⟨rfl, rfl, rfl⟩, rfl, rfl, by decide, rfl, by decide, by decide⟩

theorem witness_StartBeginsScan_ring : ∃ s : State, fetchReturns s 1048576 0 16 ∧ s.cmd.run = .stopped ∧
    s.cmd.configured = true ∧ zoneZeroReady s = true ∧ 24 ≤ s.rate.loaded ∧ repRing s = none :=
  ⟨{ startable with rep := { startable.rep with size := some 32 } }, ⟨rfl, rfl, rfl⟩, rfl, rfl, by decide, by decide, by decide⟩

theorem witness_StartBeginsScan_overlap : ∃ s : State, fetchReturns s 1048576 0 16 ∧ s.cmd.run = .stopped ∧
    s.cmd.configured = true ∧ zoneZeroReady s = true ∧ 24 ≤ s.rate.loaded ∧ (repRing s).isSome = true ∧
    regionsOverlap s = true :=
  ⟨{ startable with rep := { startable.rep with base := some 1048576 } }, ⟨rfl, rfl, rfl⟩, rfl, rfl, by decide, by decide,
    by decide, by decide⟩

theorem witness_StartBeginsScan_missing : ∃ s : State, fetchReturns s 1048576 0 16 ∧ s.cmd.run = .stopped ∧
    s.rate.loaded = 23 :=
  ⟨{ startable with rate := { startable.rate with loaded := 23 } }, ⟨rfl, rfl, rfl⟩, rfl, rfl⟩

theorem witness_StopSteps : ∃ s : State, fetchReturns s 1048576 0 16 ∧ s.cmd.run = .running :=
  ⟨asked .running, asked_fetch _, rfl⟩

theorem witness_StopSteps_halted : ∃ s : State, fetchReturns s 1048576 0 16 ∧ s.cmd.run = .halted :=
  ⟨asked .halted, asked_fetch _, rfl⟩

theorem witness_StopSteps_advance : ∃ s : State, s.cmd.run = .stopping ∧ s.cmd.stopStep = 6 ∧ stepEnded s = true :=
  ⟨let s := demo .stopping; { s with cmd := { s.cmd with stopStep := 6 } }, rfl, rfl, by decide⟩

theorem witness_StopSteps_posted : ∃ s : State, s.cmd.run = .stopping ∧ s.cmd.stopStep = 4 ∧
    s.cfg.closeWait = elapsed s s.cmd.stepSince ∧ ∃ k, k < 4 ∧ 0 < (linkOf s k).posted :=
  ⟨step4, rfl, rfl, by decide, 0, by decide, by decide⟩

theorem witness_HaltedClearEndsStopped : ∃ (j : Job) (s : State), s.cmd.run = .halted ∧ s.cmd.job = some j ∧
    j.request = some .stop ∧ j.done = none ∧ ownQuiet s = true :=
  ⟨stopJob, let s := demo .halted; { s with cmd := { s.cmd with job := some stopJob } }, rfl, rfl, rfl, rfl, by rfl⟩

theorem witness_ReportsArePlaced : ∃ (base size v : Nat) (s : State), repRing s = some (base, size) ∧ s.rep.view = some v ∧
    (s.rep.producer + 1) % size ≠ v ∧ s.rep.waiters = [] ∧ s.rep.producer + 1 = size :=
  ⟨2097152, 64, 1, let s := demo .running; { s with rep := { s.rep with producer := 63, view := some 1 } }, by decide, rfl,
    by decide, rfl, rfl⟩

theorem witness_ReportsArePlaced_full : ∃ (base size v : Nat) (s : State), repRing s = some (base, size) ∧
    s.rep.view = some v ∧ (s.rep.producer + 1) % size = v ∧ s.rep.dropped = 255 :=
  ⟨2097152, 64, 0, let s := demo .running; { s with rep := { s.rep with producer := 63, dropped := 255 } }, by decide, rfl,
    by decide, rfl⟩

theorem witness_ReportsArePlaced_billing : ∃ (r : Report) (k base size v : Nat) (s : State), s.rep.waiters = [.finish r] ∧
    repRing s = some (base, size) ∧ s.rep.view = some v ∧ (s.rep.producer + 1) % size ≠ v ∧ s.cmd.run = .running ∧
    s.acct.finishing = some k ∧ s.acct.wait = none ∧ noneReady s (s.acct.places.eraseIdx k) s.gate.queue :=
  ⟨default, 0, 2097152, 64, 0, let s := demo .running
    { s with
      rep := { s.rep with waiters := [.finish default] }
      acct := { s.acct with
        finisher := .reporting, finishing := some 0
        places := [{ account := 1, incarnation := 3, closeTime := 90000, expired := false, detached := 0 }] } },
    rfl, by decide, rfl, by decide, rfl, rfl, rfl, rfl⟩

theorem witness_FlushWritesDirtyLines : ∃ (k : Nat) (s : State), fetchReturns s 1048576 0 16 ∧ s.cmd.run = .running ∧ k = 63 ∧
    (lineOf s k).account.isSome = true ∧ (lineOf s k).st = .dirty :=
  ⟨63, let s := asked .running; { s with cache := { s.cache with lines := [(63, line0 .dirty 1 acct0)] } }, ⟨rfl, rfl, rfl⟩, rfl,
    rfl, by decide, by decide⟩

theorem witness_FlushWritesDirtyLines_none : ∃ s : State, fetchReturns s 1048576 0 16 ∧ s.cmd.run = .running ∧
    ∀ k, (lineOf s k).st ≠ .dirty ∧ (lineOf s k).st ≠ .writing ∧ (lineOf s k).flushMark = false :=
  ⟨let s := asked .running; { s with cache := { s.cache with lines := [] } }, ⟨rfl, rfl, rfl⟩, rfl, fun _ => ⟨nofun, nofun, rfl⟩⟩

theorem witness_FlushWritesDirtyLines_stopped : ∃ s : State, fetchReturns s 1048576 0 16 ∧ s.cmd.run = .stopped :=
  ⟨asked .stopped, asked_fetch _, rfl⟩


/-! Further forms and clauses. -/

theorem witness_FixLossEntersLost_no_fix : ∃ s : State, s.pos.st ≠ .valid ∧ s.pos.fix = none ∧ s.pos.st = .noFix :=
  ⟨demo .running, nofun, rfl, rfl⟩

theorem witness_LoadZoneLoadsAndPublishes_quiet : ∃ (p : LoadZoneParams) (z : Zone) (s : State), fetchReturns s 1048576 0 16 ∧
    s.cmd.run ≠ .halted ∧ zoneOf p = some z ∧ s.pos.current = some p.index.toNat ∧ z.cover = .quiet ∧ s.cov.st = .serving :=
  ⟨{ loadSix with index := 0, cover := 2 }, _, asked .running, asked_fetch _, nofun, rfl, by decide, rfl, rfl⟩

theorem witness_LoadZoneLoadsAndPublishes_close : ∃ (p : LoadZoneParams) (z : Zone) (s : State), fetchReturns s 1048576 0 16 ∧
    s.cmd.run ≠ .halted ∧ zoneOf p = some z ∧ s.pos.current = some p.index.toNat ∧ z.cover = .close ∧ s.cov.st = .serving :=
  ⟨{ loadSix with index := 0, cover := 1 }, _, asked .running, asked_fetch _, nofun, rfl, by decide, rfl, rfl⟩

/-- Slot 63 of the logical ring is held, and link 0's ring is loaded. -/
def heldLast : State := let s := demo .running; { s with relay := { s.relay with held := [(63, true)] } }

theorem witness_PartWrittenWordsAreDropped_collision : ∃ (slot : Nat) (x : Txn) (s : State), x.wellFormed = true ∧
    x.write = true ∧ x.beats = 1 ∧ portFree s ∧ touchesOnly s x .logicalRing ∧ x.addr = s.cfg.upBase + 16 * slot ∧
    look s.relay.held slot = true ∧ s.cmd.run ≠ .stopped ∧ s.path.owed = [] ∧ slot + 1 = s.cfg.upSize :=
  ⟨63, slotTxn 4 (5242880 + 16 * 63) (desc 1 1 1 0 0), heldLast, by decide, rfl, rfl, ⟨rfl, rfl⟩,
    by unfold touchesOnly; decide +kernel, rfl, rfl, nofun, rfl, rfl⟩

theorem witness_PartWrittenWordsAreDropped_foreign : ∃ (k : Nat) (r : LinkRec) (x : Txn) (s : State), x.wellFormed = true ∧
    x.write = true ∧ k < 4 ∧ portFree s ∧ touchesOnly s x (.linkRing k) ∧ (linkOf s k).record = some r ∧ r.base ≤ x.addr ∧
    x.addr + 16 * x.beats = r.base + 16 * r.size ∧ isLinkInitiator s k x.initiator = false ∧ s.cmd.run ≠ .stopped ∧
    s.path.owed = [] :=
  ⟨0, rec0 0, slotTxn 4 (6291456 + 16 * 15) (desc 1 1 1 0 0), demo .running, by decide, rfl, by decide, ⟨rfl, rfl⟩,
    by unfold touchesOnly; decide +kernel, rfl, by decide, rfl, by decide, nofun, rfl⟩

theorem witness_RingIndexesAreTaken_fetch : ∃ (v base size : Nat) (x : Txn) (s : State), fieldTxn s .cmdProducer v x ∧
    portFree s ∧ touchesOnly s x .control ∧ cmdRing s = some (base, size) ∧ v < size ∧ v ≠ s.cmd.consumer ∧
    s.cmd.job = none ∧ s.cmd.fetching = none :=
  ⟨15, 1048576, 16, ctlTxn .cmdProducer 15, demo .running, by unfold fieldTxn; decide +kernel, demo_portFree _,
    by unfold touchesOnly; decide +kernel, by decide, by decide, by decide, rfl, rfl⟩

/-- Entry 42 POSTED on link 0 with this many attempts. -/
def tried (attempts : Nat) : State :=
  let s := oneposted
  { s with relay := { s.relay with table := [(42, { entry42 with metered := true, account := 1, incarnation := 3, attempts := attempts })] } }

theorem witness_CompletionEndsEntrySent_retry : ∃ (k slot e : Nat) (x : Txn) (s : State), x.wellFormed = true ∧
    x.write = true ∧ portFree s ∧ k < 4 ∧ touchesOnly s x (.linkRing k) ∧ isLinkInitiator s k x.initiator = true ∧
    fullSlot x = true ∧ descOwn x.data = false ∧ s.cmd.run = .running ∧ (linkOf s k).health ≠ .disabled ∧
    x.addr = ((linkOf s k).record.map LinkRec.base).getD 0 + 16 * slot ∧ descGen x.data = (linkOf s k).gen.toNat ∧
    descAccount x.data = e ∧ matched s k slot e = true ∧ descByte13 x.data ≠ 1 ∧ (entryOf s e).attempts = 3 :=
  ⟨0, 12, 42, slotTxn 8 (6291456 + 16 * 12) (desc 0 42 0 2 0), tried 3, by decide, rfl, ⟨rfl, rfl⟩, by decide,
    by unfold touchesOnly; decide +kernel, by decide, by decide, by decide, rfl, by decide, by decide, by decide, by decide,
    rfl, by decide, rfl⟩

theorem witness_CompletionEndsEntrySent_failed : ∃ (k slot e : Nat) (x : Txn) (s : State), x.wellFormed = true ∧
    x.write = true ∧ portFree s ∧ k < 4 ∧ touchesOnly s x (.linkRing k) ∧ isLinkInitiator s k x.initiator = true ∧
    fullSlot x = true ∧ descOwn x.data = false ∧ s.cmd.run = .running ∧ (linkOf s k).health ≠ .disabled ∧
    x.addr = ((linkOf s k).record.map LinkRec.base).getD 0 + 16 * slot ∧ descGen x.data = (linkOf s k).gen.toNat ∧
    descAccount x.data = e ∧ matched s k slot e = true ∧ descByte13 x.data ≠ 1 ∧ (entryOf s e).attempts = 4 :=
  ⟨0, 12, 42, slotTxn 8 (6291456 + 16 * 12) (desc 0 42 0 2 0), tried 4, by decide, rfl, ⟨rfl, rfl⟩, by decide,
    by unfold touchesOnly; decide +kernel, by decide, by decide, by decide, rfl, by decide, by decide, by decide, by decide,
    rfl, by decide, rfl⟩

theorem witness_CompletionEndsEntrySent_free : ∃ (s : State), canEnter s = true ∧ s.relay.waitList = [] ∧
    s.relay.retryList = [] ∧ (entryOf s 42).metered = true ∧ matched s 0 12 42 = true :=
  ⟨oneposted, by decide, rfl, rfl, rfl, rfl⟩

theorem witness_LoadLinkAndResetDisable_release : ∃ (v : BitVec 8) (s : State) (p : Nat × Entry), fetchReturns s 1048576 0 16 ∧
    s.cmd.run = .running ∧ v.toNat ≤ 3 ∧ (linkOf s v.toNat).health ≠ .unconfigured ∧ tabWf s.relay.table = true ∧
    p ∈ postedOn s v.toNat ∧ p.2.completionHeld = false ∧ p.2.attempts < 4 ∧
    ∀ e ∈ s.relay.retryList, (entryOf s e).st ≠ .posted :=
  ⟨0, fetching oneposted, (42, { entry42 with metered := true, account := 1, incarnation := 3 }), ⟨rfl, rfl, rfl⟩, rfl, by decide,
    by decide, by decide, by decide +kernel, rfl, by decide, nofun⟩

theorem witness_SuspendAndResume_quiet : ∃ s : State, fetchReturns s 1048576 0 16 ∧ firstReady s = none ∧
    (lineOf s 0).contents.st = acctClosing := ⟨holding { acct0 with st := acctClosing }, ⟨rfl, rfl, rfl⟩, rfl, rfl⟩

theorem witness_CloseTakesPlaceAndDetaches_kept : ∃ s : State, fetchReturns s 1048576 0 16 ∧
    (lineOf s 0).contents.st = acctOpen ∧ firstReady s = none ∧ hasEvent s 1 (lineOf s 0).contents.incarnation = true :=
  ⟨let s := holding acct0; { s with gate := { s.gate with queue := [ev .uplink 1 .shoreCell] } }, ⟨rfl, rfl, rfl⟩, rfl, rfl,
    by decide⟩

theorem witness_CloseTakesPlaceAndDetaches_finished : ∃ s : State, fetchReturns s 1048576 0 16 ∧
    (lineOf s 0).contents.st = acctOpen ∧ s.acct.finisher = .idle ∧ firstReady s = none ∧
    hasEvent s 1 (lineOf s 0).contents.incarnation = false ∧ countedEntries s 1 (lineOf s 0).contents.incarnation = [] :=
  ⟨holding acct0, ⟨rfl, rfl, rfl⟩, rfl, rfl, rfl, by decide, rfl⟩

theorem witness_CacheLineTransfers_fill_rating : ∃ (k : Nat) (r : OwnRead) (e : UsageEvent) (s : State), frontRead s = some r ∧
    r.use = .fill k ∧ (lineOf s k).st = .filling ∧ (lineOf s k).waiting = [.rating] ∧ s.gate.queue = [e] ∧
    s.cache.misses = [] ∧ noneReady s s.acct.places [] ∧ s.path.upstream = [] ∧ s.path.head = none :=
  ⟨0, _, ev .uplink 1 .shoreCell, let s := reading (.fill 0) (demo .running)
    { s with
      gate := { s.gate with queue := [ev .uplink 1 .shoreCell] }
      cache := { s.cache with lines := [(0, { (default : Line) with st := .filling, account := some 1, waiting := [.rating] })] } },
    rfl, rfl, by decide, by decide, rfl, rfl, rfl, rfl, rfl⟩

theorem witness_LineGrantRatesHead_finisher : ∃ (k : Fin 64) (n : Nat) (p : Place) (s : State),
    holdsRecord (lineOf s k) = true ∧ (lineOf s k).waiting = [.finisher] ∧ s.acct.finisher = .requesting ∧
    s.acct.finishing = some n ∧ s.acct.places[n]? = some p ∧ canPlace s = true ∧ s.cmd.run = .running ∧ s.acct.wait = none ∧
    s.cache.misses = [] ∧ noneReady s (s.acct.places.eraseIdx n) s.gate.queue ∧ s.path.upstream = [] :=
  ⟨0, 0, { account := 1, incarnation := 3, closeTime := 90000, expired := true, detached := 1 }, let s := demo .running
    { s with
      acct := { s.acct with
        places := [{ account := 1, incarnation := 3, closeTime := 90000, expired := true, detached := 1 }]
        finisher := .requesting, finishing := some 0 }
      cache := { s.cache with lines := [(0, { line0 .clean 1 { before4 with st := acctClosing } with waiting := [.finisher] })] } },
    by decide, rfl, rfl, rfl, rfl, by decide, rfl, rfl, rfl, rfl, rfl⟩

/-- The START scan stands at record `n` of 8, whose line has this record. -/
def scanning (n : Nat) (r : AcctRec) : State :=
  let s := demo .starting
  { s with
    acct := { s.acct with scan := some { next := n, scanned := n, repaired := 0, closed := 0, reporting := false } }
    cmd := { s.cmd with job := some { request := some .start, code := 2, notify := false, addr := 1048576, index := 0,
                                      size := 16, done := none } }
    cache := { s.cache with lines := [(0, { line0 .clean n r with waiting := [.scan] })] } }

/-- What the scan's grant asks for. -/
theorem scanning_grant (n : Nat) (r : AcctRec) : holdsRecord (lineOf (scanning n r) 0) = true ∧
    (lineOf (scanning n r) 0).waiting = [.scan] ∧ (lineOf (scanning n r) 0).contents = r ∧
    (scanning n r).cmd.run = .starting ∧
    (scanning n r).acct.scan = some { next := n, scanned := n, repaired := 0, closed := 0, reporting := false } ∧
    (scanning n r).cache.misses = [] ∧ findLine (scanning n r) (n + 1) = none ∧ (scanning n r).acct.places = [] ∧
    (scanning n r).gate.queue = [] ∧ (scanning n r).path.upstream = [] :=
  ⟨rfl, rfl, rfl, rfl, rfl, rfl, by simp [findLine, scanning, line0], rfl, rfl, rfl⟩

theorem witness_LineGrantRatesHead_scan_next : ∃ (n : Nat) (r : AcctRec), (scanRepair r).isSome = true ∧
    n + 2 = (scanning n r).cfg.accounts := ⟨6, { acct0 with credit := creditExhausted }, by decide, rfl⟩

theorem witness_LineGrantRatesHead_scan_last : ∃ (n : Nat) (r : AcctRec), r.st ≠ acctClosing ∧
    n + 1 = (scanning n r).cfg.accounts := ⟨7, acct0, by decide, rfl⟩

theorem witness_LineGrantRatesHead_scan_closing : ∃ (n : Nat) (r : AcctRec), r.st = acctClosing ∧
    (scanRepair r).isNone = true ∧ canPlace (scanning n r) = true := ⟨0, { acct0 with st := acctClosing }, rfl, by decide, by decide⟩

theorem witness_LineGrantRatesHead_scan_waits : ∃ (n : Nat) (r : AcctRec), r.st = acctClosing ∧
    canPlace { scanning n r with rep := { (scanning n r).rep with view := some 1 } } = false :=
  ⟨0, { acct0 with st := acctClosing }, rfl, by decide⟩

theorem witness_ReportsArePlaced_unknown : ∃ s : State, s.rep.view = none ∧ (repRing s).isSome = true :=
  ⟨let s := demo .running; { s with rep := { s.rep with view := none } }, rfl, by decide⟩

/-! ### The order inside one event -/

/-- Entry 7 heads the wait list, and the own-write queue is full. -/
def crowded : State :=
  let s := demo .running
  { s with
    path := { s.path with queue := List.replicate 16 postC }
    relay := { s.relay with
      table := [(7, { (default : Entry) with st := .waiting, account := shipAccount, takeTime := 99999 })], waitList := [7] } }

theorem test_post_waits : (let t := dispatchPass crowded
    t.relay.waitList == [7] && (entryOf t 7).st == .waiting && (linkOf t 0).posted == 0 && t.relay.suspended &&
      t.path.waiting.length == 1) = true := by decide +kernel

theorem test_post_enters : gives .ownWriteEntersQueue
    (let t := dispatchPass crowded; { t with path := { t.path with queue := [] } }) (fun u =>
      u.relay.waitList == [] && (entryOf u 7).st == .posted && (linkOf u 0).posted == 1 && !u.relay.suspended) = true := by
  decide +kernel

theorem test_error_keeps_data : gives (.passingResponse false [7]) mixedRead (fun t =>
    t.path.upOut.map Response.data == [[7]]) = true := by decide +kernel

theorem test_latch_gives_up_fetch : gives (.commandRingLatch (ctlTxn .cmdSize 32)) (asked .stopped) (fun t =>
    t.cmd.fetching == none && t.cmd.size == some 32 && t.cmd.latched == 1 && t.path.queue.length == 1) = true := by
  decide +kernel

theorem test_old_fetch_is_dropped : gives (.commandFetchDone (record0 6))
    (let s := asked .stopped; { s with cmd := { s.cmd with latched := 1, fetching := none } }) (fun t =>
      !t.cov.hold && t.cmd.job == none && t.path.inFlight == []) = true := by decide +kernel

theorem test_close_is_finished_at_once : gives (.closeAccount false 1) (holding acct0) (fun t =>
    (lineOf t 0).contents.st == acctFree && t.acct.places == [] && statusIn t == some 2 && reported 8 33 t) = true := by
  decide +kernel

theorem test_scan_goes_on : gives (.lineGrant 0) (scanning 0 acct0) (fun t =>
    (look t.gate.map 0).opened && t.path.reads.length == 1 && (t.acct.scan.map Scan.next) == some 1) = true := by
  decide +kernel

/-- R96: with an entry still ENDING, STOP waits in step 9; with the table empty it ends STOPPED. -/
theorem test_stop_waits_for_last_write_back :
    (let s := demo .stopping
     let s := { s with cmd := { s.cmd with stopStep := 8 } }
     gives .stopStepAdvance (setEntry 3 { entryOf s 3 with st := .ending } s) (fun t =>
       t.cmd.run == .stopping && t.cmd.stopStep == 9) &&
     gives .stopStepAdvance s (fun t => t.cmd.run == .stopped)) = true := by decide +kernel

end Sys2Proof.Machine.Tests
end

section
/-! The statements of chapter 01, Positions and Zones: the receiver's framing errors (R2) and the candidate zone (R11). -/

namespace Sys2Proof.Machine

/-! ### A byte with a framing error (R2) -/

theorem navFramingError_of_hunt {s : State} (h : s.pos.rx = .hunt) : navFramingError s = s := by
  simp [navFramingError, h]

theorem navFramingError_of_sync {s : State} (h : s.pos.rx = .sync) :
    navFramingError s = { s with pos := { s.pos with rx := .hunt, buf := [] } } := by
  simp [navFramingError, h, setRx]

theorem navFramingError_of_body {s : State} (h : s.pos.rx = .body) :
    navFramingError s =
      { s with pos := { s.pos with rx := .hunt, buf := [], discards := min 65535 (s.pos.discards + 1) } } := by
  simp [navFramingError, h, setRx, discard]

theorem exec_navFramingError (s : State) : exec .navFramingError s = .next (navFramingError s) := rfl

/-- Settles O10: one case for each state of the receiver. -/
theorem framingErrorEndsFrame : Obligations.FramingErrorEndsFrame := by
  intro s
  rw [exec_navFramingError]
  cases h : s.pos.rx with
  | hunt => rw [navFramingError_of_hunt h]
  | sync => rw [navFramingError_of_sync h]
  | body => rw [navFramingError_of_body h]

/-! ### What makes a record match a fix (R11) -/

theorem inBox_iff (b : Box) (lat lon : Int) :
    inBox b lat lon = true ↔ b.latMin ≤ lat ∧ lat ≤ b.latMax ∧ b.lonMin ≤ lon ∧ lon ≤ b.lonMax := by
  simp [inBox, and_assoc]

theorem matchesBox_iff (s : State) (lat lon : Int) (i : Nat) :
    matchesBox s lat lon i = true ↔ ∃ z b, look s.pos.zones i = some z ∧ z.enabled = true ∧ z.box = some b ∧
      b.latMin ≤ lat ∧ lat ≤ b.latMax ∧ b.lonMin ≤ lon ∧ lon ≤ b.lonMax := by
  unfold matchesBox
  cases look s.pos.zones i with
  | none => simp
  | some z => cases hbox : z.box <;> simp [hbox, inBox_iff]

theorem zoneZeroReady_iff (s : State) :
    zoneZeroReady s = true ↔ ∃ z, look s.pos.zones 0 = some z ∧ z.enabled = true := by
  cases h : look s.pos.zones 0 <;> simp [zoneZeroReady, h]

/-! ### The order among the boxes that contain a fix, and its best element (R11) -/

/-- R11 puts zone `i` before zone `j`, or they are the same zone: higher priority, then lower index. -/
def Precedes (s : State) (i j : Nat) : Prop :=
  priorityOf s j < priorityOf s i ∨ (priorityOf s j = priorityOf s i ∧ i ≤ j)

theorem Precedes.refl (s : State) (i : Nat) : Precedes s i i := .inr ⟨rfl, Nat.le_refl i⟩

theorem Precedes.trans {s : State} {i j k : Nat} (hij : Precedes s i j) (hjk : Precedes s j k) : Precedes s i k := by
  unfold Precedes at *
  omega

theorem Precedes.antisymm {s : State} {i j : Nat} (hij : Precedes s i j) (hji : Precedes s j i) : i = j := by
  unfold Precedes at *
  omega

/-- Zone `i` is in the list and precedes every zone of it. -/
def IsBest (s : State) (l : List Nat) (i : Nat) : Prop := i ∈ l ∧ ∀ j ∈ l, Precedes s i j

theorem IsBest.unique {s : State} {l : List Nat} {i j : Nat} : IsBest s l i → IsBest s l j → i = j
  | ⟨hi, hiBest⟩, ⟨hj, hjBest⟩ => (hiBest j hj).antisymm (hjBest i hi)

/-- The best of a list is the best of the longer list in which the head gives way to two zones that it precedes, itself one of
them. -/
theorem IsBest.of_winner {s : State} {l : List Nat} {w j k i : Nat} (hw : w = j ∨ w = k) (hj : Precedes s w j)
    (hk : Precedes s w k) : IsBest s (w :: l) i → IsBest s (j :: k :: l) i
  | ⟨hmem, hbest⟩ => by
    obtain ⟨hiw, hil⟩ := List.forall_mem_cons.1 hbest
    refine ⟨?_, List.forall_mem_cons.2 ⟨hiw.trans hj, List.forall_mem_cons.2 ⟨hiw.trans hk, hil⟩⟩⟩
    simp only [List.mem_cons] at hmem ⊢
    obtain rfl | rfl := hw <;> tauto

/-- Of two zones of rising index, `better` keeps the one that precedes the other. -/
theorem better_some (s : State) {j k : Nat} (hjk : j < k) :
    ∃ w, better s (some j) k = some w ∧ (w = j ∨ w = k) ∧ Precedes s w j ∧ Precedes s w k := by
  by_cases h : priorityOf s j < priorityOf s k
  · exact ⟨k, if_pos h, .inr rfl, .inl h, .refl s k⟩
  · exact ⟨j, if_neg h, .inl rfl, .refl s j, by unfold Precedes; omega⟩

theorem foldl_better_some (s : State) (l : List Nat) (j : Nat) (hl : (j :: l).Pairwise (· < ·)) :
    ∃ i, l.foldl (better s) (some j) = some i ∧ IsBest s (j :: l) i := by
  induction l generalizing j with
  | nil => exact ⟨j, rfl, by simp [IsBest, Precedes.refl]⟩
  | cons k l ih =>
    simp only [List.pairwise_cons, List.forall_mem_cons] at hl
    obtain ⟨⟨hjk, hjl⟩, hkl, hl⟩ := hl
    obtain ⟨w, hkept, hw, hwj, hwk⟩ := better_some s hjk
    have hwl : (w :: l).Pairwise (· < ·) := by
      obtain rfl | rfl := hw
      · exact .cons hjl hl
      · exact .cons hkl hl
    obtain ⟨i, hfold, hbest⟩ := ih w hwl
    exact ⟨i, by rw [List.foldl_cons, hkept, hfold], hbest.of_winner hw hwj hwk⟩

/-! ### The candidate (R11) -/

/-- The zones whose enabled boxes contain the position, by rising index. -/
def containing (s : State) (lat lon : Int) : List Nat := (List.range' 1 31).filter (matchesBox s lat lon)

theorem mem_containing {s : State} {lat lon : Int} {i : Nat} :
    i ∈ containing s lat lon ↔ 1 ≤ i ∧ i ≤ 31 ∧ matchesBox s lat lon i = true := by
  rw [containing, List.mem_filter, List.mem_range'_1, and_assoc]
  exact and_congr_right fun _ => and_congr_left fun _ => Nat.lt_succ_iff

theorem containing_rising (s : State) (lat lon : Int) : (containing s lat lon).Pairwise (· < ·) :=
  List.Pairwise.filter _ List.pairwise_lt_range'

theorem containing_eq_nil_iff {s : State} {lat lon : Int} :
    containing s lat lon = [] ↔ ∀ j, 1 ≤ j → j ≤ 31 → matchesBox s lat lon j = false := by
  simp [List.eq_nil_iff_forall_not_mem, mem_containing]

theorem isBest_containing_iff {s : State} {lat lon : Int} {i : Nat} (h1 : 1 ≤ i) (h31 : i ≤ 31) :
    IsBest s (containing s lat lon) i ↔
      matchesBox s lat lon i = true ∧ ∀ j, 1 ≤ j → j ≤ 31 → matchesBox s lat lon j = true → Precedes s i j := by
  simp [IsBest, mem_containing, h1, h31]

theorem candidate_of_containing_nil {s : State} {lat lon : Int} (h : containing s lat lon = []) :
    candidate s lat lon = if zoneZeroReady s then some 0 else none := by
  unfold containing at h
  simp [candidate, h]

theorem candidate_of_containing_ne_nil {s : State} {lat lon : Int} (h : containing s lat lon ≠ []) :
    ∃ i, 1 ≤ i ∧ candidate s lat lon = some i ∧ IsBest s (containing s lat lon) i := by
  obtain ⟨j, l, hl⟩ := List.exists_cons_of_ne_nil h
  obtain ⟨i, hfold, hbest⟩ := foldl_better_some s l j (hl ▸ containing_rising s lat lon)
  rw [← hl] at hbest
  refine ⟨i, (mem_containing.1 hbest.1).1, ?_, hbest⟩
  unfold containing at hl
  simp [candidate, hl, better, hfold]

theorem candidate_eq_some_iff {s : State} {lat lon : Int} {i : Nat} (h1 : 1 ≤ i) :
    candidate s lat lon = some i ↔ IsBest s (containing s lat lon) i := by
  by_cases h : containing s lat lon = []
  · have hi : 0 ≠ i := by omega
    simp [candidate_of_containing_nil h, h, IsBest, hi]
  · obtain ⟨m, -, hm, hbest⟩ := candidate_of_containing_ne_nil h
    rw [hm, Option.some.injEq]
    exact ⟨fun hmi => hmi ▸ hbest, hbest.unique⟩

theorem candidate_eq_zero_iff {s : State} {lat lon : Int} :
    candidate s lat lon = some 0 ↔ containing s lat lon = [] ∧ zoneZeroReady s = true := by
  by_cases h : containing s lat lon = []
  · simp [candidate_of_containing_nil h, h]
  · obtain ⟨m, hm1, hm, -⟩ := candidate_of_containing_ne_nil h
    have hm0 : m ≠ 0 := by omega
    simp [hm, h, hm0]

theorem candidate_eq_none_iff {s : State} {lat lon : Int} :
    candidate s lat lon = none ↔ containing s lat lon = [] ∧ zoneZeroReady s = false := by
  by_cases h : containing s lat lon = []
  · simp [candidate_of_containing_nil h, h]
  · obtain ⟨m, -, hm, -⟩ := candidate_of_containing_ne_nil h
    simp [hm, h]

/-- Settles O14: the fold over the boxes that contain the fix finds the one that precedes all the others. -/
theorem candidateIsBestBox : Obligations.CandidateIsBestBox := by
  intro s lat lon
  refine ⟨matchesBox_iff s lat lon, zoneZeroReady_iff s, fun i h1 h31 => ?_, ?_, ?_⟩
  · exact (candidate_eq_some_iff h1).trans (isBest_containing_iff h1 h31)
  · rw [candidate_eq_zero_iff, containing_eq_nil_iff]
  · rw [candidate_eq_none_iff, containing_eq_nil_iff]

end Sys2Proof.Machine
end

section
/-! The statement of chapter 02, Coverage: COVERAGE_HOLD and COVERAGE_RELEASE (R31). Before it, what the coverage transitions
do to the Coverage Controller, and how a command that its block completes at once ends its event. -/

namespace Sys2Proof.Machine

/-! ### Transitions of the coverage state (R23 to R26) -/

@[simp] theorem covMove_dark_cov (c : CovCause) (s : State) :
    (covMove .dark c s).cov = { s.cov with st := .dark, darkSince := s.clock } := by
  simp [covMove]

@[simp] theorem covMove_opening_cov (c : CovCause) (s : State) :
    (covMove .opening c s).cov = { s.cov with st := .opening, openingSince := s.clock } := by
  simp [covMove]

@[simp] theorem covMove_serving_cov (c : CovCause) (s : State) :
    (covMove .serving c s).cov = { s.cov with st := .serving } := by
  simp [covMove]

@[simp] theorem covMove_closing_cov (c : CovCause) (s : State) :
    (covMove .closing c s).cov = { s.cov with st := .closing, closingSince := s.clock } := by
  simp [covMove]

/-- A warm-up of 0 is over within the opening test (R24). -/
theorem openingTest_cov (s : State) :
    (openingTest s).cov = if openingTestPasses s then
      { s.cov with st := if s.cfg.warmUp = 0 then .serving else .opening, openingSince := s.clock } else s.cov := by
  by_cases hpass : openingTestPasses s = true
  · by_cases hwarm : s.cfg.warmUp = 0 <;> simp [openingTest, hpass, hwarm]
  · simp [openingTest, hpass]

/-- Coverage is not allowed while it is held (R20). -/
theorem openingTestPasses_of_hold {s : State} (h : s.cov.hold = true) : openingTestPasses s = false := by
  simp [openingTestPasses, allowed, h]

theorem openingTest_of_hold {s : State} (h : s.cov.hold = true) : openingTest s = s := by
  simp [openingTest, openingTestPasses_of_hold h]

/-- Coverage that is held stays dark, also where the dark minimum is 0 (R26). -/
theorem covDark_of_hold {c : CovCause} {s : State} (h : s.cov.hold = true) : covDark c s = covMove .dark c s := by
  have hold_kept : (covMove .dark c s).cov.hold = true := by simp [h]
  simp [covDark, openingTest_of_hold hold_kept]

/-! ### What COVERAGE_HOLD and COVERAGE_RELEASE make of the coverage state (R31) -/

theorem covHold_cov (s : State) :
    (covHold s).cov = if s.cov.hold then s.cov else match s.cov.st with
      | .opening => { s.cov with hold := true, st := .dark, darkSince := s.clock }
      | .serving => { s.cov with hold := true, st := .closing, closingSince := s.clock }
      | .dark => { s.cov with hold := true }
      | .closing => { s.cov with hold := true } := by
  by_cases hheld : s.cov.hold = true
  · simp [covHold, hheld]
  · cases hst : s.cov.st with
    | opening => simp [covHold, hheld, covClose, hst, covDark_of_hold]
    | serving => simp [covHold, hheld, covClose, hst]
    | dark => simp [covHold, hheld, covClose, hst]
    | closing => simp [covHold, hheld, covClose, hst]

theorem covRelease_cov (s : State) :
    (covRelease s).cov = if s.cov.hold && openingTestPasses { s with cov := { s.cov with hold := false } }
      then { s.cov with hold := false, st := if s.cfg.warmUp = 0 then .serving else .opening, openingSince := s.clock }
      else { s.cov with hold := false } := by
  by_cases hheld : s.cov.hold = true
  · simp [covRelease, hheld, openingTest_cov]
  · have hclear : { s.cov with hold := false } = s.cov := by simp [← Bool.eq_false_of_not_eq_true hheld]
    simp [covRelease, hheld, hclear]

/-! ### A command that completes: its writes are placed, and the end of the event keeps them (R182) -/

theorem completed.mono {s t : State} {addr : Nat} {d : Completion} (hg : grows s.path t.path) (hj : t.cmd.job = s.cmd.job) :
    completed s addr d → completed t addr d
  | ⟨hres, hst⟩ => ⟨hres.mono hg, hst.imp (·.mono hg) fun h => by rwa [hj]⟩

theorem writeStatus_placed {s : State} {j : Job} (hj : s.cmd.job = some j) :
    placed (writeStatus s) (statusWrite j.addr (j.done.getD default).status) := by
  have hplaced := placeWrite_placed (statusWrite j.addr (j.done.getD default).status) s
  simp only [writeStatus, hj]
  split
  · exact hplaced.mono (writeConsumer_grows (grows.refl _))
  · exact hplaced

/-- Step 1 of a completion: the command in progress holds what it completed with, and its results are placed (R182). -/
def placeResults (j : Job) (d : Completion) (s : State) : State :=
  placeWrite (resultsWrite j.addr d) { s with cmd := { s.cmd with job := some { j with done := some d } } }

theorem complete_eq {s : State} {j : Job} (hj : s.cmd.job = some j) (hd : j.done = none) (st : Status)
    (vals : List (Nat × Nat)) :
    complete st vals [] s = if canEnter s then writeStatus (placeResults j (completion st vals s.clock) s)
      else placeResults j (completion st vals s.clock) s := by
  simp [complete, hj, hd, placeResults, completion]

/-- A command in progress that its block completes has its results placed, and its status placed or still to come. -/
theorem complete_completed {s : State} {j : Job} (hj : s.cmd.job = some j) (hd : j.done = none) (st : Status)
    (vals : List (Nat × Nat)) : completed (complete st vals [] s) j.addr (completion st vals s.clock) := by
  have hresults := placeWrite_placed (resultsWrite j.addr (completion st vals s.clock))
    { s with cmd := { s.cmd with job := some { j with done := some (completion st vals s.clock) } } }
  have hjob : (placeResults j (completion st vals s.clock) s).cmd.job =
      some { j with done := some (completion st vals s.clock) } := by simp [placeResults]
  rw [complete_eq hj hd]
  split
  · exact ⟨hresults.mono (writeStatus_grows (grows.refl _)), .inl (writeStatus_placed hjob)⟩
  · exact ⟨hresults, .inr ⟨_, hjob, rfl, rfl⟩⟩

/-- The record fetched has become the command in progress, and its block has not acted on it yet (R180). -/
def commandBegun (r : Request) (notify : Bool) (addr index size : Nat) (s : State) : State :=
  { answered s with cmd := { (answered s).cmd with
      fetching := none
      job := some { request := some r, code := requestCode r, notify := notify, addr := addr, index := index, size := size,
                    done := none } } }

/-- Where the command's fetch returns, its row is the work of its block and then the end of the event. -/
theorem exec_ringRow_of_fetchReturns {s : State} {addr index size : Nat} (h : fetchReturns s addr index size) (r : Request)
    (notify : Bool) :
    exec (ringRow notify r) s = .next (settleEvent s (handCommand r (commandBegun r notify addr index size s))) := by
  have hrow : exec (ringRow notify r) s = .next (commandFetched (some r) (requestCode r) notify s) := by cases r <;> rfl
  rw [hrow, commandFetched_eq h]
  rfl

theorem commandBegun_keeps (r : Request) (notify : Bool) (addr index size : Nat) (s : State) :
    keeps [.clock, .settings, .position, .coverage, .links, .relay, .capture, .rating, .accounts, .cache, .settlement,
      .reports] s (commandBegun r notify addr index size s) := by
  simp [commandBegun, Part.same]

@[simp] theorem halted_commandBegun (r : Request) (notify : Bool) (addr index size : Nat) (s : State) :
    halted (commandBegun r notify addr index size s) = (s.cmd.run == .halted) := by
  simp [halted, commandBegun]

/-! ### The two commands (R31) -/

/-- What COVERAGE_HOLD and COVERAGE_RELEASE leave alone. -/
abbrev besideCoverage : List Part := [.clock, .settings, .position, .links, .capture, .rating, .settlement]

theorem keeps_covHold (s : State) : keeps besideCoverage s (covHold s) := by
  simp [Part.same]

theorem keeps_covRelease (s : State) : keeps besideCoverage s (covRelease s) := by
  simp [Part.same]

theorem handCommand_coverageHold (s : State) :
    handCommand .coverageHold s = if halted s then complete .badState [] [] s
      else complete .ok (coverResults s.cov.hold (covHold s)) [] (covHold s) := rfl

theorem handCommand_coverageRelease (s : State) :
    handCommand .coverageRelease s = if halted s then complete .badState [] [] s
      else complete .ok (coverResults s.cov.hold (covRelease s)) [] (covRelease s) := rfl

/-- A row whose command moves nothing but coverage and its reports, and completes at once. Since neither links nor relay
have moved, no dispatch pass starts at the end of the event (R81). -/
theorem exec_ringRow_of_complete {r : Request} {notify : Bool} {addr index size : Nat} {s v : State} {st : Status}
    {vals : List (Nat × Nat)} (hf : fetchReturns s addr index size)
    (hhand : handCommand r (commandBegun r notify addr index size s) = complete st vals [] v)
    (hv : keeps besideCoverage (commandBegun r notify addr index size s) v)
    (hrelay : v.relay = (commandBegun r notify addr index size s).relay)
    (hcmd : v.cmd = (commandBegun r notify addr index size s).cmd) :
    ∃ t, exec (ringRow notify r) s = .next t ∧ t.cov = v.cov ∧ completed t addr (completion st vals s.clock) ∧
      keeps besideCoverage s t := by
  have hbegun := commandBegun_keeps r notify addr index size s
  have hsv : keeps besideCoverage s v := (hbegun.mono (by simp)).trans hv
  have hclock : v.clock = s.clock := hsv.2 .clock (by simp)
  have hsup : v.sup = s.sup := hsv.2 .links (by simp)
  have hrelay' : v.relay = s.relay := hrelay.trans (hbegun.2 .relay (by simp))
  have hquiet : passStarts s (complete st vals [] v) = false :=
    passStarts_eq_false (by simp [hsup]) (by simp [hrelay']) (by simp [hrelay']) (by simp [hrelay'])
  obtain ⟨hlinks, -⟩ := settleEvent_quiet hquiet
  have hdone : completed (complete st vals [] v) addr (completion st vals s.clock) :=
    hclock ▸ complete_completed (by rw [hcmd]; rfl) rfl st vals
  refine ⟨_, exec_ringRow_of_fetchReturns hf r notify, ?_⟩
  rw [hhand]
  exact ⟨by simp, hdone.mono (settleEvent_grows _ (grows.refl _)) (by simp), hsv.trans (by simp [Part.same, hlinks])⟩

/-- Settles O18: each command completes at once, around what `covHold` or `covRelease` makes of the coverage state. -/
theorem coverageCommands : Obligations.CoverageCommands := by
  refine ⟨fun n s addr index size hf hrun => ?_, fun n s addr index size hf hrun => ?_,
    fun n s addr index size hf hrun => ?_⟩
  · have hgoes : ¬ halted (commandBegun .coverageHold n addr index size s) = true := by simpa using hrun
    obtain ⟨t, hexec, hcov, hdone, hkeeps⟩ := exec_ringRow_of_complete hf
      ((handCommand_coverageHold _).trans (if_neg hgoes)) (keeps_covHold _) (by simp) (by simp)
    exact ⟨t, hexec, hcov.trans (covHold_cov _), hcov ▸ hdone, hkeeps⟩
  · have hhalted (r : Request) : halted (commandBegun r n addr index size s) = true := by simp [hrun]
    obtain ⟨t, hexecT, hcovT, hdoneT, -⟩ := exec_ringRow_of_complete hf
      ((handCommand_coverageHold _).trans (if_pos (hhalted _))) (.refl _ _) rfl rfl
    obtain ⟨u, hexecU, hcovU, hdoneU, -⟩ := exec_ringRow_of_complete hf
      ((handCommand_coverageRelease _).trans (if_pos (hhalted _))) (.refl _ _) rfl rfl
    exact ⟨t, u, hexecT, hexecU, hcovT, hcovU, hdoneT, hdoneU⟩
  · have hgoes : ¬ halted (commandBegun .coverageRelease n addr index size s) = true := by simpa using hrun
    obtain ⟨t, hexec, hcov, hdone, hkeeps⟩ := exec_ringRow_of_complete hf
      ((handCommand_coverageRelease _).trans (if_neg hgoes)) (keeps_covRelease _) (by simp) (by simp)
    exact ⟨t, hexec, hcov.trans (covRelease_cov _), hcov ▸ hdone, hkeeps⟩

end Sys2Proof.Machine
end

section
/-! The statement of chapter 03, The Memory Path: the downstream arbiter's choice (R50), and the written producer that an
issued producer write moves (R186). -/

namespace Sys2Proof.Machine

/-! ### One issue by the arbiter, for each of what can be ready (R50) -/

theorem arbiterIssue_of_nothing {s : State} (hp : s.path.stream = []) (ho : ownOffer s = none) : arbiterIssue s = s := by
  simp [arbiterIssue, hp, ho]

theorem arbiterIssue_of_passing_only {s : State} {p : Passing} {rest : List Passing} (hp : s.path.stream = p :: rest)
    (ho : ownOffer s = none) : arbiterIssue s = issuePassing p 0 s := by
  simp [arbiterIssue, hp, ho]

theorem arbiterIssue_of_both {s : State} {p : Passing} {rest : List Passing} {o : OwnTxn × Bool}
    (hp : s.path.stream = p :: rest) (ho : ownOffer s = some o) :
    arbiterIssue s =
      if s.path.runCount < 8 then issuePassing p (s.path.runCount + 1) s else issueOwn o.1 o.2 s := by
  simp [arbiterIssue, hp, ho]

/-- The own side's turn: it is ready alone, or the count has reached 8. -/
theorem arbiterIssue_of_own_turn {s : State} {o : OwnTxn × Bool} (ho : ownOffer s = some o)
    (hturn : s.path.stream = [] ∨ 8 ≤ s.path.runCount) : arbiterIssue s = issueOwn o.1 o.2 s := by
  cases hp : s.path.stream with
  | nil => simp [arbiterIssue, hp, ho]
  | cons p rest =>
    have hcount : ¬ s.path.runCount < 8 := Nat.not_lt.2 (hturn.resolve_left (by simp [hp]))
    rw [arbiterIssue_of_both hp ho, if_neg hcount]

/-! ### What an issue makes of the port -/

theorem issuePassing_of_stream {s : State} {p : Passing} {rest : List Passing} (hp : s.path.stream = p :: rest)
    (count : Nat) :
    issuePassing p count s = { s with path := { s.path with
      stream := rest, inFlight := s.path.inFlight ++ [.passing p], runCount := count } } := by
  simp [issuePassing, hp]

theorem issueOwn_path (o : OwnTxn) (again : Bool) (s : State) :
    (issueOwn o again s).path = { removeOffer o again s.path with
      inFlight := s.path.inFlight ++ [.own o (if again then 2 else 1)], runCount := 0 } := by
  simp [issueOwn]

theorem issueOwn_keeps (o : OwnTxn) (again : Bool) (s : State) :
    keeps [.clock, .settings, .position, .coverage, .links, .relay, .capture, .rating, .accounts, .cache, .settlement,
      .engine] s (issueOwn o again s) := by
  simp [Part.same]

/-! ### The written producer (R186) -/

theorem issueOwn_rep (o : OwnTxn) (again : Bool) (s : State) : (issueOwn o again s).rep = (noteIssue o s).rep := by
  unfold issueOwn noteIssue
  split
  · split <;> rfl
  · rfl

theorem noteIssue_rep_of_producerWord {w : OwnWrite} {v : Nat} (hw : w.use = .producerWord v) (s : State) :
    (noteIssue (.write w) s).rep = { s.rep with written := v } := by
  simp [noteIssue, hw]

theorem noteIssue_of_not_producerWord {o : OwnTxn} (h : ∀ w v, o = .write w → w.use ≠ .producerWord v) (s : State) :
    noteIssue o s = s := by
  cases o with
  | read r => rfl
  | write w =>
    cases huse : w.use with
    | producerWord v => exact absurd huse (h w v rfl)
    | _ => simp [noteIssue, huse]

theorem exec_arbiterIssue (s : State) : exec .arbiterIssue s = .next (arbiterIssue s) := rfl

/-- Settles O27: one part for each of what can be ready, each by the equation of the arbiter for it. -/
theorem arbiterAlternates : Obligations.ArbiterAlternates := by
  intro s
  rw [exec_arbiterIssue]
  refine ⟨fun p rest hp ho => ?_, fun p rest o hp ho hcount => ?_, fun o again ho hturn => ?_, fun hp ho => ?_⟩
  · rw [arbiterIssue_of_passing_only hp ho, issuePassing_of_stream hp]
  · rw [arbiterIssue_of_both hp ho, if_pos hcount, issuePassing_of_stream hp]
  · refine ⟨issueOwn o again s, by rw [arbiterIssue_of_own_turn ho hturn], by simp [issueOwn_path],
      by simp [issueOwn_path], by simp [issueOwn_path], ?_, fun hother => ?_, issueOwn_keeps o again s⟩
    · rintro w v rfl hw
      rw [issueOwn_rep, noteIssue_rep_of_producerWord hw]
    · rw [issueOwn_rep, noteIssue_of_not_producerWord hother]
  · rw [arbiterIssue_of_nothing hp ho]

end Sys2Proof.Machine
end

section
/-! The laws that every step keeps: the RF law (R29), the capacities and the canonical form of the sparse tables. One step is a
row, the OK of a silent own write, or a tick of the service clock; each law is then kept row by row. -/

namespace Sys2Proof.Machine

/-! ### What one step can be -/

theorem idle_next {s t : State} (h : idle s = .next t) :
    (∃ i, t = after i s) ∨ silentAnswer s = some t ∨ t = tick s := by
  unfold idle at h
  split at h
  · exact .inl ⟨_, exec_next h⟩
  · cases hs : silentAnswer s with
    | some u =>
      rw [hs] at h
      cases h
      exact .inr (.inl rfl)
    | none =>
      rw [hs] at h
      cases h
      exact .inr (.inr rfl)

theorem silentAnswer_eq {s t : State} (h : silentAnswer s = some t) :
    t = { s with path := { s.path with inFlight := s.path.inFlight.tail } } := by
  unfold silentAnswer at h
  split at h
  case h_1 f rest hf =>
    split at h <;> cases h
    rw [hf]
    rfl
  case h_2 => cases h

/-- A law that no waiting command, no tick and no silent answer can touch, and that every row keeps, is kept by every step. -/
theorem step_keeps_law {P : State → Prop} (hpending : ∀ s l, P s → P { s with pending := l })
    (hflight : ∀ s l, P s → P { s with path := { s.path with inFlight := l } }) (htick : ∀ s, P s → P (tick s))
    (hrow : ∀ i s, P s → P (after i s)) {s t : State} (hs : P s) (h : step s = .next t) : P t := by
  unfold step at h
  split at h
  · rw [exec_next h]
    exact hrow _ _ (hpending _ _ hs)
  · obtain ⟨i, rfl⟩ | hsilent | rfl := idle_next h
    · exact hrow i s hs
    · rw [silentAnswer_eq hsilent]
      exact hflight _ _ hs
    · exact htick s hs

/-! ### The two rows that act only where their condition holds -/

theorem after_headAgeExpiry (s : State) :
    after .headAgeExpiry s = settleEvent s (dispatchPass s) ∨ after .headAgeExpiry s = s := by
  by_cases h : headAgeDue s = true
  · exact .inl (if_pos h)
  · exact .inr (if_neg h)

theorem after_passingResponse (ok : Bool) (data : List Byte) (s : State) :
    (∃ p, after (.passingResponse ok data) s = passResponse p ok data s) ∨ after (.passingResponse ok data) s = s := by
  match h : heard s with
  | .passing p :: rest => exact .inl ⟨p, by simp [after, h]⟩
  | .own o n :: rest => exact .inr (by simp [after, h])
  | [] => exact .inr (by simp [after, h])

/-! ### The RF law (R29) -/

theorem after_rf (i : Instr) {s : State} (hp : Rf s.cov.st s.cmd.run) : Rf (after i s).cov.st (after i s).cmd.run := by
  cases i with
  | pinReset sel => exact .dark _
  | navByte b => exact settleEvent_rf _ (navByte_rf b hp)
  | navFramingError => exact navFramingError_rf hp
  | fixLossExpiry => exact fixLossExpiry_rf hp
  | linkCarrierChange k high => exact settleEvent_rf _ (carrierChange_rf _ _ hp)
  | lostGraceExpiry => exact lostGraceExpiry_rf hp
  | backhaulLossExpiry => exact backhaulLossExpiry_rf hp
  | warmUpExpiry => exact warmUpExpiry_rf hp
  | drainExpiry => exact drainExpiry_rf hp
  | darkMinimumExpiry => exact darkMinimumExpiry_rf hp
  | probationExpiry k => exact settleEvent_rf _ (probationExpiry_rf _ hp)
  | completionTimeoutExpiry k => exact settleEvent_rf _ (completionTimeoutExpiry_rf _ hp)
  | deferredSwapExpiry => exact settleEvent_rf _ (deferredSwapExpiry_rf hp)
  | headAgeExpiry =>
    obtain h | h := after_headAgeExpiry s <;> rw [h]
    · exact settleEvent_rf _ (dispatchPass_rf hp)
    · exact hp
  | closeWaitLimitExpiry n => exact closeWaitExpiry_rf n hp
  | ageExpiry k => exact ageExpiry_rf _ hp
  | stopPostedWaitExpiry => exact settleEvent_rf _ (postedWaitExpiry_rf hp)
  | passingTransaction x | controlBlockWrite x | commandRingLatch x | reportRingLatch x | commandProducerIndexWrite x
  | reportConsumerIndexWrite x | accountTableRead x | accountTableWrite x | uplinkRingWrite x | downlinkDescriptor x
  | linkRingWrite x | radioDownlinkRingWrite x => exact arrive_rf x hp
  | holdRelease => exact portEvent_rf _ hp
  | arbiterIssue => exact arbiterIssue_rf hp
  | ownWriteEntersQueue => exact ownWriteEnters_rf hp
  | passingResponse ok data =>
    obtain ⟨p, h⟩ | h := after_passingResponse ok data s <;> rw [h]
    · exact passResponse_rf p ok data hp
    · exact hp
  | ownTransactionError n => exact ownError_rf n hp
  | takeReadDone data => exact takeReadDone_rf _ hp
  | fillDone data => exact fillDone_rf _ hp
  | writeBackDone => exact writeBackDone_rf hp
  | lineGrant k => exact lineGrant_rf _ hp
  | waitingEventRelease => exact releaseWaiting_rf hp
  | commandFetchDone record => exact recordFetched_rf _ hp
  | reportConsumerReadDone data => exact consumerReadDone_rf _ hp
  | billingReportPlaced => exact settleEvent_rf _ (placeWaiters_rf hp)
  | stopStepAdvance => exact settleEvent_rf _ (stopAdvance_rf hp)
  | stopHaltedClear => exact settleEvent_rf _ (clearHalted_rf hp)
  | _ => exact commandFetched_rf _ _ _ hp

/-- Settles O4: the RF law through each row. -/
theorem everyStepKeepsRfLaw : Obligations.EveryStepKeepsRfLaw := by
  intro s t hs hstep
  rw [rfLaw_iff] at hs ⊢
  exact step_keeps_law (P := fun s => Rf s.cov.st s.cmd.run) (fun _ _ h => h) (fun _ _ h => h) (fun _ h => h)
    (fun i _ h => after_rf i h) hs hstep

/-! ### The capacities (R47, R108, R50, R4, R185) -/

/-- The capacities of a state. -/
abbrev Bounded (s : State) : Prop := Bd s.path.queue s.gate.queue s.path.runCount s.pos.discards s.rep.dropped

theorem after_bd (i : Instr) {s : State} (hp : Bounded s) : Bounded (after i s) := by
  cases i with
  | pinReset sel => exact ⟨Nat.zero_le _, Nat.zero_le _, Nat.zero_le _, Nat.zero_le _, Nat.zero_le _⟩
  | navByte b => exact settleEvent_bd _ (navByte_bd b hp)
  | navFramingError => exact navFramingError_bd hp
  | fixLossExpiry => exact fixLossExpiry_bd hp
  | linkCarrierChange k high => exact settleEvent_bd _ (carrierChange_bd _ _ hp)
  | lostGraceExpiry => exact lostGraceExpiry_bd hp
  | backhaulLossExpiry => exact backhaulLossExpiry_bd hp
  | warmUpExpiry => exact warmUpExpiry_bd hp
  | drainExpiry => exact drainExpiry_bd hp
  | darkMinimumExpiry => exact darkMinimumExpiry_bd hp
  | probationExpiry k => exact settleEvent_bd _ (probationExpiry_bd _ hp)
  | completionTimeoutExpiry k => exact settleEvent_bd _ (completionTimeoutExpiry_bd _ hp)
  | deferredSwapExpiry => exact settleEvent_bd _ (deferredSwapExpiry_bd hp)
  | headAgeExpiry =>
    obtain h | h := after_headAgeExpiry s <;> rw [h]
    · exact settleEvent_bd _ (dispatchPass_bd hp)
    · exact hp
  | closeWaitLimitExpiry n => exact closeWaitExpiry_bd n hp
  | ageExpiry k => exact ageExpiry_bd _ hp
  | stopPostedWaitExpiry => exact settleEvent_bd _ (postedWaitExpiry_bd hp)
  | passingTransaction x | controlBlockWrite x | commandRingLatch x | reportRingLatch x | commandProducerIndexWrite x
  | reportConsumerIndexWrite x | accountTableRead x | accountTableWrite x | uplinkRingWrite x | downlinkDescriptor x
  | linkRingWrite x | radioDownlinkRingWrite x => exact arrive_bd x hp
  | holdRelease => exact portEvent_bd _ hp
  | arbiterIssue => exact arbiterIssue_bd hp
  | ownWriteEntersQueue => exact ownWriteEnters_bd hp
  | passingResponse ok data =>
    obtain ⟨p, h⟩ | h := after_passingResponse ok data s <;> rw [h]
    · exact passResponse_bd p ok data hp
    · exact hp
  | ownTransactionError n => exact ownError_bd n hp
  | takeReadDone data => exact takeReadDone_bd _ hp
  | fillDone data => exact fillDone_bd _ hp
  | writeBackDone => exact writeBackDone_bd hp
  | lineGrant k => exact lineGrant_bd _ hp
  | waitingEventRelease => exact releaseWaiting_bd hp
  | commandFetchDone record => exact recordFetched_bd _ hp
  | reportConsumerReadDone data => exact consumerReadDone_bd _ hp
  | billingReportPlaced => exact settleEvent_bd _ (placeWaiters_bd hp)
  | stopStepAdvance => exact settleEvent_bd _ (stopAdvance_bd hp)
  | stopHaltedClear => exact settleEvent_bd _ (clearHalted_bd hp)
  | _ => exact commandFetched_bd _ _ _ hp

/-- Settles O5: the capacities through each row. -/
theorem everyStepKeepsBounds : Obligations.EveryStepKeepsBounds := by
  intro s t hs hstep
  rw [bounded_iff] at hs ⊢
  exact step_keeps_law (P := Bounded) (fun _ _ h => h) (fun _ _ h => h) (fun _ h => h) (fun i _ h => after_bd i h) hs
    hstep

/-! ### The canonical form of the tables (assumption 28) -/

/-- Pin reset lists the links whose carrier line is high, by rising link id, and empties every other table. -/
theorem resetWith_tabsOk (sel : BitVec 4) (f : Nat → Bool) :
    TabsOk (State.resetWith sel ((List.range 4).map fun k => (k, f k))) := by
  refine ⟨rfl, ?_, rfl, rfl, rfl, rfl, rfl, rfl, rfl, rfl, rfl⟩
  rw [tabWf_iff]
  constructor
  · refine List.pairwise_map.2 (List.Pairwise.filter _ (List.pairwise_map.2 ?_))
    exact List.pairwise_lt_range
  · intro p hp
    simp only [State.resetWith, List.mem_map] at hp
    obtain ⟨c, -, rfl⟩ := hp
    exact fun h => Bool.noConfusion (congrArg Link.carrierLine h)

theorem after_wf (i : Instr) {s : State} (hp : TabsOk s) : TabsOk (after i s) := by
  cases i with
  | pinReset sel => exact resetWith_tabsOk sel _
  | navByte b => exact settleEvent_wf _ (navByte_wf b hp)
  | navFramingError => exact navFramingError_wf hp
  | fixLossExpiry => exact fixLossExpiry_wf hp
  | linkCarrierChange k high => exact settleEvent_wf _ (carrierChange_wf _ _ hp)
  | lostGraceExpiry => exact lostGraceExpiry_wf hp
  | backhaulLossExpiry => exact backhaulLossExpiry_wf hp
  | warmUpExpiry => exact warmUpExpiry_wf hp
  | drainExpiry => exact drainExpiry_wf hp
  | darkMinimumExpiry => exact darkMinimumExpiry_wf hp
  | probationExpiry k => exact settleEvent_wf _ (probationExpiry_wf _ hp)
  | completionTimeoutExpiry k => exact settleEvent_wf _ (completionTimeoutExpiry_wf _ hp)
  | deferredSwapExpiry => exact settleEvent_wf _ (deferredSwapExpiry_wf hp)
  | headAgeExpiry =>
    obtain h | h := after_headAgeExpiry s <;> rw [h]
    · exact settleEvent_wf _ (dispatchPass_wf hp)
    · exact hp
  | closeWaitLimitExpiry n => exact closeWaitExpiry_wf n hp
  | ageExpiry k => exact ageExpiry_wf _ hp
  | stopPostedWaitExpiry => exact settleEvent_wf _ (postedWaitExpiry_wf hp)
  | passingTransaction x | controlBlockWrite x | commandRingLatch x | reportRingLatch x | commandProducerIndexWrite x
  | reportConsumerIndexWrite x | accountTableRead x | accountTableWrite x | uplinkRingWrite x | downlinkDescriptor x
  | linkRingWrite x | radioDownlinkRingWrite x => exact arrive_wf x hp
  | holdRelease => exact portEvent_wf _ hp
  | arbiterIssue => exact arbiterIssue_wf hp
  | ownWriteEntersQueue => exact ownWriteEnters_wf hp
  | passingResponse ok data =>
    obtain ⟨p, h⟩ | h := after_passingResponse ok data s <;> rw [h]
    · exact passResponse_wf p ok data hp
    · exact hp
  | ownTransactionError n => exact ownError_wf n hp
  | takeReadDone data => exact takeReadDone_wf _ hp
  | fillDone data => exact fillDone_wf _ hp
  | writeBackDone => exact writeBackDone_wf hp
  | lineGrant k => exact lineGrant_wf _ hp
  | waitingEventRelease => exact releaseWaiting_wf hp
  | commandFetchDone record => exact recordFetched_wf _ hp
  | reportConsumerReadDone data => exact consumerReadDone_wf _ hp
  | billingReportPlaced => exact settleEvent_wf _ (placeWaiters_wf hp)
  | stopStepAdvance => exact settleEvent_wf _ (stopAdvance_wf hp)
  | stopHaltedClear => exact settleEvent_wf _ (clearHalted_wf hp)
  | _ => exact commandFetched_wf _ _ _ hp

/-- Settles O6: the canonical form of the tables through each row. -/
theorem everyStepKeepsTables : Obligations.EveryStepKeepsTables := by
  intro s t hs hstep
  rw [tablesWf_iff] at hs ⊢
  exact step_keeps_law (P := TabsOk) (fun _ _ h => h) (fun _ _ h => h) (fun _ h => h) (fun i _ h => after_wf i h) hs
    hstep

end Sys2Proof.Machine
end

section
/-! What each row leaves alone, and the statements about every row that follow: the frame of a row, the tables that move by
their own command only, and the transactions that are refused. With them, the step and pin reset. -/

namespace Sys2Proof.Machine

/-! ### The rows that are commands of the ring -/

theorem eq_ringRow_of_ringOf {i : Instr} {r : Request} {n : Bool} (h : ringOf i = some (r, n)) : i = ringRow n r := by
  cases i <;> simp only [ringOf, Option.some.injEq, Prod.mk.injEq, reduceCtorEq] at h <;> obtain ⟨rfl, rfl⟩ := h <;> rfl

/-- A view of the state that a row leaves alone: a command of the ring, because its block, the end of the event and the fetch
do; any other row of itself. -/
theorem after_proj {α : Type} (f : State → α) (i : Instr) (s : State)
    (hhand : ∀ r n, i = ringRow n r → ∀ u, f (handCommand r u) = f u) (hsettle : ∀ u, f (settleEvent s u) = f u)
    (hbegin : ∀ r c n u, beginJob (some r) c n s = some u → f u = f s) (hanswered : f (answered s) = f s)
    (hrest : ringOf i = none → f (after i s) = f s) : f (after i s) = f s := by
  cases h : ringOf i with
  | none => exact hrest h
  | some p =>
    obtain ⟨r, n⟩ := p
    rw [after_ring h]
    exact commandFetched_proj f (hhand r n (eq_ringRow_of_ringOf h)) hsettle (hbegin r _ n) hanswered

/-! ### The frame of a row -/

theorem handCommand_keeps (n : Bool) (r : Request) (s : State) : keeps (keptBy (ringRow n r)) s (handCommand r s) := by
  cases r <;> simp [ringRow, keptBy, handCommand, Part.same]

/-- The parts that the end of an event leaves alone. -/
abbrev keptAtEnd : List Part := [.clock, .settings, .position, .coverage, .capture, .rating, .settlement, .reports]

theorem settleEvent_keeps (old s : State) : keeps keptAtEnd s (settleEvent old s) := by
  simp [Part.same]

theorem keptBy_ringRow_subset (n : Bool) (r : Request) : keptBy (ringRow n r) ⊆ keptAtEnd := by
  cases r <;> simp [ringRow, keptBy]

theorem answered_keeps (s : State) :
    keeps [.clock, .settings, .position, .coverage, .links, .relay, .capture, .rating, .accounts, .cache, .settlement,
      .engine, .reports] s (answered s) := by
  simp [Part.same]

theorem beginJob_keeps {r : Option Request} {c : Nat} {n : Bool} {s u : State} (h : beginJob r c n s = some u) :
    keeps keptAtEnd s u := by
  have hframe := beginJob_frame h
  simp at hframe
  simp [Part.same, hframe]

theorem after_keeps (i : Instr) (s : State) : keeps (keptBy i) s (after i s) := by
  cases h : ringOf i with
  | some p =>
    obtain ⟨r, n⟩ := p
    rw [after_ring h]
    obtain rfl := eq_ringRow_of_ringOf h
    have hsub := keptBy_ringRow_subset n r
    exact keeps_commandFetched (handCommand_keeps n r) (fun u => (settleEvent_keeps s u).mono hsub)
      (fun u hu => (beginJob_keeps hu).mono hsub) ((answered_keeps s).mono fun p hp => by
        have := hsub hp
        simp at this ⊢
        tauto)
  | none =>
    cases i with
    | pinReset sel => simp [keptBy, after]
    | headAgeExpiry =>
      obtain h | h := after_headAgeExpiry s <;> rw [h] <;> simp [keptBy, Part.same]
    | passingResponse ok data =>
      obtain ⟨p, h⟩ | h := after_passingResponse ok data s <;> rw [h] <;> simp [keptBy, Part.same]
    | _ =>
      revert h
      simp [ringOf, keptBy, after, Part.same]

/-- Settles O7: the frame lemmas of the operations, row by row. -/
theorem rowFrames : Obligations.RowFrames := by
  intro i s t h
  rw [exec_next h]
  exact after_keeps i s

/-! ### What is loaded (R8, R114, R169, R183, R37, R71) -/

/-- The loaded tables, the configured values, the forced link and the straps. -/
structure Loaded where
  zones : Tab (Option Zone)
  tariffs : Tab (Option Tariff) × Nat
  partners : Tab (Option Partner)
  config : Settings × Bool × Nat × Nat
  forced : Option Nat
  straps : BitVec 4

/-- What is loaded in a state. -/
def loadedOf (s : State) : Loaded :=
  { zones := s.pos.zones
    tariffs := (s.rate.tariffs, s.rate.loaded)
    partners := s.settle.partners
    config := (s.cfg, s.cmd.configured, s.pos.fixLoss, s.pos.minQuality)
    forced := s.sup.forced
    straps := s.path.baseSel }

/-- A row that is no command of the ring loads nothing, pin reset aside. -/
theorem after_loaded_of_not_ring (i : Instr) (s : State) (hp : ∀ sel, i ≠ .pinReset sel) (hc : ∀ r, i ≠ .commandFetchDone r)
    (h : ringOf i = none) : loadedOf (after i s) = loadedOf s := by
  cases i with
  | pinReset sel => exact absurd rfl (hp sel)
  | commandFetchDone r => exact absurd rfl (hc r)
  | headAgeExpiry => obtain h | h := after_headAgeExpiry s <;> simp [h, loadedOf]
  | passingResponse ok data => obtain ⟨p, h⟩ | h := after_passingResponse ok data s <;> simp [h, loadedOf]
  | _ =>
    revert h
    simp [ringOf, after, loadedOf]

theorem beginJob_loaded {r : Option Request} {c : Nat} {n : Bool} {s u : State} (h : beginJob r c n s = some u) :
    loadedOf u = loadedOf s := by
  have hframe := beginJob_frame h
  simp at hframe
  simp [loadedOf, hframe]

/-- A view of what is loaded stays where the block of a command that the row is leaves it alone. -/
theorem after_loaded {α : Type} (view : Loaded → α) (i : Instr) (s : State) (hp : ∀ sel, i ≠ .pinReset sel)
    (hc : ∀ r, i ≠ .commandFetchDone r)
    (hhand : ∀ r n, i = ringRow n r → ∀ u, view (loadedOf (handCommand r u)) = view (loadedOf u)) :
    view (loadedOf (after i s)) = view (loadedOf s) :=
  after_proj (fun s => view (loadedOf s)) i s hhand (fun u => by simp [loadedOf])
    (fun _ _ _ _ h => by rw [beginJob_loaded h]) (by simp [loadedOf])
    (fun h => by rw [after_loaded_of_not_ring i s hp hc h])

/-- Settles O8: each view of what is loaded, by the frames of the commands that do not move it. -/
theorem loadedTablesMoveByTheirCommand : Obligations.LoadedTablesMoveByTheirCommand := by
  intro i s t h hp hc
  obtain rfl := exec_next h
  have kept {α : Type} (view : Loaded → α) := after_loaded view i s hp hc
  refine ⟨fun hi => ?_, fun hi => ?_, fun hi => ?_, fun hi => ?_, fun hi => ?_, ?_⟩
  · refine kept Loaded.zones fun r n hr u => ?_
    cases r with
    | loadZone p => exact absurd hr (hi n p)
    | _ => simp [handCommand, loadedOf]
  · refine Prod.mk.inj (kept Loaded.tariffs fun r n hr u => ?_)
    cases r with
    | loadTariff p => exact absurd hr (hi n p)
    | _ => simp [handCommand, loadedOf]
  · refine kept Loaded.partners fun r n hr u => ?_
    cases r with
    | loadPartner p => exact absurd hr (hi n p)
    | _ => simp [handCommand, loadedOf]
  · have hconfig := kept Loaded.config fun r n hr u => by
      cases r with
      | configure p => exact absurd hr (hi n p)
      | _ => simp [handCommand, loadedOf]
    simpa [loadedOf] using hconfig
  · refine kept Loaded.forced fun r n hr u => ?_
    cases r with
    | linkForce v => exact absurd hr (hi n v)
    | _ => simp [handCommand, loadedOf]
  · exact kept Loaded.straps fun r n hr u => by simp [loadedOf]

/-! ### What is refused, and what faults (assumption 7) -/

theorem wellFormed_eq_false_iff (i : Instr) :
    i.wellFormed = false ↔ ∃ t, i.txn = some t ∧ t.wellFormed = false := by
  cases h : i.txn <;> simp [Instr.wellFormed, h]

theorem exec_of_ill_formed {i : Instr} (h : i.wellFormed = false) (s : State) :
    exec i s = .refused .malformedTransaction := by
  rw [exec_eq, if_pos h]

/-- A row with well-formed operands answers a state, or is a response of the wrong length. -/
theorem exec_of_well_formed {i : Instr} (h : i.wellFormed = true) (s : State) :
    exec i s = .next (after i s) ∨ ((∃ ok data, i = .passingResponse ok data) ∧ exec i s = .fault .responseLength) := by
  rw [exec_eq, if_neg (by simp [h])]
  split
  · split
    · exact .inl rfl
    · exact .inr ⟨⟨_, _, rfl⟩, rfl⟩
  · exact .inl rfl

/-- Settles O9: the equation of `exec`, for ill-formed and for well-formed operands. -/
theorem onlyMalformedIsRefused : Obligations.OnlyMalformedIsRefused := by
  intro i s
  rw [← wellFormed_eq_false_iff]
  cases h : i.wellFormed with
  | false => simp [exec_of_ill_formed h]
  | true => obtain hnext | ⟨hrow, hfault⟩ := exec_of_well_formed h s <;> simp [*]

/-! ### The step and pin reset -/

/-- Settles O1. -/
theorem stepRunsFront : Obligations.StepRunsFront := by
  intro c rest s h
  simp [step, h]

theorem look_high_lines (f : Nat → Bool) (l : List Nat) (v : Link) (n : Nat) :
    look (((l.map fun k => (k, f k)).filter Prod.snd).map fun c => (c.1, v)) n =
      if n ∈ l ∧ f n = true then v else default := by
  induction l with
  | nil => simp
  | cons a l ih =>
    by_cases ha : f a = true <;> by_cases hn : n = a
    · simp [ha, hn, look]
    · simp [ha, hn, look, Ne.symm hn, ih]
    · subst hn
      simp [ha, ih]
    · simp [ha, hn, ih]

/-- The state that pin reset leaves. -/
def pinResetState (sel : BitVec 4) (s : State) : State :=
  { State.resetWith sel ((List.range 4).map fun k => (k, (linkOf s k).carrierLine)) with pending := s.pending }

theorem exec_pinReset (sel : BitVec 4) (s : State) : exec (.pinReset sel) s = .next (pinResetState sel s) := rfl

/-- Pin reset keeps the level of each carrier line and clears the rest of each link. -/
theorem linkOf_pinResetState (sel : BitVec 4) (s : State) (k : Nat) :
    linkOf (pinResetState sel s) k =
      { (default : Link) with carrierLine := decide (k < 4) && (linkOf s k).carrierLine } := by
  refine (look_high_lines (fun k => (linkOf s k).carrierLine) (List.range 4) _ k).trans ?_
  by_cases hk : k < 4 <;> cases (linkOf s k).carrierLine <;> simp [hk] <;> rfl

theorem regionOf_pinResetState (sel : BitVec 4) (s : State) (g : RegionKind) (hg : g ≠ .control) :
    regionOf (pinResetState sel s) g = none := by
  cases g with
  | control => exact absurd rfl hg
  | linkRing k => simp only [regionOf, linkOf_pinResetState]; rfl
  | _ => rfl

/-- Settles O2. -/
theorem pinResetValues : Obligations.PinResetValues := by
  intro sel s
  refine ⟨_, exec_pinReset sel s, rfl, rfl, ⟨rfl, rfl, rfl, rfl, rfl, rfl, rfl, rfl, rfl, rfl, fun _ => rfl, rfl, rfl, rfl,
    rfl⟩, ⟨rfl, rfl, rfl, rfl, rfl, rfl, rfl, rfl, rfl, rfl⟩, ⟨rfl, fun g _ hg => regionOf_pinResetState sel s g hg, rfl, rfl,
    rfl, rfl, rfl, rfl, rfl, fun _ => ⟨rfl, rfl⟩, fun k i => ?_⟩, linkOf_pinResetState sel s, ⟨rfl, rfl, rfl, rfl, rfl, rfl,
    rfl⟩, ⟨fun _ => ⟨rfl, rfl, rfl, rfl, rfl, rfl⟩, rfl, rfl, rfl, rfl, rfl, rfl, rfl⟩, ⟨fun _ => rfl, rfl, rfl, rfl⟩,
    ⟨fun _ => rfl, rfl, rfl⟩, ⟨rfl, rfl, rfl, rfl, rfl, rfl⟩, ⟨fun _ => ⟨rfl, rfl, rfl, rfl, rfl, rfl⟩, rfl, rfl, rfl⟩,
    ⟨fun _ => ⟨rfl, rfl⟩, rfl, fun _ => rfl, rfl, rfl⟩, ⟨rfl, rfl, rfl, rfl, rfl, rfl, rfl, rfl⟩, rfl, rfl, rfl, rfl, rfl,
    rfl, rfl, rfl, rfl⟩
  simp only [isLinkInitiator, linkOf_pinResetState]
  rfl

/-- Settles O3. -/
theorem resetIsPinReset : Obligations.ResetIsPinReset := by
  refine ⟨?_, by decide, by decide, by decide⟩
  rfl

end Sys2Proof.Machine
end

section
/-! The arithmetic of the Rating Engine (R118 to R120, R126, R127), the bytes of an account record, and an addition to a
settlement accumulator (R172). -/

namespace Sys2Proof.Machine

/-! ### One rating (R118 to R120) -/

theorem carryOf_addBytes_setCarry (d : Direction) (n v : Nat) (r : AcctRec) :
    carryOf d (addBytes d n (setCarry d v r)) = v := by
  cases d <;> rfl

/-- The carry that a rating leaves is the rest of the sum (R118). -/
theorem carryOf_rate (k : Tariff) (r : AcctRec) (e : UsageEvent) :
    carryOf e.dir (rate k r e).record = (carryOf e.dir r + e.bytes) % k.block := by
  have hrest : carryOf e.dir r + e.bytes - (carryOf e.dir r + e.bytes) / k.block * k.block =
      (carryOf e.dir r + e.bytes) % k.block := by
    rw [Nat.mul_comm, Nat.mod_eq_sub_mul_div]
  rw [← hrest]
  cases h : e.dir <;> simp [rate, carryOf, addBytes, setCarry, h]

theorem rate_blocks (k : Tariff) (r : AcctRec) (e : UsageEvent) :
    (rate k r e).blocks = (carryOf e.dir r + e.bytes) / k.block := rfl

/-- The raw charge of a rating (R119). -/
def rawCharge (k : Tariff) (r : AcctRec) (e : UsageEvent) : Nat :=
  (rate k r e).blocks * priceOf e.dir k * k.mults.getD (classCode e.cls) 0 + r.residue

theorem rate_full (k : Tariff) (r : AcctRec) (e : UsageEvent) :
    (rate k r e).full = if (rate k r e).blocks = 0 then 0 else rawCharge k r e / 256 := rfl

theorem rate_charge (k : Tariff) (r : AcctRec) (e : UsageEvent) : (rate k r e).charge = min max32 (rate k r e).full := rfl

theorem rate_residue (k : Tariff) (r : AcctRec) (e : UsageEvent) :
    (rate k r e).record.residue = if (rate k r e).blocks = 0 then r.residue else rawCharge k r e % 256 := by
  cases h : e.dir <;> simp [rate, rawCharge, addBytes, setCarry, h]

/-- The totals and the last charged region and class after a rating (R120). -/
theorem rate_totals (k : Tariff) (r : AcctRec) (e : UsageEvent) :
    (rate k r e).record.used = min max48 (r.used + (rate k r e).charge) ∧
    (rate k r e).record.total = min max48 (r.total + (rate k r e).charge) ∧
    (rate k r e).record.lastRegion = (if (rate k r e).blocks = 0 then r.lastRegion else e.region) ∧
    (rate k r e).record.lastClass = (if (rate k r e).blocks = 0 then r.lastClass else classCode e.cls) := by
  cases h : e.dir <;> simp [rate, satAdd, addBytes, setCarry, h]

/-- What a rating leaves of the other fields. -/
theorem rate_rest (k : Tariff) (r : AcctRec) (e : UsageEvent) :
    (rate k r e).record.grant = r.grant ∧ (rate k r e).record.st = r.st ∧
    (rate k r e).record.incarnation = r.incarnation := by
  cases h : e.dir <;> simp [rate, addBytes, setCarry, h]

theorem rate_uplink {k : Tariff} {r : AcctRec} {e : UsageEvent} (h : e.dir = .uplink) :
    (rate k r e).record.carryDown = r.carryDown ∧ (rate k r e).record.bytesDown = r.bytesDown ∧
    (rate k r e).record.bytesUp = min max48 (r.bytesUp + e.bytes) := by
  simp [rate, addBytes, setCarry, satAdd, h]

theorem rate_downlink {k : Tariff} {r : AcctRec} {e : UsageEvent} (h : e.dir = .downlink) :
    (rate k r e).record.carryUp = r.carryUp ∧ (rate k r e).record.bytesUp = r.bytesUp ∧
    (rate k r e).record.bytesDown = min max48 (r.bytesDown + e.bytes) := by
  simp [rate, addBytes, setCarry, satAdd, h]

/-- Settles O41: the sum is its blocks and the carry, the raw charge its units of 256 and the residue. -/
theorem ratingLosesNothing : Obligations.RatingLosesNothing := by
  intro k r e hblock
  obtain ⟨hused, htotal, hregion, hclass⟩ := rate_totals k r e
  refine ⟨?_, ?_, fun h0 => ?_, fun h0 => ?_, rate_uplink, rate_downlink, rate_rest k r e⟩
  · rw [carryOf_rate]
    exact Nat.mod_lt _ hblock
  · rw [carryOf_rate, rate_blocks, Nat.mul_comm]
    exact (Nat.div_add_mod _ _).symm
  · have hcharge : (rate k r e).charge = 0 := by simp [rate_charge, rate_full, h0]
    exact ⟨hcharge, by simp [rate_residue, h0], by simp [hused, hcharge], by simp [hregion, h0], by simp [hclass, h0]⟩
  · refine ⟨?_, ?_, rate_charge k r e, hused, htotal, by simp [hregion, h0], by simp [hclass, h0]⟩
    · rw [rate_full, rate_residue, if_neg h0, if_neg h0]
      exact (Nat.div_add_mod _ _).symm
    · rw [rate_residue, if_neg h0]
      exact Nat.mod_lt _ (by decide)

/-! ### The close round-up (R126, R127) -/

/-- One step of the round-up charges one block for a carry that is not 0 and loses no fraction of a cu. -/
theorem roundPart_spec (carry price mult residue : Nat) :
    (carry = 0 → (roundPart carry price mult residue).1 = 0 ∧ (roundPart carry price mult residue).2 = residue) ∧
    (carry ≠ 0 → price * mult + residue = 256 * (roundPart carry price mult residue).1 +
      (roundPart carry price mult residue).2 ∧ (roundPart carry price mult residue).2 < 256) := by
  unfold roundPart
  constructor <;> intro h
  · simp [h]
  · rw [if_neg h]
    exact ⟨(Nat.div_add_mod _ _).symm, Nat.mod_lt _ (by decide)⟩

/-- 256 times what a step charges, with the residue it leaves, is at most one block more than the residue it found. -/
theorem roundPart_le (carry : Nat) {price mult : Nat} (residue : Nat) (hp : price ≤ 1000000) (hm : mult ≤ 1023) :
    256 * (roundPart carry price mult residue).1 + (roundPart carry price mult residue).2 ≤ 1023000000 + residue := by
  have hblock : price * mult ≤ 1000000 * 1023 := Nat.mul_le_mul hp hm
  obtain ⟨h0, h1⟩ := roundPart_spec carry price mult residue
  by_cases hc : carry = 0
  · have := h0 hc
    omega
  · have := h1 hc
    omega

theorem roundMult_le {k : Tariff} (h : ∀ m ∈ k.mults, m ≤ 1023) (c : Nat) : roundMult k c ≤ 1023 := by
  unfold roundMult
  rw [List.getD_eq_getElem?_getD]
  cases hm : k.mults[if c < 4 then c else 3]? with
  | none => simp
  | some m => exact h m (List.mem_of_getElem? hm)

/-- The part of the uplink carry, and the residue after it. -/
def roundFirst (k : Tariff) (r : AcctRec) : Nat × Nat := roundPart r.carryUp k.upPrice (roundMult k r.lastClass) r.residue

/-- The part of the downlink carry, and the residue after it. -/
def roundSecond (k : Tariff) (r : AcctRec) : Nat × Nat :=
  roundPart r.carryDown k.downPrice (roundMult k r.lastClass) (roundFirst k r).2

theorem roundFirst_spec (k : Tariff) (r : AcctRec) :
    (r.carryUp = 0 → (roundFirst k r).1 = 0 ∧ (roundFirst k r).2 = r.residue) ∧
    (r.carryUp ≠ 0 → k.upPrice * roundMult k r.lastClass + r.residue = 256 * (roundFirst k r).1 + (roundFirst k r).2 ∧
      (roundFirst k r).2 < 256) := roundPart_spec _ _ _ _

theorem roundSecond_spec (k : Tariff) (r : AcctRec) :
    (r.carryDown = 0 → (roundSecond k r).1 = 0 ∧ (roundSecond k r).2 = (roundFirst k r).2) ∧
    (r.carryDown ≠ 0 → k.downPrice * roundMult k r.lastClass + (roundFirst k r).2 =
      256 * (roundSecond k r).1 + (roundSecond k r).2 ∧ (roundSecond k r).2 < 256) := roundPart_spec _ _ _ _

theorem roundUp_charge (k : Tariff) (r : AcctRec) :
    (roundUp k r).2 = (roundFirst k r).1 + (roundSecond k r).1 + (if (roundSecond k r).2 = 0 then 0 else 1) := by
  have hcu : (roundUp k r).2 = (roundFirst k r).1 + (roundSecond k r).1 + (if 0 < (roundSecond k r).2 then 1 else 0) := rfl
  rw [hcu]
  split <;> split <;> omega

theorem roundUp_record (k : Tariff) (r : AcctRec) :
    (roundUp k r).1 = { r with
      carryUp := 0, carryDown := 0, residue := 0
      used := min max48 (r.used + (roundUp k r).2)
      total := min max48 (r.total + (roundUp k r).2)
      credit := if r.cls = clsRoamer ∨ r.cls = clsPack
        then creditOf r.cls r.grant (min max48 (r.used + (roundUp k r).2)) r.low else r.credit } := by
  simp [roundUp, satAdd, creditControlled]

/-- Settles O42: two steps of the round-up, and one cu for a residue then left. -/
theorem roundUpChargesOneBlock : Obligations.RoundUpChargesOneBlock := by
  intro k r hup hdown hmults hres
  have hm := roundMult_le hmults r.lastClass
  obtain ⟨hup0, hup1⟩ := roundFirst_spec k r
  obtain ⟨hdown0, hdown1⟩ := roundSecond_spec k r
  have hcharge := roundUp_charge k r
  rw [roundUp_record]
  refine ⟨rfl, rfl, rfl, ⟨roundMult k r.lastClass, (roundFirst k r).1, (roundFirst k r).2, (roundSecond k r).1,
    (roundSecond k r).2, ?_, hup0, hup1, hdown0, hdown1, hcharge⟩, fun hu hd hr => ?_, ?_, rfl, rfl, rfl, rfl, rfl, rfl, rfl,
    rfl, rfl, rfl⟩
  · unfold roundMult
    split <;> rfl
  · have hfirst := hup0 hu
    have hsecond := hdown0 hd
    rw [hcharge, if_pos (by omega)]
    omega
  · have hfirst : 256 * (roundFirst k r).1 + (roundFirst k r).2 ≤ 1023000000 + r.residue :=
      roundPart_le r.carryUp r.residue hup hm
    have hsecond : 256 * (roundSecond k r).1 + (roundSecond k r).2 ≤ 1023000000 + (roundFirst k r).2 :=
      roundPart_le r.carryDown (roundFirst k r).2 hdown hm
    have hrest : (if (roundSecond k r).2 = 0 then 0 else 1) ≤ (roundSecond k r).2 := by split <;> omega
    have hone : (if (roundSecond k r).2 = 0 then 0 else 1) ≤ 1 := by split <;> omega
    omega

/-! ### The account record -/

theorem length_leBytes (n v : Nat) : (leBytes n v).length = n := by
  induction n generalizing v with
  | zero => rfl
  | succ n ih => simp [leBytes, ih]

/-- The bytes of the number that a list of bytes spells are those bytes. -/
theorem leBytes_leNat (b : List Byte) : leBytes b.length (leNat b) = b := by
  induction b with
  | nil => rfl
  | cons x b ih =>
    have hx : x.toNat < 256 := x.isLt
    have hdiv : (x.toNat + 256 * leNat b) / 256 = leNat b := by omega
    have hmod : BitVec.ofNat 8 (x.toNat + 256 * leNat b) = x := by
      apply BitVec.eq_of_toNat_eq
      simp
      omega
    simp [leNat, leBytes, hdiv, hmod, ih]

/-- The field of `size` bytes at `off`, written again, is the bytes it was read from. -/
theorem leBytes_field (b : List Byte) (off size : Nat) (h : off + size ≤ b.length) :
    leBytes size (field b off size) = (b.drop off).take size := by
  have hlen : ((b.drop off).take size).length = size := by simp; omega
  have := leBytes_leNat ((b.drop off).take size)
  rwa [hlen] at this

theorem take_append_field (b : List Byte) (off size : Nat) (h : off + size ≤ b.length) :
    b.take off ++ leBytes size (field b off size) = b.take (off + size) := by
  rw [leBytes_field b off size h, List.take_add]

/-- The fields of an account record stand one behind the other: what `f` gives for each of them, joined, is what `t` gives
for all 64 bytes, where each field joined to what stands before it is what stands before the next. -/
theorem fields_joined (t : Nat → List Byte) (f : Nat → Nat → List Byte) (hstart : f 0 1 = t 1)
    (hstep : ∀ off size, off + size ≤ 64 → t off ++ f off size = t (off + size)) :
    f 0 1 ++ f 1 1 ++ f 2 1 ++ f 3 1 ++ f 4 1 ++ f 5 1 ++ f 6 2 ++ f 8 8 ++ f 16 6 ++ f 22 6 ++ f 28 4 ++ f 32 6 ++
      f 38 6 ++ f 44 6 ++ f 50 3 ++ f 53 3 ++ f 56 1 ++ f 57 1 ++ f 58 4 ++ f 62 1 ++ f 63 1 = t 64 := by
  simp only [hstart, hstep, Nat.reduceAdd, Nat.reduceLeDiff]

/-- Settles O50: each field is written as it was read. -/
theorem accountRecordRoundTrip : Obligations.AccountRecordRoundTrip := by
  intro b hb
  have hstep (off size : Nat) (h : off + size ≤ 64) := take_append_field b off size (h.trans hb.ge)
  have hall : b.take 64 = b := List.take_of_length_le (by omega)
  have hstart : leBytes 1 (field b 0 1) = b.take 1 := by simpa using hstep 0 1 (by omega)
  have hjoined := fields_joined (fun n => b.take n) (fun off size => leBytes size (field b off size)) hstart hstep
  exact hjoined.trans hall

/-! ### An addition to an accumulator (R172) -/

/-- Settles O51. -/
theorem additionSaturates : Obligations.AdditionSaturates := by
  intro pair charge up down events s
  refine ⟨fun j hj => by simp [addAccum, hj], _, rfl, ?_⟩
  simp [addAccum, satAdd, or_assoc]
  simp [max64, max32]

end Sys2Proof.Machine
end

section
/-! Commands of the ring that complete within their event, and what the end of an event leaves alone: shared by the statements
about the commands. -/

namespace Sys2Proof.Machine

/-! ### A command that has begun -/

/-- The command in progress once its record has been fetched. -/
def begunJob (r : Request) (notify : Bool) (addr index size : Nat) : Job :=
  { request := some r, code := requestCode r, notify := notify, addr := addr, index := index, size := size, done := none }

@[simp] theorem commandBegun_frame (r : Request) (notify : Bool) (addr index size : Nat) (s : State) :
    let t := commandBegun r notify addr index size s
    SameTime s t ∧ t.pos = s.pos ∧ t.cov = s.cov ∧ t.sup = s.sup ∧ t.relay = s.relay ∧ SameBooks s t ∧ SameRun s t ∧
    t.rep = s.rep ∧ t.cmd.job = some (begunJob r notify addr index size) := by
  simp [commandBegun, begunJob]

/-- A command whose block completes it within the event: its row is the block's work and the end of the event. -/
theorem exec_ringRow_completes {r : Request} {notify : Bool} {addr index size : Nat} {s v : State} {st : Status}
    {vals : List (Nat × Nat)} (hf : fetchReturns s addr index size)
    (hhand : handCommand r (commandBegun r notify addr index size s) = complete st vals [] v)
    (hjob : v.cmd.job = some (begunJob r notify addr index size)) (hclock : v.clock = s.clock) :
    exec (ringRow notify r) s = .next (settleEvent s (complete st vals [] v)) ∧
      completed (settleEvent s (complete st vals [] v)) addr (completion st vals s.clock) ∧
      keeps (keptBy (ringRow notify r)) s (settleEvent s (complete st vals [] v)) := by
  have hexec := exec_ringRow_of_fetchReturns hf r notify
  rw [hhand] at hexec
  refine ⟨hexec, ?_, rowFrames _ _ _ hexec⟩
  rw [← hclock]
  exact (complete_completed hjob rfl st vals).mono (settleEvent_grows _ (grows.refl _)) (by simp)

/-- What such a command makes of the parts that no completion and no end of an event moves. -/
theorem exec_ringRow_moves {r : Request} {notify : Bool} {addr index size : Nat} {s v : State} {st : Status}
    {vals : List (Nat × Nat)} (hf : fetchReturns s addr index size)
    (hhand : handCommand r (commandBegun r notify addr index size s) = complete st vals [] v)
    (hjob : v.cmd.job = some (begunJob r notify addr index size)) (hclock : v.clock = s.clock) :
    ∃ t, exec (ringRow notify r) s = .next t ∧ t.pos = v.pos ∧ t.cov = v.cov ∧ t.gate = v.gate ∧ t.rate = v.rate ∧
      t.settle = v.settle ∧ completed t addr (completion st vals s.clock) ∧ keeps (keptBy (ringRow notify r)) s t := by
  obtain ⟨hexec, hdone, hkeeps⟩ := exec_ringRow_completes hf hhand hjob hclock
  exact ⟨_, hexec, by simp, by simp, by simp, by simp, by simp, hdone, hkeeps⟩

/-! ### The end of an event in which no dispatch pass starts -/

theorem settleEvent_keeps_links {old s : State} (h : passStarts old s = false) :
    keeps [.clock, .settings, .position, .coverage, .links, .capture, .rating, .settlement, .engine, .reports] s
      (settleEvent old s) := by
  obtain ⟨hsup, hcmd, -⟩ := settleEvent_quiet h
  simp [Part.same, hsup, hcmd]

end Sys2Proof.Machine
end

section
/-! The statements of chapter 01, Positions and Zones: the receiver and the frames it completes (R1, R3), fixes (R4, R5, R7),
the zone tracker (R12 to R14) and the zone table (R8 to R10). -/

namespace Sys2Proof.Machine

/-! ### The receiver (R1) -/

theorem exec_navByte (b : Byte) (s : State) : exec (.navByte b) s = .next (settleEvent s (navByte b s)) := rfl

theorem rxByte_body (buf : List Byte) (b : Byte) : rxByte (.body, buf) b = (.body, buf ++ [b]) := rfl

/-- A byte that completes no frame only moves the receiver. -/
theorem navByte_of_incomplete {b : Byte} {s : State} (h : ¬(s.pos.rx = .body ∧ s.pos.buf.length = 12)) :
    navByte b s = setRx (rxByte (s.pos.rx, s.pos.buf) b) s := by
  unfold navByte
  refine if_neg ?_
  rintro ⟨hbody, hlen⟩
  cases hrx : s.pos.rx with
  | hunt =>
    simp only [rxByte, hrx] at hbody
    split at hbody <;> cases hbody
  | sync =>
    simp only [rxByte, hrx] at hbody hlen
    split at hlen
    · simp at hlen
    · split at hlen <;> simp at hlen
  | body => exact h ⟨hrx, by simpa [rxByte, hrx] using hlen⟩

theorem navByte_of_complete {b : Byte} {s : State} (hrx : s.pos.rx = .body) (hlen : s.pos.buf.length = 12) :
    navByte b s = judgeFrame (s.pos.buf ++ [b]) s := by
  unfold navByte
  rw [hrx, rxByte_body]
  exact if_pos ⟨rfl, by simp [hlen]⟩

theorem settleEvent_keeps_of_still {old s : State} (hs : s.sup = old.sup) (hr : s.relay = old.relay) :
    keeps [.clock, .settings, .position, .coverage, .links, .capture, .rating, .settlement, .engine, .reports] s
      (settleEvent old s) :=
  settleEvent_keeps_links (passStarts_eq_false hs (by rw [hr]) (by rw [hr]) (by rw [hr]))

/-- A byte that moves nothing but the Position Unit. -/
theorem settleEvent_keeps_position {s u : State} (h : u = { s with pos := u.pos }) :
    (settleEvent s u).pos = u.pos ∧
    keeps [.clock, .settings, .coverage, .links, .capture, .rating, .settlement, .engine, .reports] s (settleEvent s u) := by
  have hstill := settleEvent_keeps_of_still (old := s) (s := u) (by rw [h]) (by rw [h])
  refine ⟨hstill.2 .position (by simp), keeps.trans (t := u) ?_ (hstill.mono (by simp))⟩
  rw [h]
  simp [Part.same]

/-- Settles O11: one case for each state of the receiver. -/
theorem navByteMovesReceiver : Obligations.NavByteMovesReceiver := by
  intro b s h
  rw [exec_navByte, navByte_of_incomplete h]
  obtain ⟨hpos, hkeeps⟩ := settleEvent_keeps_position (s := s) (u := setRx (rxByte (s.pos.rx, s.pos.buf) b) s) rfl
  refine ⟨_, rfl, hpos.trans ?_, hkeeps⟩
  cases hrx : s.pos.rx with
  | hunt =>
    simp only [setRx, rxByte]
    split <;> rfl
  | sync =>
    simp only [setRx, rxByte]
    split
    · rfl
    · split <;> rfl
  | body => simp [setRx, rxByte]

/-! ### The zone tracker (R12, R13) -/

/-- The candidate depends on the zone table only (R11). -/
theorem candidate_congr {s t : State} (h : t.pos.zones = s.pos.zones) : candidate t = candidate s := by
  have hprio : priorityOf t = priorityOf s := by funext i; simp [priorityOf, h]
  have hmatch : matchesBox t = matchesBox s := by funext lat lon i; simp [matchesBox, h]
  have hbetter : better t = better s := by funext b i; simp [better, hprio]
  have hzero : zoneZeroReady t = zoneZeroReady s := by simp [zoneZeroReady, h]
  funext lat lon
  simp [candidate, hmatch, hbetter, hzero]

theorem trackerAfter_congr {s t : State} (htr : trackerOf t = trackerOf s) (hz : t.pos.zones = s.pos.zones)
    (hc : t.clock = s.clock) : trackerAfter t = trackerAfter s := by
  have hdwell : dwellOf t = dwellOf s := by funext z; simp [dwellOf, hz]
  have helapsed : elapsed t = elapsed s := by funext z; simp [elapsed, hc]
  funext c
  simp only [trackerAfter, htr, hdwell, helapsed, hc]

/-- The Position Unit with the zone tracker at `k`. -/
def withTracker (p : Position) (k : Tracker) : Position :=
  { p with current := k.current, pendingZone := k.pending, pendingSince := k.since, rezone := k.rezone }

theorem becomeCurrent_pos (z : Nat) (cause : ZoneCause) (coords : Option (Int × Int)) (s : State) :
    (becomeCurrent z cause coords s).pos = { s.pos with current := some z, pendingZone := none } := by
  simp [becomeCurrent]

/-- Since when zone `c` is pending, where it is evaluated now (R12 step 2). -/
def sinceFor (c : Nat) (s : State) : Time := if s.pos.pendingZone = some c then s.pos.pendingSince else s.clock

/-- Zone `c` is pending (R12 step 2). -/
def pendingOn (c : Nat) (s : State) : State :=
  { s with pos := { s.pos with pendingZone := some c, pendingSince := sinceFor c s } }

theorem evaluatePending_eq (c : Nat) (lat lon : Int) (s : State) :
    evaluatePending c lat lon s = if dwellOf s c ≤ elapsed s (sinceFor c s)
      then becomeCurrent c .dwell (some (lat, lon)) (pendingOn c s) else pendingOn c s := by
  have hpending : (if s.pos.pendingZone = some c then s
      else { s with pos := { s.pos with pendingZone := some c, pendingSince := s.clock } }) = pendingOn c s := by
    unfold pendingOn sinceFor
    split
    · rename_i h
      rw [← h]
    · rfl
  unfold evaluatePending
  simp only [hpending]
  rfl

theorem evaluatePending_pos (c : Nat) (lat lon : Int) (s : State) :
    (evaluatePending c lat lon s).pos = withTracker s.pos
      (if dwellOf s c ≤ elapsed s (sinceFor c s)
       then { trackerOf s with current := some c, pending := none, since := sinceFor c s }
       else { trackerOf s with pending := some c, since := sinceFor c s }) := by
  rw [evaluatePending_eq]
  split
  · rw [becomeCurrent_pos]
    rfl
  · rfl

/-- The zone tracker moves as R12 and R13 state, and nothing else of the Position Unit does. -/
theorem evaluateZone_pos (lat lon : Int) (s : State) :
    (evaluateZone lat lon s).pos = withTracker s.pos (trackerAfter s (candidate s lat lon)) := by
  cases hcur : s.pos.current with
  | none =>
    have hstays : evaluateZone lat lon s = s := by simp [evaluateZone, hcur]
    have hnone : trackerAfter s (candidate s lat lon) = trackerOf s := by simp [trackerAfter, trackerOf, hcur]
    rw [hstays, hnone]
    rfl
  | some cur =>
    cases hcand : candidate s lat lon with
    | none => simp [evaluateZone, hcur, hcand, trackerAfter, trackerOf, withTracker]
    | some c =>
      by_cases hrezone : s.pos.rezone = true
      · simp [evaluateZone, hcur, hcand, trackerAfter, trackerOf, withTracker, hrezone, becomeCurrent_pos]
      · by_cases hc : c = cur
        · simp [evaluateZone, hcur, hcand, trackerAfter, trackerOf, withTracker, hrezone, hc]
        · simp [evaluateZone, hcur, hcand, trackerAfter, trackerOf, withTracker, hrezone, hc, evaluatePending_pos, sinceFor]

/-! ### Fixes (R3 to R5) -/

theorem positionValid_pos (s : State) : (positionValid s).pos = { s.pos with st := .valid } := by
  cases hst : s.pos.st <;> simp [positionValid, hst, positionReport]

/-- The Position Unit after it has taken this fix, before the zone tracker evaluates it (R4). -/
def fixTaken (quality : Nat) (lat lon : Int) (source : FixSource) (s : State) : Position :=
  { s.pos with
    fix := some { quality := quality, lat := lat, lon := lon, source := source, time := s.clock }
    st := .valid
    discards := 0
    lineSeen := if source = .line then true else s.pos.lineSeen
    lineTime := if source = .line then s.clock else s.pos.lineTime }

/-- A usable fix is taken, and the zone tracker evaluates it. -/
theorem takeFix_pos (quality : Nat) (lat lon : Int) (source : FixSource) (s : State) :
    (takeFix quality lat lon source s).pos =
      withTracker (fixTaken quality lat lon source s) (trackerAfter s (candidate s lat lon)) := by
  unfold takeFix
  dsimp only
  rw [evaluateZone_pos, candidate_congr (s := s), trackerAfter_congr (s := s)]
  · split <;> simp [fixTaken, positionValid_pos, withTracker, *]
  · split <;> simp [trackerOf, positionValid_pos]
  · split <;> simp
  · split <;> simp
  · split <;> simp

theorem trackerOf_takeFix (quality : Nat) (lat lon : Int) (source : FixSource) (s : State) :
    trackerOf (takeFix quality lat lon source s) = trackerAfter s (candidate s lat lon) := by
  simp [trackerOf, takeFix_pos, withTracker]

/-- A frame that is used is taken as a fix of the line (R3). -/
theorem judgeFrame_of_used {f : List Byte} {s : State} (h : frameUsed s f = true) :
    judgeFrame f s = takeFix (field f 2 1) (frameLat f) (frameLon f) .line (setRx (.hunt, []) s) := by
  simp only [frameUsed, frameSumOk, Bool.and_eq_true, beq_iff_eq] at h
  obtain ⟨⟨hsum, htype⟩, husable⟩ := h
  unfold judgeFrame
  rw [if_neg (not_not.2 hsum), if_neg (not_not.2 htype), if_pos (by exact husable)]
  rfl

/-- Any other frame is discarded; where its checksum does not match, its bytes are taken again (R3, R4). -/
theorem judgeFrame_of_not_used {f : List Byte} {s : State} (h : frameUsed s f = false) :
    judgeFrame f s = discard (setRx (if frameSumOk f then (.hunt, []) else f.foldl rxByte (.hunt, [])) s) := by
  by_cases hsum : frameSumOk f = true
  · rw [if_pos hsum]
    simp only [frameUsed, hsum, Bool.true_and] at h
    simp only [frameSumOk, beq_iff_eq] at hsum
    unfold judgeFrame
    rw [if_neg (not_not.2 hsum)]
    split
    · rfl
    · rename_i htype
      simp only [not_not.1 htype, beq_self_eq_true, Bool.true_and] at h
      exact if_neg (by rw [Bool.not_eq_true]; exact h)
  · rw [if_neg hsum]
    simp only [frameSumOk, beq_iff_eq] at hsum
    unfold judgeFrame
    exact if_pos hsum

/-- Settles O12: the frame that completes is judged, and nothing after it moves the Position Unit. -/
theorem completeFrameIsJudged : Obligations.CompleteFrameIsJudged := by
  refine ⟨fun b s hrx hlen hused => ?_, fun b s hrx hlen hnot => ?_⟩
  · have hjudged := (navByte_of_complete (b := b) hrx hlen).trans (judgeFrame_of_used hused)
    have hpos := ((settleEvent_keeps s (navByte b s)).2 .position (by simp)).trans
      ((congrArg State.pos hjudged).trans (takeFix_pos _ _ _ _ _))
    refine ⟨_, exec_navByte b s, congrArg Position.fix hpos, congrArg Position.st hpos, congrArg Position.discards hpos,
      congrArg Position.lineSeen hpos, congrArg Position.lineTime hpos, congrArg Position.rx hpos,
      congrArg Position.buf hpos, ?_, (congrArg Position.zones hpos :), after_keeps (.navByte b) s⟩
    simp only [trackerOf, hpos]
    rfl
  · obtain ⟨hpos, hkeeps⟩ := settleEvent_keeps_position (s := s) (u := navByte b s) (by
      rw [navByte_of_complete hrx hlen, judgeFrame_of_not_used hnot]; rfl)
    refine ⟨_, exec_navByte b s, hpos.trans ?_, hkeeps⟩
    rw [navByte_of_complete hrx hlen, judgeFrame_of_not_used hnot]
    split <;> simp [discard, setRx, *]

/-- Settles O13. -/
theorem fixLossEntersLost : Obligations.FixLossEntersLost := by
  have hexec (s : State) : exec .fixLossExpiry s = .next (fixLossExpiry s) := rfl
  have hstays {s : State} (h : fixLossDue s = false) : exec .fixLossExpiry s = .next s := by
    rw [hexec, fixLossExpiry, if_neg (by simp [h])]
  refine ⟨fun s hst => hstays (by simp [fixLossDue, hst]), fun f s hf => ⟨fun hst hdue => ?_, fun h => hstays ?_⟩⟩
  · have hfix : fixLossDue s = true := by simp [fixLossDue, hst, hf, hdue]
    refine ⟨_, hexec s, ?_, after_keeps .fixLossExpiry s⟩
    rw [fixLossExpiry, if_pos hfix]
    simp [positionReport]
  · obtain hst | hearly := h
    · simp [fixLossDue, hst]
    · simp [fixLossDue, hf, hearly]

/-! ### POSITION (R7) -/

/-- A software fix in its range is taken where its quality suffices, and counted as a discard otherwise. -/
def judgeFix (q : Nat) (lat lon : Int) (s : State) : State :=
  if s.pos.minQuality ≤ q then takeFix q lat lon .software s else discard s

theorem judgeFix_frame (q : Nat) (lat lon : Int) (s : State) :
    (judgeFix q lat lon s).clock = s.clock ∧ (judgeFix q lat lon s).cmd = s.cmd := by
  unfold judgeFix
  split <;> simp [discard]

/-- The results of POSITION, with the values after it. -/
def positionResults (used : Bool) (s : State) : List (Nat × Nat) :=
  [(1, yesNo used), (1, posCode s.pos.st), (1, orNone s.pos.current), (1, orNone s.pos.pendingZone), (2, s.pos.discards)]

theorem handCommand_position {p : PositionParams} {s : State} (hrun : s.cmd.run ≠ .halted) (hline : lineActive s = false)
    (hq : p.quality.toNat ≤ 3) (hin : inRange p.lat.toInt p.lon.toInt = true) :
    handCommand (.position p) s = complete .ok
      (positionResults (decide (s.pos.minQuality ≤ p.quality.toNat)) (judgeFix p.quality.toNat p.lat.toInt p.lon.toInt s)) []
      (judgeFix p.quality.toNat p.lat.toInt p.lon.toInt s) := by
  have hgood : ¬ (3 < p.quality.toNat ∨ inRange p.lat.toInt p.lon.toInt = false) := by simp [hin]; omega
  have hgoes : ¬ halted s = true := by simpa [halted] using hrun
  simp only [handCommand, doPosition, if_neg hgoes, hline, if_neg hgood, decide_eq_true_eq]
  rfl

theorem lineActive_congr {s t : State} (hpos : t.pos = s.pos) (hclock : t.clock = s.clock) : lineActive t = lineActive s := by
  unfold lineActive elapsed
  rw [hpos, hclock]

/-- Settles O15: the fix is taken or counted as a discard, and the command completes. -/
theorem positionTakesFix : Obligations.PositionTakesFix := by
  intro n p s addr index size hf hrun hline hq hin
  obtain ⟨hclock, hcmd⟩ := judgeFix_frame p.quality.toNat p.lat.toInt p.lon.toInt (commandBegun (.position p) n addr index size s)
  obtain ⟨t, hexec, hpos, -, -, -, -, hdone, hkeeps⟩ := exec_ringRow_moves hf
    (handCommand_position (by simpa using hrun) (by rw [← hline]; exact lineActive_congr (by simp) (by simp)) hq hin)
    (by rw [hcmd]; simp) (by rw [hclock]; simp)
  have hstart : (commandBegun (.position p) n addr index size s).pos = s.pos := by simp
  simp only [positionResults, hstart, ← hpos] at hdone
  simp only [judgeFix, hstart] at hpos
  refine ⟨t, hexec, fun huse => ?_, fun huse => ?_, ?_, ?_, ?_, hdone, hkeeps⟩
  · rw [if_pos huse, takeFix_pos] at hpos
    refine ⟨by simp [hpos, withTracker, fixTaken], congrArg Position.st hpos, congrArg Position.discards hpos, ?_⟩
    simp only [trackerOf, hpos, withTracker]
    rw [candidate_congr (s := s) (by rw [hstart]), trackerAfter_congr (s := s) (by simp [trackerOf]) (by simp) (by simp)]
  · rw [if_neg (by omega)] at hpos
    simpa [discard] using hpos
  all_goals split at hpos <;> simp [hpos, discard, takeFix_pos, withTracker, fixTaken]

/-! ### Coverage that no opening test opens (R23) -/

/-- No opening test passes: the state is not DARK, or the published attribute is not SERVE (R20, R23). -/
def Shut (s : State) : Prop := s.cov.st ≠ .dark ∨ (published s).map Zone.cover ≠ some .serve

theorem openingTest_of_shut {s : State} (h : Shut s) : openingTest s = s := by
  have hfails : openingTestPasses s = false := by
    obtain hst | hcover := h
    · simp [openingTestPasses, hst]
    · simp [openingTestPasses, allowed, hcover]
  simp [openingTest, hfails]

/-- Coverage is the same but for the view of the backhaul. -/
def sameButBackhaul (s t : State) : Prop :=
  t.cov.st = s.cov.st ∧ t.cov.hold = s.cov.hold ∧ t.cov.darkSince = s.cov.darkSince ∧
    t.cov.openingSince = s.cov.openingSince ∧ t.cov.closingSince = s.cov.closingSince

theorem covBackhaul_of_shut {s : State} (h : Shut s) (present : Bool) : sameButBackhaul s (covBackhaul present s) := by
  have hopen : openingTest { s with cov := { s.cov with view := true } } = { s with cov := { s.cov with view := true } } :=
    openingTest_of_shut h
  unfold covBackhaul
  split
  · simp [sameButBackhaul]
  · split
    · simp [sameButBackhaul, hopen]
    · simp [sameButBackhaul]

/-- The selector works on the Coverage Controller through the backhaul only, and opens nothing that is shut. -/
theorem selectorEval_of_shut {s : State} (h : Shut s) : sameButBackhaul s (selectorEval s) := by
  have hpublish {u : State} (hpos : u.pos = s.pos) (hcov : u.cov = s.cov) : sameButBackhaul s (publishBackhaul u) := by
    unfold publishBackhaul
    split
    · simp [sameButBackhaul, hcov]
    · have hshut : Shut { u with sup := { u.sup with backhaul := backhaulPresent u } } := by
        simpa [Shut, published, hpos, hcov] using h
      simpa [sameButBackhaul, hcov] using covBackhaul_of_shut hshut (backhaulPresent u)
  unfold selectorEval
  split
  · simp [sameButBackhaul]
  · refine hpublish ?_ ?_ <;> split <;> simp

/-! ### The published attribute (R27) -/

theorem covDark_of_cover {c : CovCause} {s : State} (h : (published s).map Zone.cover ≠ some .serve) :
    covDark c s = covMove .dark c s := by
  have hpub : (published (covMove .dark c s)).map Zone.cover ≠ some .serve := by simpa [published] using h
  have hshut : openingTest (covMove .dark c s) = covMove .dark c s := openingTest_of_shut (.inr hpub)
  unfold covDark
  dsimp only
  split
  · exact hshut
  · rfl

theorem covAttr_serve {s : State} (h : s.cov.st ≠ .dark) : covAttr .serve s = s := by
  cases hst : s.cov.st with
  | dark => exact absurd hst h
  | _ => simp [covAttr, hst]

theorem covAttr_close_cov {s : State} (h : (published s).map Zone.cover ≠ some .serve) :
    (covAttr .close s).cov = match s.cov.st with
      | .opening => { s.cov with st := .dark, darkSince := s.clock }
      | .serving => { s.cov with st := .closing, closingSince := s.clock }
      | .dark => s.cov
      | .closing => s.cov := by
  cases hst : s.cov.st <;> simp [covAttr, hst, covDark_of_cover h]

theorem covAttr_quiet_cov {s : State} (h : (published s).map Zone.cover ≠ some .serve) :
    (covAttr .quiet s).cov = if s.cov.st = .dark then s.cov else { s.cov with st := .dark, darkSince := s.clock } := by
  cases hst : s.cov.st <;> simp [covAttr, hst, covDark_of_cover h]

/-! ### Publishing a zone (R15) -/

theorem publishZone_region {s : State} {z : Zone} (h : published s = some z) (cause : ZoneCause) (prev : Option Nat)
    (coords : Option (Int × Int)) : (publishZone cause prev coords s).settle.region = some z.region := by
  simp [publishZone, h, settlePublish]

/-- What a published cover attribute does in each coverage state (R27). -/
def coverTaken (s t : State) (c : Cover) : Prop :=
  t.cov.hold = s.cov.hold ∧
  (c = .serve → s.cov.st ≠ .dark → t.cov.st = s.cov.st) ∧
  (c = .close →
    t.cov.st = (match s.cov.st with
      | .opening => .dark
      | .serving => .closing
      | .dark => .dark
      | .closing => .closing) ∧
    t.cov.darkSince = (if s.cov.st = .opening then s.clock else s.cov.darkSince) ∧
    t.cov.closingSince = (if s.cov.st = .serving then s.clock else s.cov.closingSince)) ∧
  (c = .quiet →
    t.cov.st = .dark ∧ t.cov.darkSince = (if s.cov.st = .dark then s.cov.darkSince else s.clock) ∧
    t.cov.closingSince = s.cov.closingSince)

theorem covAttr_taken {s : State} {c : Cover} (h : (published s).map Zone.cover = some c) : coverTaken s (covAttr c s) c := by
  refine ⟨by simp, fun hc hst => ?_, fun hc => ?_, fun hc => ?_⟩ <;> subst hc
  · rw [covAttr_serve hst]
  · rw [covAttr_close_cov (by simp [h])]
    cases hst : s.cov.st <;> simp [hst]
  · rw [covAttr_quiet_cov (by simp [h])]
    by_cases hst : s.cov.st = .dark <;> simp [hst]

theorem coverTaken.trans {s t u : State} {c : Cover} (h : coverTaken s t c) (hu : sameButBackhaul t u) : coverTaken s u c := by
  obtain ⟨h1, h2, h3, h4⟩ := h
  obtain ⟨hst, hhold, hdark, -, hclosing⟩ := hu
  exact ⟨hhold.trans h1, by rwa [hst], by rwa [hst, hdark, hclosing], by rwa [hst, hdark, hclosing]⟩

theorem publishZone_taken {s : State} {z : Zone} (h : published s = some z) (cause : ZoneCause) (prev : Option Nat)
    (coords : Option (Int × Int)) : coverTaken s (publishZone cause prev coords s) z.cover := by
  let r := zoneReport z cause prev coords s
  have hcov : r.cov = s.cov := by simp [r]
  have hclock : r.clock = s.clock := by simp [r]
  have hpub : (published r).map Zone.cover = some z.cover := by simpa [r, published] using congrArg (Option.map Zone.cover) h
  have hzone : (publishZone cause prev coords s).cov = (selectorEval (covAttr z.cover r)).cov := by
    simp [publishZone, h, r]
  have htaken : coverTaken s (covAttr z.cover r) z.cover := by
    simpa only [coverTaken, hcov, hclock] using covAttr_taken hpub
  have hdone : coverTaken s (selectorEval (covAttr z.cover r)) z.cover := by
    by_cases hopen : z.cover = .serve ∧ s.cov.st = .dark
    · obtain ⟨hserve, hdark⟩ := hopen
      refine ⟨by simp [hcov], fun _ hne => absurd hdark hne, fun hc => ?_, fun hc => ?_⟩ <;> rw [hserve] at hc <;> cases hc
    · refine htaken.trans (selectorEval_of_shut ?_)
      by_cases hserve : z.cover = .serve
      · have hst : s.cov.st ≠ .dark := fun hd => hopen ⟨hserve, hd⟩
        refine .inl ?_
        rwa [htaken.2.1 hserve hst]
      · refine .inr ?_
        have hsame : published (covAttr z.cover r) = published r := by simp [published]
        rw [hsame, hpub]
        simpa using hserve
  simpa only [coverTaken, hzone] using hdone

/-! ### LOAD_ZONE (R8 to R10) -/

/-- A load of record `i` makes zone 0 current. -/
abbrev opensZone (i : Nat) (z : Zone) (s : State) : Prop := s.pos.current = none ∧ i = 0 ∧ z.enabled = true

/-- Record `i` of the zone table is `z`. -/
def zoneLoaded (i : Nat) (z : Zone) (s : State) : State :=
  { s with pos := { s.pos with zones := put s.pos.zones i (some z) } }

/-- The tracker as a load of the current zone leaves it (R10). -/
def currentLoaded (i : Nat) (z : Zone) (s : State) : State :=
  { zoneLoaded i z s with pos := { (zoneLoaded i z s).pos with pendingZone := none, rezone := !z.enabled } }

/-- The tracker as a first load of zone 0 leaves it (R9). -/
def zoneOpened (i : Nat) (z : Zone) (s : State) : State :=
  { zoneLoaded i z s with pos := { (zoneLoaded i z s).pos with current := some 0, pendingZone := none } }

theorem loadZone_of_opens {i : Nat} {z : Zone} {s : State} (h : opensZone i z s) :
    loadZone i z s = publishZone .default none none (zoneOpened i z s) := by
  obtain ⟨hcur, hi, hen⟩ := h
  simp [loadZone, hcur, hi, hen, becomeCurrent, zoneOpened, zoneLoaded]

theorem loadZone_of_current {i : Nat} {z : Zone} {s : State} (h : s.pos.current = some i) :
    loadZone i z s = publishZone .reload (some i) none (currentLoaded i z s) := by
  simp [loadZone, h, currentLoaded, zoneLoaded]

/-- Any other load touches the record and the pending zone only. -/
theorem loadZone_of_other {i : Nat} {z : Zone} {s : State} (ho : ¬ opensZone i z s) (hc : s.pos.current ≠ some i) :
    ∃ p, loadZone i z s = { zoneLoaded i z s with pos := { (zoneLoaded i z s).pos with pendingZone := p } } := by
  cases hcur : s.pos.current with
  | none =>
    have hno : ¬ (i = 0 ∧ z.enabled = true) := fun h => ho ⟨hcur, h⟩
    exact ⟨s.pos.pendingZone, by simp [loadZone, hcur, hno, zoneLoaded]⟩
  | some cur =>
    have hne : i ≠ cur := fun h => hc (h ▸ hcur)
    by_cases hp : s.pos.pendingZone = some i ∧ z.enabled = false
    · exact ⟨none, by simp [loadZone, hcur, hne, hp, zoneLoaded]⟩
    · exact ⟨s.pos.pendingZone, by simp [loadZone, hcur, hne, hp, zoneLoaded]⟩

theorem published_zoneOpened {i : Nat} {z : Zone} {s : State} (h : i = 0) : published (zoneOpened i z s) = some z := by
  simp [published, zoneOpened, zoneLoaded, h]

theorem published_currentLoaded {i : Nat} {z : Zone} {s : State} (h : s.pos.current = some i) :
    published (currentLoaded i z s) = some z := by
  simp [published, currentLoaded, zoneLoaded, h]

/-- What a load makes of the machine: the record, the tracker and what is published (R8 to R10, R27). -/
structure ZoneTaken (i : Nat) (z : Zone) (s t : State) : Prop where
  zones : t.pos.zones = put s.pos.zones i (some z)
  current : t.pos.current = if opensZone i z s then some 0 else s.pos.current
  rest : t.pos.fix = s.pos.fix ∧ t.pos.st = s.pos.st ∧ t.pos.discards = s.pos.discards
  reload : s.pos.current = some i → t.pos.pendingZone = none ∧ t.pos.rezone = !z.enabled
  opened : opensZone i z s → t.pos.pendingZone = none
  published : s.pos.current = some i ∨ opensZone i z s → t.settle.region = some z.region ∧ coverTaken s t z.cover

theorem loadZone_taken (i : Nat) (z : Zone) (s : State) : ZoneTaken i z s (loadZone i z s) := by
  by_cases ho : opensZone i z s
  · have hcur : s.pos.current ≠ some i := by simp [ho.1]
    have hpub := published_zoneOpened (z := z) (s := s) ho.2.1
    rw [loadZone_of_opens ho]
    exact { zones := by simp [zoneOpened, zoneLoaded]
            current := by simp [zoneOpened, ho]
            rest := by simp [zoneOpened, zoneLoaded]
            reload := fun h => absurd h hcur
            opened := fun _ => by simp [zoneOpened]
            published := fun _ => ⟨publishZone_region hpub _ _ _, publishZone_taken hpub _ _ _⟩ }
  · by_cases hc : s.pos.current = some i
    · have hpub := published_currentLoaded (z := z) hc
      rw [loadZone_of_current hc]
      exact { zones := by simp [currentLoaded, zoneLoaded]
              current := by simp [currentLoaded, zoneLoaded, ho]
              rest := by simp [currentLoaded, zoneLoaded]
              reload := fun _ => by simp [currentLoaded]
              opened := fun h => absurd h ho
              published := fun _ => ⟨publishZone_region hpub _ _ _, publishZone_taken hpub _ _ _⟩ }
    · obtain ⟨p, hp⟩ := loadZone_of_other ho hc
      rw [hp]
      exact { zones := rfl
              current := (if_neg ho).symm
              rest := ⟨rfl, rfl, rfl⟩
              reload := fun h => absurd h hc
              opened := fun h => absurd h ho
              published := fun h => absurd h (not_or.2 ⟨hc, ho⟩) }

theorem handCommand_loadZone {p : LoadZoneParams} {z : Zone} {s : State} (hrun : s.cmd.run ≠ .halted) (hz : zoneOf p = some z) :
    handCommand (.loadZone p) s = complete .ok [(4, z.dwell), (1, yesNo (s.pos.current == some p.index.toNat))] []
      (loadZone p.index.toNat z s) := by
  have hgoes : ¬ halted s = true := by simpa [halted] using hrun
  simp [handCommand, doLoadZone, hgoes, hz]

/-- Settles O16: what the load makes of the machine, and the completion after it. -/
theorem loadZoneLoadsAndPublishes : Obligations.LoadZoneLoadsAndPublishes := by
  intro n p z s addr index size hf hrun hz
  obtain ⟨t, hexec, hpos, hcov, -, -, hsettle, hdone, hkeeps⟩ := exec_ringRow_moves hf
    (handCommand_loadZone (by simpa using hrun) hz) (by simp) (by simp)
  have htaken : ZoneTaken p.index.toNat z s t := by
    have h := loadZone_taken p.index.toNat z (commandBegun (.loadZone p) n addr index size s)
    exact { zones := by simpa [hpos] using h.zones
            current := by simpa [hpos, opensZone] using h.current
            rest := by simpa [hpos] using h.rest
            reload := by simpa [hpos] using h.reload
            opened := by simpa [hpos, opensZone] using h.opened
            published := by simpa [hsettle, coverTaken, hcov, opensZone] using h.published }
  refine ⟨t, hexec, fun i => ?_, htaken.current, fun hc => ?_, fun h1 h2 h3 => ?_, fun h => ?_, htaken.rest.1,
    htaken.rest.2.1, htaken.rest.2.2, ?_, hkeeps⟩
  · simp [htaken.zones]
  · exact ⟨(htaken.reload hc).1, (htaken.reload hc).2, (htaken.published (.inl hc)).1⟩
  · exact ⟨htaken.opened ⟨h1, h2, h3⟩, (htaken.published (.inr ⟨h1, h2, h3⟩)).1⟩
  · exact (htaken.published h).2
  · simpa using hdone

end Sys2Proof.Machine
end

section
/-! The coverage expiries of chapter 02 (R21 to R26), and of chapter 03 own writes that wait (R47), the responses of passing
transactions (R35, R51), and own transactions answered ERROR (R52, R189). -/

namespace Sys2Proof.Machine

/-! ### DARK that no opening test ends within the event (R23, R26) -/

theorem openingTest_of_fails {s : State} (h : allowed s = false ∨ s.cov.view = false) : openingTest s = s := by
  have hfails : openingTestPasses s = false := by
    obtain h | h := h <;> simp [openingTestPasses, h]
  simp [openingTest, hfails]

theorem allowed_covMove (new : CovState) (c : CovCause) (s : State) : allowed (covMove new c s) = allowed s := by
  unfold allowed published lostBeyondGrace elapsed
  simp

theorem view_covMove (new : CovState) (c : CovCause) (s : State) : (covMove new c s).cov.view = s.cov.view := by
  cases new <;> simp

theorem covDark_of_fails {c : CovCause} {s : State} (h : allowed s = false ∨ s.cov.view = false) :
    covDark c s = covMove .dark c s := by
  have hstays : openingTest (covMove .dark c s) = covMove .dark c s :=
    openingTest_of_fails (by rwa [allowed_covMove, view_covMove])
  unfold covDark
  dsimp only
  split
  · exact hstays
  · rfl

/-- OPENING goes dark and SERVING to CLOSING (R24, R25). -/
theorem covClose_cov {c : CovCause} {s : State} (h : allowed s = false ∨ s.cov.view = false) :
    (covClose c s).cov = match s.cov.st with
      | .opening => { s.cov with st := .dark, darkSince := s.clock }
      | .serving => { s.cov with st := .closing, closingSince := s.clock }
      | .dark => s.cov
      | .closing => s.cov := by
  cases hst : s.cov.st <;> simp [covClose, hst, covDark_of_fails h]

/-! ### The expiries (R21 to R26) -/

theorem exec_lostGraceExpiry {s : State} (h : lostGraceDue s = true) :
    exec .lostGraceExpiry s = .next (covClose .position s) := by
  have : exec .lostGraceExpiry s = .next (lostGraceExpiry s) := rfl
  rw [this, lostGraceExpiry, if_pos h]

theorem exec_backhaulLossExpiry {s : State} (h : backhaulLossDue s = true) :
    exec .backhaulLossExpiry s = .next (covClose .backhaul s) := by
  have : exec .backhaulLossExpiry s = .next (backhaulLossExpiry s) := rfl
  rw [this, backhaulLossExpiry, if_pos h]

theorem exec_warmUpExpiry (s : State) : exec .warmUpExpiry s = .next (warmUpExpiry s) := rfl

theorem exec_drainExpiry (s : State) : exec .drainExpiry s = .next (drainExpiry s) := rfl

theorem exec_darkMinimumExpiry (s : State) : exec .darkMinimumExpiry s = .next (openingTest s) := rfl

/-- Settles O17: the two closing expiries together, then one part for each other expiry. -/
theorem coverageExpiries : Obligations.CoverageExpiries := by
  refine ⟨fun i s h => ?_, fun s => ⟨fun hst hdue => ?_, fun hst hdue hmin => ?_, fun hst hallowed hview hdue => ?_,
    fun hst h => ?_⟩⟩
  · obtain ⟨rfl, hlost, hgrace⟩ | ⟨rfl, hview, hlimit⟩ := h
    · have hbeyond : lostBeyondGrace s = true := by simp [lostBeyondGrace, hlost, hgrace]
      have hno : allowed s = false := by simp [allowed, hbeyond]
      have hexec := exec_lostGraceExpiry hbeyond
      exact ⟨_, hexec, covClose_cov (.inl hno), rowFrames _ _ _ hexec⟩
    · have hexec := exec_backhaulLossExpiry (s := s) (by simp [backhaulLossDue, hview, hlimit])
      exact ⟨_, hexec, covClose_cov (.inr hview), rowFrames _ _ _ hexec⟩
  · refine ⟨_, exec_warmUpExpiry s, ?_⟩
    have hwarm : warmUpDue s = true := by simp [warmUpDue, hst, hdue]
    by_cases hstands : openingStands s = true <;> simp [warmUpExpiry, hwarm, hstands]
  · refine ⟨_, exec_drainExpiry s, ?_⟩
    have hdrain : drainDue s = true := by simp [drainDue, hst, hdue]
    simp [drainExpiry, hdrain, covDark, hmin]
  · refine ⟨_, exec_darkMinimumExpiry s, ?_⟩
    have hpass : openingTestPasses s = true := by simp [openingTestPasses, hst, hallowed, hview, hdue]
    rw [openingTest_cov, if_pos hpass]
  · have hfails : openingTestPasses s = false := by
      obtain h | h | h := h
      · simp [openingTestPasses, h]
      · simp [openingTestPasses, h]
      · simp [openingTestPasses, h]
    rw [exec_darkMinimumExpiry, openingTest, if_neg (by simp [hfails])]

/-! ### Own writes that wait (R47) -/

/-- The dispatch pass that stopped at a write without room goes on once it has entered. -/
def resumed (w : OwnWrite) (s : State) : State :=
  if w.resume then dispatchPass { s with relay := { s.relay with suspended := false } } else s

theorem resumed_grows {r₀ : PathMonitor} (w : OwnWrite) {s : State} (h : grows r₀ s.path) : grows r₀ (resumed w s).path := by
  unfold resumed
  split
  · exact dispatchPass_grows h
  · exact h

theorem writeEntered_post {w : OwnWrite} {e k : Nat} (h : w.use = .post e k) (s : State) :
    writeEntered w s = if s.cmd.run = .running then resumed w (markPosted e k s) else s := by
  simp [writeEntered, h, resumed]

theorem writeEntered_slotBack {w : OwnWrite} {e : Nat} (h : w.use = .slotBack e) (s : State) :
    writeEntered w s = if s.cmd.run = .halted then s else resumed w (freeEntry e s) := by
  simp [writeEntered, h, resumed]

theorem writeEntered_reportRecord {w : OwnWrite} (h : w.use = .reportRecord) {s : State} {p : PendingWrite} {rest : List PendingWrite}
    (hp : s.rep.pend = p :: rest) :
    writeEntered w s = runReports { s with rep := { s.rep with pend := { p with recordIn := true } :: rest } } := by
  simp [writeEntered, h, hp]

theorem writeEntered_grows {r₀ : PathMonitor} (w : OwnWrite) {s : State} (h : grows r₀ s.path) :
    grows r₀ (writeEntered w s).path := by
  cases huse : w.use with
  | post e k =>
    rw [writeEntered_post huse]
    split
    · exact resumed_grows w (markPosted_grows _ _ h)
    · exact h
  | slotBack e =>
    rw [writeEntered_slotBack huse]
    split
    · exact h
    · exact resumed_grows w (freeEntry_grows _ h)
  | lineBack i => simpa [writeEntered, huse] using h
  | results => simpa [writeEntered, huse] using writeStatus_grows h
  | status => simpa [writeEntered, huse] using writeConsumer_grows h
  | consumerWord => simpa [writeEntered, huse] using finishJob_grows h
  | consumerReset => simpa [writeEntered, huse] using h
  | reportRecord =>
    cases hp : s.rep.pend with
    | nil => simpa [writeEntered, huse, hp] using h
    | cons p rest =>
      rw [writeEntered_reportRecord huse hp]
      exact runReports_grows h
  | producerWord v => simpa [writeEntered, huse] using runReports_grows (s := { s with rep := { s.rep with pend := s.rep.pend.tail } }) h

/-- Settles O28: the write enters, and what follows only adds to the queue and to the writes that wait. -/
theorem waitingWriteEnters : Obligations.WaitingWriteEnters := by
  intro w rest s hwaiting hroom
  have hdue : entryDue s = true := by simp [entryDue, hwaiting, hroom]
  have hexec : exec .ownWriteEntersQueue s = .next (ownWriteEnters s) := rfl
  have hkeeps := rowFrames _ _ _ hexec
  rw [ownWriteEnters, hwaiting] at hexec hkeeps
  simp only [hdue, if_true] at hexec hkeeps
  obtain ⟨⟨later, hqueue⟩, later', hwait⟩ := settleEvent_grows s (writeEntered_grows w (grows.refl { s.path with
    waiting := rest, queue := s.path.queue ++ [{ w with seq := s.path.seq }], seq := s.path.seq + 1 }) (s := { s with path := { s.path with
    waiting := rest, queue := s.path.queue ++ [{ w with seq := s.path.seq }], seq := s.path.seq + 1 } }))
  exact ⟨_, hexec, ⟨later, by simpa using hqueue⟩, ⟨later', hwait⟩, hkeeps⟩

/-! ### Responses of passing transactions (R35, R51) -/

theorem exec_passingResponse {s : State} {p : Passing} {rest : List Flight} (h : heard s = .passing p :: rest) (ok : Bool)
    (data : List Byte) :
    exec (.passingResponse ok data) s =
      if lengthOk p ok data then .next (passResponse p ok data s) else .fault .responseLength := by
  have hafter : after (.passingResponse ok data) s = passResponse p ok data s := by simp [after, h]
  rw [exec_eq, if_neg (by simp [Instr.wellFormed, Instr.txn]), ← hafter]
  simp [h]

/-- The response that is known at the front of the port's order is given (R35). -/
theorem flushOwed_of_known {s : State} {o : Owed} {owed : List Owed} {r : Response}
    (h : s.path.owed = { o with answer := some r } :: owed) :
    ∃ later, (flushOwed s).path.upOut = s.path.upOut ++ r :: later := by
  simp [flushOwed, h]

/-- Settles O29. -/
theorem passingResponseIsReturned : Obligations.PassingResponseIsReturned := by
  intro ok data p rest o owed s hheard howed hanswer
  have hexec := exec_passingResponse hheard ok data
  refine ⟨fun hlen => ?_, fun hlen => by rw [hexec, if_neg (by simp [hlen])]⟩
  rw [if_pos hlen] at hexec
  refine ⟨_, hexec, by simp [passResponse, flushOwed, answered, hheard], ?_, rowFrames _ _ _ hexec⟩
  exact flushOwed_of_known (o := o) (owed := owed) (by simp [answered, howed, fillOwed, hanswer, responseOf])

/-! ### Entry to HALTED (R189) -/

theorem haltCapture_waiting (s : State) : (haltCapture s).gate.waiting = none := by
  cases h : s.gate.waiting <;> simp [haltCapture, h]

theorem haltRating_requested (s : State) : (haltRating s).rate.requested = none := rfl

theorem haltScan_scan (s : State) : (haltScan s).acct.scan = none := by
  cases h : s.acct.scan <;> simp [haltScan, h, setAcct]

theorem haltCommand_acct (s : State) :
    (haltCommand s).acct.wait = none ∧ (haltCommand s).acct.scan = s.acct.scan := by
  cases h : s.acct.wait <;> simp [haltCommand, h, setAcct]

theorem haltWalk_walk (s : State) : (haltWalk s).settle.walk = none := by
  cases h : s.settle.walk with
  | none => simp [haltWalk, h]
  | some w => cases hc : w.stopCause <;> simp [haltWalk, h, hc]

theorem haltFlush_flush (s : State) : (haltFlush s).cache.flush = none := by
  cases h : s.cache.flush <;> simp [haltFlush, h]

/-- The part has halted: DARK, and every block has given up what it had under way (R189). -/
structure GivenUp (s : State) : Prop where
  run : s.cmd.run = .halted
  dark : s.cov.st = .dark
  rating : s.rate.requested = none
  scan : s.acct.scan = none
  wait : s.acct.wait = none
  walk : s.settle.walk = none
  flush : s.cache.flush = none
  waiting : s.gate.waiting = none

theorem enterHalted_givenUp (s : State) : GivenUp (enterHalted s) where
  run := by simp [enterHalted]
  dark := by simp [enterHalted, covLeaveRunning_dark]
  rating := by simp [enterHalted, haltRating_requested]
  scan := by simp [enterHalted, haltCommand_acct, haltScan_scan]
  wait := by simp [enterHalted, haltCommand_acct]
  walk := by simp [enterHalted, haltWalk_walk]
  flush := by simp [enterHalted, haltFlush_flush]
  waiting := by simp [enterHalted, haltCapture_waiting]

/-! ### An own transaction answered ERROR (R52) -/

theorem exec_ownTransactionError (n : Nat) (s : State) : exec (.ownTransactionError n) s = .next (ownError n s) := rfl

theorem abandon_of_halting (x : OwnTxn) {s : State}
    (h : s.cmd.run = .starting ∨ s.cmd.run = .running ∨ s.cmd.run = .stopping) : GivenUp (abandon x s) := by
  have hhalts : abandon x s = tellFailed x (enterHalted (memoryError x s)) := by
    obtain h | h | h := h <;> simp [abandon, h]
  obtain ⟨h1, h2, h3, h4, h5, h6, h7, h8⟩ := enterHalted_givenUp (memoryError x s)
  rw [hhalts]
  constructor <;> simpa

theorem abandon_run (x : OwnTxn) (s : State) :
    (abandon x s).cmd.run = if s.cmd.run = .stopped then .stopped else .halted := by
  cases hrun : s.cmd.run with
  | stopped => simp [abandon, hrun]
  | halted => simp [abandon, hrun]
  | starting => simpa using (abandon_of_halting x (.inl hrun)).run
  | running => simpa using (abandon_of_halting x (.inr (.inl hrun))).run
  | stopping => simpa using (abandon_of_halting x (.inr (.inr hrun))).run

/-- Settles O30: a first ERROR waits to be reissued; a second is abandoned. -/
theorem ownErrorIsRetriedOnce : Obligations.OwnErrorIsRetriedOnce := by
  intro x rest s
  refine ⟨fun hfront hrun => ?_, fun hfront => ?_⟩
  · simp [exec_ownTransactionError, ownError, hfront, hrun]
  · have hexec := exec_ownTransactionError 0 s
    have hgone : ownError 0 s = abandon x { s with path := { s.path with inFlight := rest } } := by
      simp [ownError, hfront]
    have hkeeps := rowFrames _ _ _ hexec
    rw [hgone] at hexec hkeeps
    refine ⟨_, hexec, by simp, by simp, abandon_run _ _, fun h => ?_, hkeeps⟩
    obtain ⟨-, hdark, hrating, hscan, hwait, hwalk, hflush, hwaiting⟩ := abandon_of_halting x (s := { s with path := { s.path with inFlight := rest } }) h
    exact ⟨hdark, hrating, hscan, hwait, hwalk, hflush, hwaiting⟩

end Sys2Proof.Machine
end

section
/-! The upstream port (chapter 03): how a transaction that finds the port free is dealt with, what one region alone makes of a
write, and how the head leaves. Then the statements about traffic that is not judged or is dropped (R35, R38, R41, R43 to
R46, R53). -/

namespace Sys2Proof.Machine

/-! ### A transaction at the free port (R35) -/

theorem arrive_of_portFree {s : State} (h : portFree s) (x : Txn) : arrive x s = dealWith x s := by
  obtain ⟨hhead, hup⟩ := h
  have hsame : { s with path := { s.path with head := none, upstream := [] } } = s := by rw [← hup, ← hhead]
  simp only [arrive, pumpUpstream, pumpLoop, hhead, hup, List.nil_append, List.length_singleton]
  exact congrArg (dealWith x) hsame

/-- A row that brings a well-formed transaction to the free port deals with it. -/
theorem exec_of_portFree {i : Instr} {x : Txn} {s : State} (hi : i.txn = some x) (hafter : after i s = arrive x s)
    (hx : x.wellFormed = true) (h : portFree s) : exec i s = .next (dealWith x s) := by
  have hwf : i.wellFormed = true := by simp [Instr.wellFormed, hi, hx]
  obtain hexec | ⟨⟨ok, data, rfl⟩, -⟩ := exec_of_well_formed hwf s
  · rw [hexec, hafter, arrive_of_portFree h]
  · simp [Instr.txn] at hi

theorem pumpUpstream_of_nil {s : State} (h : s.path.upstream = []) : pumpUpstream s = s := by
  simp [pumpUpstream, h, pumpLoop]

/-! ### What the regions make of a write (R38, R40) -/

/-- A region that is absent or not touched decides nothing. -/
theorem regionOutcome_of_not_touched {s : State} {x : Txn} {g : RegionKind} (h : touches s x g = false) :
    regionOutcome s x g = default := by
  unfold touches at h
  unfold regionOutcome
  cases hr : regionOf s g with
  | none => rfl
  | some r => simp_all

theorem nodup_allRegions : allRegions.Nodup := by decide

/-- A fold in which only one element of the list does anything. -/
theorem foldl_only {α β : Type} {f : β → α → β} {l : List α} {a : α} (hn : l.Nodup) (ha : a ∈ l)
    (h : ∀ c ∈ l, c ≠ a → ∀ b, f b c = b) (b : β) : l.foldl f b = f b a := by
  have hrest : ∀ (m : List α) (b : β), (∀ c ∈ m, ∀ b, f b c = b) → m.foldl f b = b := fun m b hm => by
    induction m generalizing b with
    | nil => rfl
    | cons c m ih => rw [List.foldl_cons, hm c (by simp), ih b fun d hd => hm d (by simp [hd])]
  obtain ⟨m, n, rfl⟩ := List.append_of_mem ha
  rw [List.nodup_append] at hn
  obtain ⟨-, hn2, hn3⟩ := hn
  rw [List.foldl_append, List.foldl_cons,
    hrest m b fun c hc => h c (by simp [hc]) (hn3 c hc a (by simp)),
    hrest n _ fun c hc => h c (by simp [hc]) fun hca => by
      rw [List.nodup_cons] at hn2
      exact hn2.1 (hca ▸ hc)]

/-- A concatenation in which only one element of the list gives anything. -/
theorem flatten_only {α β : Type} {f : α → List β} {l : List α} {a : α} (hn : l.Nodup) (ha : a ∈ l)
    (h : ∀ c ∈ l, c ≠ a → f c = []) : (l.map f).flatten = f a := by
  have hfold := foldl_only (f := fun b c => b ++ f c) hn ha (fun c hc hne b => by simp [h c hc hne]) []
  rw [List.nil_append] at hfold
  rw [← hfold]
  have hgen : ∀ (m : List α) (b : List β), m.foldl (fun b c => b ++ f c) b = b ++ (m.map f).flatten := fun m b => by
    induction m generalizing b with
    | nil => simp
    | cons c m ih => simp [ih]
  simp [hgen]

/-- The faults one region raises, in their order. -/
def raise (x : Txn) (g : RegionKind) (l : List (Nat × Nat)) (s : State) : State :=
  l.foldl (fun s f => pathFault x g f.1 f.2 s) s

/-- The head that a write becomes where these bytes are dropped (R40). -/
def headOf (x : Txn) (drops : List (Nat × Nat)) : Head :=
  { txn := dropBytes x drops, recs := [], verdict := none, spent := !drops.isEmpty && !(dropBytes x drops).enables.any id }

theorem handOff_default (x : Txn) (s : State) : handOff x default s = s := rfl

theorem raise_nil (x : Txn) (g : RegionKind) (s : State) : raise x g [] s = s := rfl

/-- A write that only one region touches is what that region makes of it. -/
theorem takeWrite_of_touchesOnly {s : State} {x : Txn} {g : RegionKind} (h : touchesOnly s x g) (hg : g ∈ allRegions) :
    takeWrite x s = handOff x (regionOutcome s x g) (raise x g (regionOutcome s x g).faults
      (setHead (headOf x (regionOutcome s x g).drops) s)) := by
  obtain ⟨-, hothers⟩ := h
  have hidle : ∀ c ∈ allRegions, c ≠ g → regionOutcome s x c = default := fun c hc hne =>
    regionOutcome_of_not_touched (hothers c hc hne)
  have hdrops : ((allRegions.map fun g => (g, regionOutcome s x g)).map fun p => p.2.drops).flatten =
      (regionOutcome s x g).drops := by
    rw [List.map_map]
    exact flatten_only nodup_allRegions hg fun c hc hne => by simp [hidle c hc hne]; rfl
  unfold takeWrite
  simp only [hdrops, List.foldl_map]
  rw [foldl_only nodup_allRegions hg fun c hc hne u => by rw [hidle c hc hne, handOff_default],
    foldl_only nodup_allRegions hg fun c hc hne u => by rw [hidle c hc hne]; rfl]
  rfl

/-- A write that no region touches is put at the head. -/
theorem takeWrite_of_untouched {s : State} {x : Txn} (h : ∀ g ∈ allRegions, touches s x g = false) :
    takeWrite x s = setHead (headOf x []) s := by
  have hidle : ∀ g ∈ allRegions, regionOutcome s x g = default := fun g hg => regionOutcome_of_not_touched (h g hg)
  have hos : (allRegions.map fun g => (g, regionOutcome s x g)) = allRegions.map fun g => (g, (default : Outcome)) :=
    List.map_congr_left fun g hg => by rw [hidle g hg]
  unfold takeWrite
  rw [hos]
  rfl

theorem dropBytes_nil (x : Txn) : dropBytes x [] = x := by
  have hmap : x.enables.mapIdx (fun _ on => on) = x.enables := by apply List.ext_getElem <;> simp
  simp [dropBytes, hmap]

theorem headOf_nil (x : Txn) : headOf x [] = { txn := x, recs := [], verdict := none, spent := false } := by
  simp [headOf, dropBytes_nil]

/-- A read that touches no account record is put at the head. -/
theorem takeRead_of_untouched {s : State} {x : Txn} (h : touches s x .accountTable = false) :
    takeRead x s = setHead (headOf x []) s := by
  unfold touches at h
  rw [headOf_nil]
  cases hr : regionOf s .accountTable with
  | none => simp [takeRead, hr]
  | some r =>
    simp only [hr] at h
    simp [takeRead, hr, h]

/-! ### The head leaves (R35, R46, R48) -/

theorem overlapsOwn_congr {s t : State} (hq : t.path.queue = s.path.queue) (hr : t.path.reissue = s.path.reissue)
    (x : Txn) : overlapsOwn t x = overlapsOwn s x := by
  simp [overlapsOwn, queuedWrites, hq, hr]

/-- A head that nothing holds goes into the passing stream. -/
theorem moveHead_joins {s : State} {h : Head} (hhead : s.path.head = some h) (hready : headReady h = true)
    (hspent : h.spent = false) (hwhole : whollyAnswered h.txn (lineRecords s h) = false)
    (hown : overlapsOwn s h.txn = false) :
    moveHead s = { s with path := { s.path with
      head := none
      stream := s.path.stream ++ [{ txn := h.txn, subs := lineRecords s h }]
      owed := s.path.owed ++ [{ initiator := h.txn.initiator, answer := none }] } } := by
  simp [moveHead, hhead, hready, hspent, hwhole, hown]

theorem wellFormed_beats {x : Txn} (h : x.wellFormed = true) : 1 ≤ x.beats := by
  simp only [Txn.wellFormed, Bool.and_eq_true, decide_eq_true_eq] at h
  obtain ⟨⟨⟨⟨⟨⟨⟨-, h⟩, -⟩, -⟩, -⟩, -⟩, -⟩, -⟩ := h
  exact h

/-- A transaction of which no line supplies a record is not answered by the part. -/
theorem whollyAnswered_nil {x : Txn} (h : x.wellFormed = true) : whollyAnswered x [] = false := by
  have hbeats := wellFormed_beats h
  have hfirst : 0 ∈ List.range (16 * x.beats) := by
    rw [List.mem_range]
    omega
  simp only [whollyAnswered, Bool.and_eq_false_iff, List.all_eq_false]
  exact .inr ⟨0, hfirst, by simp [subByte]⟩

/-- A transaction put at the head with nothing to wait for joins the stream as it came. -/
theorem moveHead_plain {s : State} {x : Txn} (hx : x.wellFormed = true) (hhead : s.path.head = some (headOf x []))
    (hown : overlapsOwn s x = false) :
    moveHead s = { s with path := { s.path with
      head := none
      stream := s.path.stream ++ [{ txn := x, subs := [] }]
      owed := s.path.owed ++ [{ initiator := x.initiator, answer := none }] } } := by
  rw [headOf_nil] at hhead
  exact moveHead_joins hhead rfl rfl (whollyAnswered_nil hx) hown

/-- A write whose bytes have all been dropped is answered at once, in the port's order (R40). -/
theorem moveHead_spent {s : State} {h : Head} (hhead : s.path.head = some h) (hready : headReady h = true)
    (hspent : h.spent = true) (howed : s.path.owed = []) :
    moveHead s = { s with path := { s.path with
      head := none
      upOut := s.path.upOut ++ [{ initiator := h.txn.initiator, ok := true, data := [] }] } } := by
  simp [moveHead, hhead, hready, hspent, answerHead, flushOwed, howed]

/-! ### Traffic that nothing judges (R35, R38, R44, R46) -/

/-- What the rest of the machine keeps where the relay and the links rest. -/
theorem keeps_settleEvent_of_still {s u : State}
    (h : keeps [.clock, .settings, .position, .coverage, .links, .relay, .capture, .rating, .settlement, .engine, .reports] s u) :
    keeps [.clock, .settings, .position, .coverage, .links, .capture, .rating, .settlement, .engine, .reports] s
      (settleEvent s u) :=
  (h.mono (by simp)).trans (settleEvent_keeps_of_still (h.2 .links (by simp)) (h.2 .relay (by simp)))

/-- The end of an event leaves a passing transaction where it has gone. -/
theorem joinsStream_settleEvent {s u : State} {p : Passing} (h : joinsStream s u p) : joinsStream s (settleEvent s u) p := by
  simpa [joinsStream] using h

/-- A transaction that is put at the head of the free port, and is held by nothing. -/
theorem dealWith_plain {s : State} {x : Txn} (hx : x.wellFormed = true) (htake : takeTxn x s = setHead (headOf x []) s)
    (hown : overlapsOwn s x = false) :
    joinsStream s (dealWith x s) { txn := x, subs := [] } ∧ (dealWith x s).path.upOut = s.path.upOut ∧
    keeps [.clock, .settings, .position, .coverage, .links, .capture, .rating, .settlement, .engine, .reports] s
      (dealWith x s) := by
  have hmove := moveHead_plain hx (setHead_head (headOf x []) s) hown
  unfold dealWith
  rw [htake, hmove]
  refine ⟨joinsStream_settleEvent ⟨rfl, rfl, rfl⟩, by simp [setHead], keeps_settleEvent_of_still ?_⟩
  simp [setHead, Part.same]

theorem mem_allRegions_linkRing {k : Nat} (h : k < 4) : RegionKind.linkRing k ∈ allRegions := by
  match k, h with
  | 0, _ | 1, _ | 2, _ | 3, _ => simp [allRegions]

/-- A region that decides nothing about a write lets it pass. -/
theorem takeTxn_of_default {s : State} {x : Txn} {g : RegionKind} (hw : x.write = true) (h : touchesOnly s x g)
    (hg : g ∈ allRegions) (ho : regionOutcome s x g = default) : takeTxn x s = setHead (headOf x []) s := by
  rw [takeTxn, if_pos hw, takeWrite_of_touchesOnly h hg, ho]
  rfl

theorem regionOutcome_radioRing {s : State} {x : Txn} (h : touches s x .radioRing = true) :
    ∃ r, regionOf s .radioRing = some r ∧ regionOutcome s x .radioRing = radioOutcome s x r := by
  unfold touches at h
  cases hr : regionOf s .radioRing with
  | none => simp [hr] at h
  | some r =>
    simp only [hr] at h
    exact ⟨r, rfl, by simp [regionOutcome, hr, h]⟩

/-- Settles O19: nothing holds the transaction, so it joins the stream. -/
theorem unjudgedTrafficPasses : Obligations.UnjudgedTrafficPasses := by
  refine ⟨fun x s hx hfree huntouched hown => ?_, fun x s hx hw hfree htouch hradio hown => ?_,
    fun h s hhead hup hready hspent hwhole hown => ?_⟩
  · have htake : takeTxn x s = setHead (headOf x []) s := by
      unfold takeTxn
      split
      · exact takeWrite_of_untouched huntouched
      · exact takeRead_of_untouched (huntouched _ (by simp [allRegions]))
    exact ⟨_, exec_of_portFree rfl rfl hx hfree, dealWith_plain hx htake hown⟩
  · obtain ⟨r, -, ho⟩ := regionOutcome_radioRing htouch.1
    have hdefault : regionOutcome s x .radioRing = default := by simp [ho, radioOutcome, hradio]
    obtain ⟨hjoins, -, hkeeps⟩ := dealWith_plain hx (takeTxn_of_default hw htouch (by simp [allRegions]) hdefault) hown
    exact ⟨_, exec_of_portFree rfl rfl hx hfree, hjoins, hkeeps⟩
  · have hexec : exec .holdRelease s = .next (portEvent s s) := rfl
    have hmove := moveHead_joins hhead hready hspent hwhole hown
    have hevent : portEvent s s = settleEvent s (moveHead s) := pumpUpstream_of_nil (by simp [hmove, hup])
    rw [hevent, hmove] at hexec
    refine ⟨_, hexec, joinsStream_settleEvent ⟨rfl, rfl, rfl⟩, keeps_settleEvent_of_still ?_⟩
    simp [Part.same]

end Sys2Proof.Machine
end

section
/-! Writes of chapter 03 that are dropped whole (R41, R43, R45, R53): what a region decides, by arithmetic on the bytes it
covers, and the write that has no byte left. -/

namespace Sys2Proof.Machine

/-! ### The reports of a write at the head do not depend on the head -/

theorem placeWrite_setHead (w : OwnWrite) (h : Head) (s : State) :
    placeWrite w (setHead h s) = setHead h (placeWrite w s) := by
  have hroom : canEnter (setHead h s) = canEnter s := rfl
  unfold placeWrite
  rw [hroom]
  split <;> rfl

theorem pumpReports_setHead (n : Nat) (h : Head) (s : State) : pumpReports n (setHead h s) = setHead h (pumpReports n s) := by
  have hroom (s : State) : canEnter (setHead h s) = canEnter s := rfl
  have hrep (s : State) : (setHead h s).rep = s.rep := rfl
  have hwaits (s : State) : reportWriteWaits (setHead h s) = reportWriteWaits s := rfl
  induction n generalizing s with
  | zero => rfl
  | succ n ih =>
    cases hp : s.rep.pend with
    | nil => simp [pumpReports, hp]
    | cons p rest =>
      have hmove (l : List PendingWrite) : { setHead h s with rep := { s.rep with pend := l } } =
          setHead h { s with rep := { s.rep with pend := l } } := rfl
      cases hr : p.record with
      | none => simp only [pumpReports, hrep, hp, hwaits, hroom, hr, hmove, placeWrite_setHead, ih]; split <;> [rfl; split <;> rfl]
      | some r =>
        cases hin : p.recordIn <;>
          simp only [pumpReports, hrep, hp, hwaits, hroom, hr, hin, hmove, placeWrite_setHead, ih] <;>
          (split <;> [rfl; split <;> rfl])

theorem placeReport_setHead (r : Report) (h : Head) (s : State) : placeReport r (setHead h s) = setHead h (placeReport r s) := by
  have hring : repRing (setHead h s) = repRing s := rfl
  cases hr : repRing s with
  | none => simp [placeReport, hring, hr]
  | some g =>
    simp only [placeReport, hring, hr, runReports]
    rw [← pumpReports_setHead]
    rfl

theorem event_setHead (kind cause flags : Nat) (fields : List (Nat × Nat × Nat)) (h : Head) (s : State) :
    event kind cause flags fields (setHead h s) = setHead h (event kind cause flags fields s) := by
  have hplace : canPlace (setHead h s) = canPlace s := rfl
  unfold event offerEvent
  rw [hplace]
  split
  · exact placeReport_setHead _ h s
  · rfl

theorem pathFault_setHead (x : Txn) (g : RegionKind) (kind dropped : Nat) (h : Head) (s : State) :
    pathFault x g kind dropped (setHead h s) = setHead h (pathFault x g kind dropped s) := by
  have hregion : regionOf (setHead h s) g = regionOf s g := by cases g <;> rfl
  unfold pathFault
  rw [hregion]
  exact event_setHead _ _ _ _ h s

/-! ### A write that a region drops whole (R40, R53) -/

theorem wellFormed_enables {x : Txn} (h : x.wellFormed = true) (hw : x.write = true) : x.enables.length = 16 * x.beats := by
  simp only [Txn.wellFormed, Bool.and_eq_true, hw, if_true, beq_iff_eq] at h
  exact h.2

/-- A write of which every enabled byte is dropped has nothing left. -/
theorem headOf_spent {x : Txn} {drops : List (Nat × Nat)} (hd : drops ≠ [])
    (h : ∀ i, i < x.enables.length → x.enables[i]? = some true → ∃ r ∈ drops, r.1 ≤ x.addr + i ∧ x.addr + i < r.1 + r.2) :
    (headOf x drops).spent = true := by
  have hnone : ∀ on ∈ (dropBytes x drops).enables, on = false := by
    intro on hon
    obtain ⟨i, hi, rfl⟩ := List.getElem_of_mem hon
    have hlt : i < x.enables.length := by simpa [dropBytes] using hi
    by_cases hset : x.enables[i]? = some true
    · obtain ⟨r, hr, hlo, hhi⟩ := h i hlt hset
      have hdropped : (drops.any fun r => decide (r.1 ≤ x.addr + i) && decide (x.addr + i < r.1 + r.2)) = true := by
        rw [List.any_eq_true]
        exact ⟨r, hr, by simp [hlo, hhi]⟩
      simp [dropBytes, hdropped]
    · have hoff : x.enables[i] = false := by simpa [List.getElem?_eq_getElem hlt] using hset
      simp [dropBytes, hoff]
  have hany : (dropBytes x drops).enables.any id = false := by
    rw [List.any_eq_false]
    intro on hon
    simp [hnone on hon]
  cases drops with
  | nil => exact absurd rfl hd
  | cons r rest => simp [headOf, hany]

/-- What a region that only drops bytes, with one fault, decides. -/
def dropping (drops : List (Nat × Nat)) (kind count : Nat) : Outcome :=
  { (default : Outcome) with drops := drops, faults := [(kind, count)] }

/-- A take that begins holds one slot more. -/
theorem tryTake_held {s : State} {i : Nat} (h : look s.relay.held i = true) : look (tryTake s).relay.held i = true := by
  unfold tryTake
  split
  · split
    · exact h
    · by_cases hi : i = s.relay.takePtr
      · simp [issueRead, hi]
      · simp [issueRead, hi, h]
  · exact h

/-- A write that one region drops whole, with one fault, is answered at once. -/
theorem dealWith_dropped {s : State} {x : Txn} {g : RegionKind} {drops : List (Nat × Nat)} {kind count : Nat}
    (hw : x.write = true) (htouch : touchesOnly s x g) (hg : g ∈ allRegions)
    (ho : regionOutcome s x g = dropping drops kind count) (hspent : (headOf x drops).spent = true)
    (howed : s.path.owed = []) :
    (dealWith x s).path.head = none ∧ (dealWith x s).path.stream = s.path.stream ∧
      (dealWith x s).path.upOut = s.path.upOut ++ [{ initiator := x.initiator, ok := true, data := [] }] ∧
      (dealWith x s).rep = (pathFault x g kind count s).rep ∧
      (∀ i, look s.relay.held i = true → look (dealWith x s).relay.held i = true) ∧
      (dealWith x s).relay.table = s.relay.table ∧
      keeps [.clock, .settings, .position, .coverage, .links, .capture, .rating, .settlement, .engine] s (dealWith x s) := by
  have htake : takeTxn x s = setHead (headOf x drops) (pathFault x g kind count s) := by
    rw [takeTxn, if_pos hw, takeWrite_of_touchesOnly htouch hg, ho, ← pathFault_setHead]
    rfl
  have hmove := moveHead_spent (setHead_head (headOf x drops) (pathFault x g kind count s)) rfl hspent (by simp [howed])
  have hinit : (headOf x drops).txn.initiator = x.initiator := rfl
  have hquiet : passStarts s (moveHead (takeTxn x s)) = false :=
    passStarts_eq_false (by simp [htake]) (by simp [htake]) (by simp [htake]) (by simp [htake])
  obtain ⟨-, -, htable, -⟩ := settleEvent_quiet hquiet
  have hkeeps := settleEvent_keeps_links hquiet
  have hend : dealWith x s = judgeFinisher (tryTake (moveHead (takeTxn x s))) := settleEvent_of_not_passStarts hquiet
  rw [htake] at hend htable
  refine ⟨by simp [hend, hmove], by simp [hend, hmove], by simp [hend, hmove, hinit], by simp [hend], fun i hi => ?_, ?_,
    keeps.trans (t := moveHead (takeTxn x s)) ?_ (hkeeps.mono (by simp))⟩
  · rw [hend]
    simpa using tryTake_held (s := moveHead (setHead (headOf x drops) (pathFault x g kind count s))) (i := i) (by simpa using hi)
  · rw [dealWith, htake, htable]
    simp
  · simp [htake, Part.same]

/-! ### The region that a write touches -/

theorem region_of_touches {s : State} {x : Txn} {g : RegionKind} (h : touches s x g = true) :
    ∃ r, regionOf s g = some r ∧ shareByte (rangeOf x) r = true := by
  unfold touches at h
  cases hr : regionOf s g with
  | none => simp [hr] at h
  | some r => exact ⟨r, rfl, by simpa [hr] using h⟩

theorem shareByte_iff (a b : Nat × Nat) :
    shareByte a b = true ↔ a.1 < b.1 + b.2 ∧ b.1 < a.1 + a.2 ∧ 0 < a.2 ∧ 0 < b.2 := by
  simp [shareByte, and_assoc]

/-- One beat at a slot of a ring touches that slot and no other (R38). -/
theorem slotsIn_slot {x : Txn} {base size slot : Nat} (haddr : x.addr = base + 16 * slot) (hbeats : x.beats = 1)
    (hslot : slot < size) : slotsIn x (base, 16 * size) 16 = [slot] := by
  have hlo : (firstIn x (base, 16 * size) - base) / 16 = slot := by simp only [firstIn, haddr]; omega
  have hhi : (min (x.addr + 16 * x.beats) (base + 16 * size) - base + 16 - 1) / 16 = slot + 1 := by
    rw [haddr, hbeats]
    omega
  simp only [slotsIn, hlo, hhi, Nat.add_sub_cancel_left, List.range'_one]

/-- Every byte of a write counts where all of it is dropped. -/
theorem enabledCount_all {x : Txn} (h : x.enables.length = 16 * x.beats) :
    enabledCount x (x.addr, 16 * x.beats) = (x.enables.filter id).length := by
  simp [enabledCount, enabledIn, ← h]

/-! ### The logical uplink ring (R43) -/

theorem regionOf_logicalRing {s : State} {r : Nat × Nat} (h : regionOf s .logicalRing = some r) :
    r = (s.cfg.upBase, 16 * s.cfg.upSize) := by
  simp only [regionOf] at h
  split at h <;> simp_all

/-- A one-beat write that touches the logical ring at slot `slot`. -/
theorem logicalOutcome_of_slot {s : State} {x : Txn} {slot : Nat} (htouch : touches s x .logicalRing = true)
    (haddr : x.addr = s.cfg.upBase + 16 * slot) (hbeats : x.beats = 1) :
    regionOutcome s x .logicalRing = logicalOutcome s x (s.cfg.upBase, 16 * s.cfg.upSize) ∧
      slotsIn x (s.cfg.upBase, 16 * s.cfg.upSize) 16 = [slot] := by
  obtain ⟨r, hr, hshare⟩ := region_of_touches htouch
  obtain rfl := regionOf_logicalRing hr
  refine ⟨by simp [regionOutcome, hr, hshare], slotsIn_slot haddr hbeats ?_⟩
  rw [shareByte_iff] at hshare
  simp only [rangeOf] at hshare
  omega

/-- A write to a held slot is dropped (R43, R53). -/
theorem logicalOutcome_of_held {s : State} {x : Txn} {slot : Nat} (hx : x.wellFormed = true) (hw : x.write = true)
    (htouch : touches s x .logicalRing = true) (haddr : x.addr = s.cfg.upBase + 16 * slot) (hbeats : x.beats = 1)
    (hheld : look s.relay.held slot = true) (hrun : s.cmd.run ≠ .stopped) :
    regionOutcome s x .logicalRing =
      dropping [(x.addr, 16 * x.beats)] faultRingCollision (x.enables.filter id).length := by
  obtain ⟨ho, hslots⟩ := logicalOutcome_of_slot htouch haddr hbeats
  have hcount := enabledCount_all (wellFormed_enables hx hw)
  rw [haddr, hbeats] at hcount
  simp [ho, logicalOutcome, hslots, hrun, hheld, dropping, haddr, hbeats, hcount]

/-! ### The rings of the links (R45) -/

/-- A write in the ring of link `k` by any other than its initiator is dropped (R45, R53). -/
theorem linkOutcome_of_foreign {s : State} {x : Txn} {k : Nat} {r : LinkRec} (hx : x.wellFormed = true)
    (hw : x.write = true) (htouch : touches s x (.linkRing k) = true) (hrec : (linkOf s k).record = some r)
    (hlo : r.base ≤ x.addr) (hhi : x.addr + 16 * x.beats ≤ r.base + 16 * r.size)
    (hforeign : isLinkInitiator s k x.initiator = false) (hrun : s.cmd.run ≠ .stopped) :
    regionOutcome s x (.linkRing k) =
      dropping [(x.addr, 16 * x.beats)] faultForeignWrite (x.enables.filter id).length := by
  obtain ⟨q, hq, hshare⟩ := region_of_touches htouch
  have hregion : q = (r.base, 16 * r.size) := by
    simp only [regionOf, hrec] at hq
    split at hq <;> simp_all
  subst hregion
  have hrange : dropRange x (r.base, 16 * r.size) = (x.addr, 16 * x.beats) := by
    simp only [dropRange, firstIn, Prod.mk.injEq]
    omega
  have hcount := enabledCount_all (wellFormed_enables hx hw)
  simp [regionOutcome, hq, hshare, linkOutcome, hrun, hforeign, dropping, hrange, hcount]

/-- A write whose whole range is dropped has nothing left. -/
theorem headOf_spent_of_range {x : Txn} (hx : x.wellFormed = true) (hw : x.write = true) :
    (headOf x [(x.addr, 16 * x.beats)]).spent = true := by
  have hlen := wellFormed_enables hx hw
  exact headOf_spent (by simp) fun i hi _ => ⟨_, List.mem_singleton.2 rfl, by simp only; omega, by simp only; omega⟩

/-! ### The control block's fields (R41) -/

/-- The enabled bytes that a write of field `f` alone gives field `g`, by their places in the beat that holds `f`. -/
def fieldBytes (f g : ControlField) : Nat :=
  let beat := (fieldPlace f).1 / 16 * 16
  let first := max beat (fieldPlace g).1
  ((((enablesOf 16 [((fieldPlace f).1 % 16, (fieldPlace f).2)]).drop (first - beat)).take
    (min (beat + 16) ((fieldPlace g).1 + (fieldPlace g).2) - first)).filter id).length

/-- The beat that holds field `f` shares a byte with field `g`. -/
def fieldShares (f g : ControlField) : Bool :=
  shareByte ((fieldPlace f).1 / 16 * 16, 16) (fieldPlace g)

theorem fieldBytes_other {f g : ControlField} (h : g ≠ f) : fieldShares f g = false ∨ fieldBytes f g = 0 := by
  revert h
  cases f <;> cases g <;> decide

theorem fieldBytes_same (f : ControlField) : fieldShares f f = true ∧ fieldBytes f f = (fieldPlace f).2 ∧
    (fieldPlace f).2 ≠ 0 := by
  cases f <;> decide

theorem shareByte_field {s : State} {f : ControlField} {v : Nat} {x : Txn} (hx : fieldTxn s f v x) (g : ControlField) :
    shareByte (rangeOf x) (ctrlBase s + (fieldPlace g).1, (fieldPlace g).2) = fieldShares f g := by
  obtain ⟨-, -, hbeats, haddr, -⟩ := hx
  rw [Bool.eq_iff_iff, fieldShares, shareByte_iff, shareByte_iff]
  simp only [rangeOf, hbeats, haddr]
  omega

theorem max_add_sub (c a b : Nat) : max (c + a) (c + b) - (c + a) = max a b - a := by
  omega

theorem min_add_sub_max (c a b m n : Nat) : min (c + a + m) (c + b + n) - max (c + a) (c + b) = min (a + m) (b + n) - max a b := by
  omega

theorem enabledCount_field {s : State} {f : ControlField} {v : Nat} {x : Txn} (hx : fieldTxn s f v x) (g : ControlField) :
    enabledCount x (dropRange x (ctrlBase s + (fieldPlace g).1, (fieldPlace g).2)) = fieldBytes f g := by
  obtain ⟨-, -, hbeats, haddr, hen, -⟩ := hx
  simp only [enabledCount, enabledIn, dropRange, firstIn, haddr, hbeats, hen, max_add_sub, min_add_sub_max, fieldBytes]

theorem fieldOutcome_other {s : State} {f g : ControlField} {v : Nat} {x : Txn} (hx : fieldTxn s f v x) (h : g ≠ f) :
    fieldOutcome s x g = default := by
  have hcount := enabledCount_field hx g
  have hshare := shareByte_field hx g
  unfold fieldOutcome
  obtain hno | hzero := fieldBytes_other h
  · simp [hshare, hno]
  · simp [hcount, hzero]

theorem fieldOutcome_same {s : State} {f : ControlField} {v : Nat} {x : Txn} (hx : fieldTxn s f v x) :
    fieldOutcome s x f =
      if partField f then
        { (default : Outcome) with
          drops := [(ctrlBase s + (fieldPlace f).1, (fieldPlace f).2)]
          faults := [(faultProtectedWrite, (fieldPlace f).2)] }
      else if ringField f && s.cmd.run != .stopped then { (default : Outcome) with faults := [(faultProtectedWrite, 0)] }
      else { (default : Outcome) with fields := [(f, v)] } := by
  have hcount := enabledCount_field hx f
  have hshare := shareByte_field hx f
  obtain ⟨hsame, hbytes, hsize⟩ := fieldBytes_same f
  obtain ⟨-, -, -, haddr, -, hv⟩ := hx
  have hoff : ctrlBase s + (fieldPlace f).1 - x.addr = (fieldPlace f).1 % 16 := by omega
  unfold fieldOutcome
  simp only [hshare, hsame, hcount, hbytes, hsize, hoff, hv, if_false, Bool.not_true, Bool.false_eq_true, lt_irrefl,
    List.nil_append]
  split
  · rfl
  · split <;> simp_all

theorem mergeFaults_nil : mergeFaults [] = [] := by decide

theorem mergeFaults_protected (n : Nat) : mergeFaults [(faultProtectedWrite, n)] = [(faultProtectedWrite, n)] := by
  simp [mergeFaults, List.range_succ, faultProtectedWrite]

theorem mem_allFields (f : ControlField) : f ∈ allFields := by
  cases f <;> decide

theorem controlOutcome_eq (s : State) (x : Txn) :
    controlOutcome s x = { (default : Outcome) with
      drops := ((allFields.map (fieldOutcome s x)).map Outcome.drops).flatten
      faults := mergeFaults ((allFields.map (fieldOutcome s x)).map Outcome.faults).flatten
      fields := ((allFields.map (fieldOutcome s x)).map Outcome.fields).flatten } := rfl

/-- What one field alone gives the control block's outcome. -/
theorem flatten_fields {s : State} {f : ControlField} {v : Nat} {x : Txn} (hx : fieldTxn s f v x) {α : Type}
    (part : Outcome → List α) (hpart : part default = []) :
    ((allFields.map (fieldOutcome s x)).map part).flatten = part (fieldOutcome s x f) := by
  have hnodup : allFields.Nodup := by decide
  rw [List.map_map]
  refine flatten_only (f := part ∘ fieldOutcome s x) hnodup (mem_allFields f) fun g _ h => ?_
  rw [Function.comp_apply, fieldOutcome_other hx h, hpart]

/-- The faults of one field are merged already, and it makes no other hand-off. -/
theorem fieldOutcome_merged {s : State} {f : ControlField} {v : Nat} {x : Txn} (hx : fieldTxn s f v x) :
    { (default : Outcome) with
      drops := (fieldOutcome s x f).drops
      faults := mergeFaults (fieldOutcome s x f).faults
      fields := (fieldOutcome s x f).fields } = fieldOutcome s x f := by
  have ho := fieldOutcome_same hx
  generalize fieldOutcome s x f = o at ho
  split at ho
  · subst ho
    simp only [mergeFaults_protected]
  · split at ho
    · subst ho
      simp only [mergeFaults_protected]
    · subst ho
      rfl

/-- A write of one field alone: what the control block's rule makes of it (R41). -/
theorem controlOutcome_field {s : State} {f : ControlField} {v : Nat} {x : Txn} (hx : fieldTxn s f v x)
    (htouch : touches s x .control = true) : regionOutcome s x .control = fieldOutcome s x f := by
  obtain ⟨r, hr, hshare⟩ := region_of_touches htouch
  have hcontrol : regionOutcome s x .control = controlOutcome s x := by
    unfold regionOutcome
    rw [hr]
    simp only [hshare, Bool.not_true, Bool.false_eq_true, if_false]
  rw [hcontrol, controlOutcome_eq, flatten_fields hx Outcome.drops rfl, flatten_fields hx Outcome.faults rfl,
    flatten_fields hx Outcome.fields rfl, fieldOutcome_merged hx]

/-- A write of one field is dropped whole with the field: it enables no other byte. -/
theorem headOf_spent_of_field {s : State} {f : ControlField} {v : Nat} {x : Txn} (hx : fieldTxn s f v x) :
    (headOf x [(ctrlBase s + (fieldPlace f).1, (fieldPlace f).2)]).spent = true := by
  obtain ⟨-, -, -, haddr, hen, -⟩ := hx
  refine headOf_spent (by simp) fun i hi hon => ⟨_, List.mem_singleton.2 rfl, ?_⟩
  have hplace : (fieldPlace f).1 % 16 ≤ i ∧ i < (fieldPlace f).1 % 16 + (fieldPlace f).2 := by
    have hi16 : i < 16 := by simpa [hen, enablesOf] using hi
    simpa [hen, enablesOf, hi16] using hon
  simp only [haddr]
  omega

/-- Settles O20: each region drops the whole write, with one fault. -/
theorem partWrittenWordsAreDropped : Obligations.PartWrittenWordsAreDropped := by
  refine ⟨fun slot x s hx hw hbeats hfree htouch haddr hheld hrun howed => ?_,
    fun k r x s hx hw hk hfree htouch hrec hlo hhi hforeign hrun howed => ?_, fun f v x s hf hx hfree htouch howed => ?_⟩
  · obtain ⟨h1, h2, h3, h4, h5, h6, h7⟩ := dealWith_dropped hw htouch (by simp [allRegions])
      (logicalOutcome_of_held hx hw htouch.1 haddr hbeats hheld hrun) (headOf_spent_of_range hx hw) howed
    exact ⟨_, exec_of_portFree rfl rfl hx hfree, h1, h2, h3, h4, h5 slot hheld, h6, h7⟩
  · obtain ⟨h1, h2, h3, h4, -, h6, h7⟩ := dealWith_dropped hw htouch (mem_allRegions_linkRing hk)
      (linkOutcome_of_foreign hx hw htouch.1 hrec hlo hhi hforeign hrun) (headOf_spent_of_range hx hw) howed
    exact ⟨_, exec_of_portFree rfl rfl hx hfree, h1, h2, h3, h4, h6, h7⟩
  · have hpart : partField f = true ∧ (fieldPlace f).2 = 4 := by obtain rfl | rfl := hf <;> decide
    have ho : regionOutcome s x .control =
        dropping [(ctrlBase s + (fieldPlace f).1, (fieldPlace f).2)] faultProtectedWrite 4 := by
      rw [controlOutcome_field hx htouch.1, fieldOutcome_same hx, if_pos hpart.1, hpart.2]
      rfl
    obtain ⟨h1, h2, h3, h4, -, -, h7⟩ := dealWith_dropped hx.2.1 htouch (by simp [allRegions]) ho (headOf_spent_of_field hx) howed
    exact ⟨_, exec_of_portFree rfl rfl hx.1 hfree, h1, h2, h3, h4, h7⟩

end Sys2Proof.Machine
end

section
/-! Own traffic that has been made stays on its way: the pending writes of the Report Writer (R185) and the own reads (R47).
Then the control block's fields at work (R41): the latches of the two rings (R178, R184) and their indexes (R179, R180,
R186). -/

namespace Sys2Proof.Machine

/-! ### The pending writes of the Report Writer (R185) -/

/-- The write of the report that a pending write holds. -/
def recordWrite (addr : Nat) (bytes : List Byte) : OwnWrite := fullWrite .reportWriter addr bytes .reportRecord

/-- The write of a producer word at address `a`. -/
def wordWrite (a v : Nat) : OwnWrite := fieldWrite .reportWriter (a / 16 * 16) [(a % 16, 4, v)] (.producerWord v)

/-- What holds at the start of a run of the pending writes, and is kept by each of its steps, holds at its end. -/
theorem pumpReports_keeps {P : State → Prop} (hwait : ∀ w s, w.block = .reportWriter → P s → P (placeWrite w s))
    (hrecord : ∀ s p rest addr bytes, s.rep.pend = p :: rest → p.record = some (addr, bytes) → p.recordIn = false → P s →
      P (placeWrite (recordWrite addr bytes) { s with rep := { s.rep with pend := { p with recordIn := true } :: rest } }))
    (hword : ∀ s p rest, s.rep.pend = p :: rest → p.record = none ∨ p.recordIn = true → P s →
      P (placeWrite (wordWrite p.wordAddr p.value) { s with rep := { s.rep with pend := rest } }))
    (n : Nat) {s : State} (h : P s) : P (pumpReports n s) := by
  induction n generalizing s with
  | zero => exact h
  | succ n ih =>
    cases hp : s.rep.pend with
    | nil => simpa [pumpReports, hp] using h
    | cons p rest =>
      by_cases hwaits : reportWriteWaits s = true
      · simpa [pumpReports, hp, hwaits] using h
      · by_cases hin : p.record = none ∨ p.recordIn = true
        · have hstep : pumpReports (n + 1) s = if canEnter s
              then pumpReports n (placeWrite (wordWrite p.wordAddr p.value) { s with rep := { s.rep with pend := rest } })
              else placeWrite (wordWrite p.wordAddr p.value) s := by
            obtain hin | hin := hin
            · simp [pumpReports, hp, hwaits, hin, wordWrite]
            · cases hr : p.record <;> simp [pumpReports, hp, hwaits, hin, hr, wordWrite]
          rw [hstep]
          split
          · exact ih (hword s p rest hp hin h)
          · exact hwait _ _ rfl h
        · rw [not_or] at hin
          obtain ⟨⟨addr, bytes⟩, hr⟩ := Option.ne_none_iff_exists'.1 hin.1
          have hnot : p.recordIn = false := by simpa using hin.2
          have hstep : pumpReports (n + 1) s = if canEnter s
              then pumpReports n (placeWrite (recordWrite addr bytes)
                { s with rep := { s.rep with pend := { p with recordIn := true } :: rest } })
              else placeWrite (recordWrite addr bytes) s := by
            simp [pumpReports, hp, hwaits, hr, hnot, recordWrite]
          rw [hstep]
          split
          · exact ih (hrecord s p rest addr bytes hp hr hnot h)
          · exact hwait _ _ rfl h

/-- A producer word with value `v` is on its way to address `a`: the Report Writer holds it pending, or its write is
placed. -/
def wordComing (a v : Nat) (s : State) : Prop :=
  (∃ p ∈ s.rep.pend, p.wordAddr = a ∧ p.value = v) ∨ placed s (wordWrite a v)

/-- A report is on its way to its slot at `addr`, its producer word behind it. -/
def recordComing (addr : Nat) (bytes : List Byte) (a v : Nat) (s : State) : Prop :=
  (∃ p ∈ s.rep.pend, p.record = some (addr, bytes) ∧ p.recordIn = false ∧ p.wordAddr = a ∧ p.value = v) ∨
    (placed s (recordWrite addr bytes) ∧ wordComing a v s)

theorem placed_placeWrite {s : State} {w : OwnWrite} (v : OwnWrite) (h : placed s w) : placed (placeWrite v s) w :=
  h.mono (placeWrite_grows v (grows.refl _))

theorem wordComing.mono {a v : Nat} {s t : State} (h : wordComing a v s) (hp : t.rep.pend = s.rep.pend)
    (hg : grows s.path t.path) : wordComing a v t := by
  obtain h | h := h
  · exact .inl (hp ▸ h)
  · exact .inr (h.mono hg)

theorem recordComing.mono {addr : Nat} {bytes : List Byte} {a v : Nat} {s t : State} (h : recordComing addr bytes a v s)
    (hp : t.rep.pend = s.rep.pend) (hg : grows s.path t.path) : recordComing addr bytes a v t := by
  obtain h | ⟨h, hw⟩ := h
  · exact .inl (hp ▸ h)
  · exact .inr ⟨h.mono hg, hw.mono hp hg⟩

theorem wordComing_placeWrite {a v : Nat} {s : State} (w : OwnWrite) (h : wordComing a v s) :
    wordComing a v (placeWrite w s) := h.mono (by simp) (placeWrite_grows w (grows.refl _))

/-- The word of a pending write whose record goes to the queue stays. -/
theorem wordComing_record {a v : Nat} {s : State} {p : PendingWrite} {rest : List PendingWrite} (w : OwnWrite)
    (hp : s.rep.pend = p :: rest) (h : wordComing a v s) :
    wordComing a v (placeWrite w { s with rep := { s.rep with pend := { p with recordIn := true } :: rest } }) := by
  refine wordComing_placeWrite w ?_
  obtain ⟨q, hq, ha, hv⟩ | h := h
  · rw [hp, List.mem_cons] at hq
    obtain rfl | hq := hq
    · exact .inl ⟨_, List.mem_cons_self, ha, hv⟩
    · exact .inl ⟨q, List.mem_cons_of_mem _ hq, ha, hv⟩
  · exact .inr h

/-- A pending word that goes to the queue is placed. -/
theorem wordComing_word {a v : Nat} {s : State} {p : PendingWrite} {rest : List PendingWrite}
    (hp : s.rep.pend = p :: rest) (h : wordComing a v s) :
    wordComing a v (placeWrite (wordWrite p.wordAddr p.value) { s with rep := { s.rep with pend := rest } }) := by
  obtain ⟨q, hq, rfl, rfl⟩ | h := h
  · rw [hp, List.mem_cons] at hq
    obtain rfl | hq := hq
    · exact .inr (placeWrite_placed _ _)
    · exact wordComing_placeWrite _ (.inl ⟨q, hq, rfl, rfl⟩)
  · exact wordComing_placeWrite _ (.inr h)

theorem pumpReports_wordComing {a v : Nat} (n : Nat) {s : State} (h : wordComing a v s) :
    wordComing a v (pumpReports n s) :=
  pumpReports_keeps (P := wordComing a v) (fun w _ _ => wordComing_placeWrite w)
    (fun _ _ _ _ _ hp _ _ => wordComing_record _ hp) (fun _ _ _ hp _ => wordComing_word hp) n h

theorem pumpReports_recordComing {addr : Nat} {bytes : List Byte} {a v : Nat} (n : Nat) {s : State}
    (h : recordComing addr bytes a v s) : recordComing addr bytes a v (pumpReports n s) := by
  refine pumpReports_keeps (P := recordComing addr bytes a v)
    (fun w s _ h => h.mono (by simp) (placeWrite_grows w (grows.refl _))) ?_ ?_ n h
  · intro s p rest addr' bytes' hp hr hnot h
    obtain ⟨q, hq, hqr, hqn, ha, hv⟩ | ⟨h, hw⟩ := h
    · rw [hp, List.mem_cons] at hq
      obtain rfl | hq := hq
      · rw [hr, Option.some.injEq, Prod.mk.injEq] at hqr
        obtain ⟨rfl, rfl⟩ := hqr
        exact .inr ⟨placeWrite_placed _ _, wordComing_record _ hp (.inl ⟨q, by simp [hp], ha, hv⟩)⟩
      · exact .inl ⟨q, by simp [hq], hqr, hqn, ha, hv⟩
    · exact .inr ⟨placed_placeWrite _ h, wordComing_record _ hp hw⟩
  · intro s p rest hp hin h
    obtain ⟨q, hq, hqr, hqn, ha, hv⟩ | ⟨h, hw⟩ := h
    · rw [hp, List.mem_cons] at hq
      obtain rfl | hq := hq
      · simp [hqr, hqn] at hin
      · exact .inl ⟨q, by simp [hq], hqr, hqn, ha, hv⟩
    · exact .inr ⟨placed_placeWrite _ h, wordComing_word hp hw⟩

/-! ### Own reads (R47) -/

/-- Own reads have only been added. -/
def readsGrow (p q : PathMonitor) : Prop := ∃ l, q.reads = p.reads ++ l

theorem readsGrow.of_eq {p q : PathMonitor} (h : q.reads = p.reads) : readsGrow p q := ⟨[], by simp [h]⟩

theorem readsGrow.trans {p q r : PathMonitor} : readsGrow p q → readsGrow q r → readsGrow p r
  | ⟨a, ha⟩, ⟨b, hb⟩ => ⟨a ++ b, by simp [hb, ha]⟩

theorem issued.mono {s t : State} {b : Block} {addr beats : Nat} {use : ReadUse} (g : readsGrow s.path t.path) :
    issued s b addr beats use → issued t b addr beats use
  | ⟨r, hr, heq⟩ => by
    obtain ⟨l, hl⟩ := g
    exact ⟨r, by simp [hl, hr], heq⟩

theorem issueRead_issued (b : Block) (addr beats : Nat) (use : ReadUse) (s : State) :
    issued (issueRead b addr beats use s) b addr beats use :=
  ⟨_, List.mem_append_right _ (List.mem_singleton.2 rfl), rfl⟩

@[simp] theorem placeWrite_reads (w : OwnWrite) (s : State) : (placeWrite w s).path.reads = s.path.reads := by
  unfold placeWrite
  split <;> rfl

@[simp] theorem beginWriteBack_reads (i : Nat) (s : State) : (beginWriteBack i s).path.reads = s.path.reads := by
  unfold beginWriteBack
  dsimp only
  split
  · rw [placeWrite_reads]
    rfl
  · rfl

@[simp] theorem beginEvictions_reads (n : Nat) (s : State) : (beginEvictions n s).path.reads = s.path.reads := by
  induction n generalizing s with
  | zero => rfl
  | succ n ih =>
    simp only [beginEvictions]
    split
    · rfl
    · split
      · rfl
      · rw [ih]
        simp [setLine]

theorem seekVictims_readsGrow (n : Nat) (s : State) : readsGrow s.path (seekVictims n s).path := by
  induction n generalizing s with
  | zero => exact .of_eq rfl
  | succ n ih =>
    simp only [seekVictims]
    split
    · exact .of_eq rfl
    · split
      · exact .trans ⟨_, rfl⟩ (ih _)
      · exact .of_eq (by simp)

theorem serveMisses_readsGrow (s : State) : readsGrow s.path (serveMisses s).path := by
  unfold serveMisses
  split
  · exact .of_eq rfl
  · exact seekVictims_readsGrow _ _

theorem requestLine_readsGrow (r : Requester) (a : Nat) (s : State) : readsGrow s.path (requestLine r a s).path := by
  unfold requestLine
  split
  · exact .of_eq rfl
  · split
    · exact .of_eq rfl
    · exact serveMisses_readsGrow _

theorem judgeFinisher_readsGrow (s : State) : readsGrow s.path (judgeFinisher s).path := by
  unfold judgeFinisher
  split
  · split
    · exact .of_eq rfl
    · exact requestLine_readsGrow _ _ _
  · exact .of_eq rfl

theorem tryTake_readsGrow (s : State) : readsGrow s.path (tryTake s).path := by
  unfold tryTake
  split
  · split
    · exact .of_eq rfl
    · exact ⟨_, rfl⟩
  · exact .of_eq rfl

theorem settleEvent_readsGrow {old s : State} (h : passStarts old s = false) : readsGrow s.path (settleEvent old s).path := by
  rw [settleEvent_of_not_passStarts h]
  exact (tryTake_readsGrow s).trans (judgeFinisher_readsGrow _)

@[simp] theorem moveHead_reads (s : State) : (moveHead s).path.reads = s.path.reads := by
  unfold moveHead
  split
  · rfl
  · split
    · rfl
    · split
      · rfl
      · dsimp only
        split
        · rfl
        · split <;> rfl

/-! ### A write of one control block field (R41) -/

/-- A transaction that moves neither links nor relay: what the head's leaving and the end of the event make of it. -/
theorem dealWith_of_still {s u : State} {x : Txn} (htake : takeTxn x s = u) (hs : u.sup = s.sup) (hr : u.relay = s.relay) :
    (dealWith x s).cmd = u.cmd ∧ (dealWith x s).rep = u.rep ∧ (dealWith x s).path.baseSel = u.path.baseSel ∧
      grows u.path (dealWith x s).path ∧ readsGrow u.path (dealWith x s).path ∧
      keeps [.clock, .settings, .position, .coverage, .links, .capture, .rating, .settlement, .engine, .reports] u
        (dealWith x s) := by
  have hquiet : passStarts s (moveHead u) = false :=
    passStarts_eq_false (by simp [hs]) (by simp [hr]) (by simp [hr]) (by simp [hr])
  have hend : dealWith x s = settleEvent s (moveHead u) := by rw [← htake]; rfl
  have hkeeps : keeps [.clock, .settings, .position, .coverage, .links, .capture, .rating, .settlement, .engine, .reports] u
      (settleEvent s (moveHead u)) :=
    keeps.trans (t := moveHead u) (by simp [Part.same]) (settleEvent_keeps_links hquiet)
  rw [hend]
  exact ⟨hkeeps.2 .engine (by simp), hkeeps.2 .reports (by simp), by simp,
    settleEvent_grows _ (moveHead_grows (grows.refl _)),
    (readsGrow.of_eq (moveHead_reads u)).trans (settleEvent_readsGrow hquiet), hkeeps⟩

/-- A field that the control block takes is handed to its owner. -/
theorem takeTxn_field {s : State} {f : ControlField} {v : Nat} {x : Txn} (hx : fieldTxn s f v x)
    (htouch : touchesOnly s x .control) (hpart : partField f = false)
    (hring : ringField f = false ∨ s.cmd.run = .stopped) :
    takeTxn x s = handField f v (setHead (headOf x []) s) := by
  have ho : regionOutcome s x .control = { (default : Outcome) with fields := [(f, v)] } := by
    rw [controlOutcome_field hx htouch.1, fieldOutcome_same hx, hpart, if_neg (by simp)]
    obtain h | h := hring <;> simp [h]
  rw [takeTxn, if_pos hx.2.1, takeWrite_of_touchesOnly htouch (by simp [allRegions]), ho]
  rfl

/-- A base or size outside STOPPED is not handed over, and reported (R41, R54). -/
theorem takeTxn_shut {s : State} {f : ControlField} {v : Nat} {x : Txn} (hx : fieldTxn s f v x)
    (htouch : touchesOnly s x .control) (hpart : partField f = false) (hring : ringField f = true)
    (hrun : s.cmd.run ≠ .stopped) :
    takeTxn x s = setHead (headOf x []) (pathFault x .control faultProtectedWrite 0 s) := by
  have ho : regionOutcome s x .control = { (default : Outcome) with faults := [(faultProtectedWrite, 0)] } := by
    rw [controlOutcome_field hx htouch.1, fieldOutcome_same hx, hpart, if_neg (by simp)]
    simp [hring, hrun]
  rw [takeTxn, if_pos hx.2.1, takeWrite_of_touchesOnly htouch (by simp [allRegions]), ho, ← pathFault_setHead]
  rfl

/-! ### The latches (R178, R184) -/

theorem cmdRing_congr {s t : State} (hb : t.cmd.base = s.cmd.base) (hn : t.cmd.size = s.cmd.size) : cmdRing t = cmdRing s := by
  unfold cmdRing
  rw [hb, hn]

theorem repRing_congr {s t : State} (hb : t.rep.base = s.rep.base) (hn : t.rep.size = s.rep.size) : repRing t = repRing s := by
  unfold repRing
  rw [hb, hn]

/-- The command ring's geometry and view as a latch leaves them. -/
def latched (l : Latch) (s : State) : State :=
  { s with cmd := { s.cmd with
      view := none, fetching := none, latched := s.cmd.latched + 1
      base := match l with | .base v => some v | .size _ => s.cmd.base
      size := match l with | .base _ => s.cmd.size | .size v => some v } }

theorem applyLatch_eq (l : Latch) (s : State) : applyLatch l s = if (cmdRing (latched l s)).isSome
    then placeWrite (fieldWrite .commandEngine (consumerAddr s) [(0, 4, 0)] .consumerReset)
      { latched l s with cmd := { (latched l s).cmd with consumer := 0 } }
    else latched l s := by
  cases l with
  | base v =>
    have hstep : applyLatch (.base v) s = match cmdRing (latched (.base v) s) with
      | none => latched (.base v) s
      | some _ => placeWrite (fieldWrite .commandEngine (consumerAddr s) [(0, 4, 0)] .consumerReset)
          { latched (.base v) s with cmd := { (latched (.base v) s).cmd with consumer := 0 } } := rfl
    rw [hstep]
    cases cmdRing (latched (.base v) s) <;> rfl
  | size v =>
    have hstep : applyLatch (.size v) s = match cmdRing (latched (.size v) s) with
      | none => latched (.size v) s
      | some _ => placeWrite (fieldWrite .commandEngine (consumerAddr s) [(0, 4, 0)] .consumerReset)
          { latched (.size v) s with cmd := { (latched (.size v) s).cmd with consumer := 0 } } := rfl
    rw [hstep]
    cases cmdRing (latched (.size v) s) <;> rfl

theorem applyLatch_cmd (l : Latch) (s : State) : (applyLatch l s).cmd =
    { (latched l s).cmd with consumer := if (cmdRing (applyLatch l s)).isSome then 0 else s.cmd.consumer } := by
  have hring : cmdRing (applyLatch l s) = cmdRing (latched l s) := by
    rw [applyLatch_eq]
    split <;> exact cmdRing_congr (by simp) (by simp)
  rw [hring, applyLatch_eq]
  split <;> simp [latched]

theorem applyLatch_placed {l : Latch} {s : State} (h : (cmdRing (applyLatch l s)).isSome = true) :
    placed (applyLatch l s) (fieldWrite .commandEngine (consumerAddr s) [(0, 4, 0)] .consumerReset) := by
  have hring : cmdRing (applyLatch l s) = cmdRing (latched l s) := by
    rw [applyLatch_eq]
    split <;> exact cmdRing_congr (by simp) (by simp)
  rw [hring] at h
  rw [applyLatch_eq, if_pos h]
  exact placeWrite_placed _ _

/-- Which latch a command ring field makes. -/
def latchOf (f : ControlField) (v : Nat) : Latch := if f = .cmdBase then .base v else .size v

theorem handField_latch {f : ControlField} {v : Nat} {s : State} (hf : f = .cmdBase ∨ f = .cmdSize) (hjob : s.cmd.job = none) :
    handField f v s = applyLatch (latchOf f v) s := by
  obtain rfl | rfl := hf <;> simp [handField, latchCommand, hjob, latchOf]

theorem latched_geometry {f : ControlField} {v : Nat} (s : State) (hf : f = .cmdBase ∨ f = .cmdSize) :
    (latched (latchOf f v) s).cmd.base = (if f = .cmdBase then some v else s.cmd.base) ∧
      (latched (latchOf f v) s).cmd.size = (if f = .cmdSize then some v else s.cmd.size) := by
  obtain rfl | rfl := hf <;> simp [latched, latchOf]

/-- The report ring's geometry and view as a latch of field `f` leaves them. -/
def repLatched (f : ControlField) (v : Nat) (s : State) : State :=
  { s with rep := { s.rep with
      base := if f = .repBase then some v else s.rep.base
      size := if f = .repSize then some v else s.rep.size
      view := none } }

theorem handField_repLatch {f : ControlField} {v : Nat} {s : State} (hf : f = .repBase ∨ f = .repSize) :
    handField f v s = restartReports (repLatched f v s) := by
  obtain rfl | rfl := hf <;> simp [handField, latchReportBase, latchReportSize, repLatched]

theorem restartReports_of_none {s : State} (h : repRing s = none) : restartReports s = s := by
  simp [restartReports, h]

/-- The Report Writer as a valid latch restarts it, before its pending writes run (R184). -/
def restarted (s : State) : State :=
  { s with rep := { s.rep with
      producer := 0, written := 0
      pend := s.rep.pend ++ [{ record := none, wordAddr := producerAddr s, value := 0, recordIn := false }] } }

theorem restartReports_of_some {s : State} (h : (repRing s).isSome = true) :
    restartReports s = issueRead .reportWriter (ctrlBase (runReports (restarted s)) + 32) 1
      (.consumerIndex (runReports (restarted s)).rep.accepted) (runReports (restarted s)) := by
  obtain ⟨g, hg⟩ := Option.isSome_iff_exists.1 h
  simp [restartReports, hg, restarted]

@[simp] theorem pumpReports_producer (n : Nat) (s : State) : (pumpReports n s).rep.producer = s.rep.producer := by
  refine pumpReports_keeps (P := fun t => t.rep.producer = s.rep.producer) ?_ ?_ ?_ n rfl
  · intro w t _ h
    simpa using h
  · intro t p rest addr bytes _ _ _ h
    simpa using h
  · intro t p rest _ _ h
    simpa using h

theorem ctrlBase_congr {s t : State} (h : t.path.baseSel = s.path.baseSel) : ctrlBase t = ctrlBase s := by
  unfold ctrlBase
  rw [h]

theorem producerAddr_congr {s t : State} (h : t.path.baseSel = s.path.baseSel) : producerAddr t = producerAddr s := by
  unfold producerAddr
  rw [ctrlBase_congr h]

/-- What a latch of the report ring leaves of the Report Writer (R184). -/
theorem restartReports_rep (s : State) :
    SameView s { restartReports s with rep := { (restartReports s).rep with written := s.rep.written } } ∧
    (restartReports s).rep.producer = (if (repRing s).isSome then 0 else s.rep.producer) ∧
    (restartReports s).rep.written = (if (repRing s).isSome then 0 else s.rep.written) := by
  cases h : repRing s with
  | none => simp [restartReports_of_none h]
  | some g =>
    rw [restartReports_of_some (by simp [h])]
    simp [runReports, restarted]

/-- The producer word 0 and the read of the consumer index are on their way (R184). -/
theorem restartReports_sends {s : State} (h : (repRing s).isSome = true) :
    wordComing (producerAddr s) 0 (restartReports s) ∧
      issued (restartReports s) .reportWriter (ctrlBase s + 32) 1 (.consumerIndex s.rep.accepted) := by
  have hword : wordComing (producerAddr s) 0 (runReports (restarted s)) :=
    pumpReports_wordComing _ (.inl ⟨_, List.mem_append_right _ (List.mem_singleton.2 rfl), rfl, rfl⟩)
  have hbase : ctrlBase (runReports (restarted s)) = ctrlBase s := ctrlBase_congr (by simp [runReports, restarted])
  have haccepted : (runReports (restarted s)).rep.accepted = s.rep.accepted := by simp [runReports, restarted]
  rw [restartReports_of_some h, hbase, haccepted]
  exact ⟨hword.mono (by simp) ⟨⟨[], by simp [issueRead]⟩, [], by simp [issueRead]⟩, issueRead_issued _ _ _ _ _⟩

/-- Where a latch of a ring field does not reach the links and the relay, it keeps everything but the owner's block. -/
theorem dealWith_ringField_keeps {s : State} {f : ControlField} {v : Nat} {x : Txn} {l : List Part} (hx : fieldTxn s f v x)
    (htouch : touchesOnly s x .control) (hpart : partField f = false) (hring : ringField f = true)
    (hstill : ∀ u, (handField f v u).sup = u.sup ∧ (handField f v u).relay = u.relay ∧ keeps l u (handField f v u))
    (hl : l ⊆ [.clock, .settings, .position, .coverage, .links, .capture, .rating, .settlement, .engine]) :
    keeps l s (dealWith x s) := by
  have hsub : l ⊆ [.clock, .settings, .position, .coverage, .links, .capture, .rating, .settlement, .engine, .reports] :=
    List.Subset.trans hl (by simp)
  by_cases hrun : s.cmd.run = .stopped
  · obtain ⟨hs, hr, hk⟩ := hstill (setHead (headOf x []) s)
    obtain ⟨-, -, -, -, -, hkeeps⟩ := dealWith_of_still (takeTxn_field hx htouch hpart (.inr hrun)) (hs.trans rfl) (hr.trans rfl)
    exact (keeps.trans (t := setHead (headOf x []) s) (keeps.mono (by simp [Part.same]) hl) hk).trans (hkeeps.mono hsub)
  · obtain ⟨-, -, -, -, -, hkeeps⟩ := dealWith_of_still (takeTxn_shut hx htouch hpart hring hrun) (by simp) (by simp)
    refine keeps.trans (t := setHead (headOf x []) (pathFault x .control faultProtectedWrite 0 s)) (keeps.mono ?_ hl) (hkeeps.mono hsub)
    simp [Part.same]

theorem commandLatch_still {f : ControlField} (hf : f = .cmdBase ∨ f = .cmdSize) (v : Nat) (u : State) :
    (handField f v u).sup = u.sup ∧ (handField f v u).relay = u.relay ∧
      keeps [.clock, .settings, .position, .coverage, .links, .capture, .rating, .settlement] u (handField f v u) := by
  obtain rfl | rfl := hf <;> simp [handField, Part.same]

theorem reportLatch_still {f : ControlField} (hf : f = .repBase ∨ f = .repSize) (v : Nat) (u : State) :
    (handField f v u).sup = u.sup ∧ (handField f v u).relay = u.relay ∧
      keeps [.clock, .settings, .position, .coverage, .links, .capture, .rating, .settlement, .engine] u
        (handField f v u) := by
  obtain rfl | rfl := hf <;> simp [handField, Part.same]

/-- Settles O21: in STOPPED the field is latched by its owner; elsewhere it is reported and dropped. -/
theorem ringGeometryLatches : Obligations.RingGeometryLatches := by
  refine ⟨fun f v x s hf hx hfree htouch => ?_, fun f v x s hf hx hfree htouch => ?_⟩
  · have hkind : partField f = false ∧ ringField f = true := by obtain rfl | rfl := hf <;> decide
    refine ⟨_, exec_of_portFree rfl rfl hx.1 hfree, fun hrun hjob => ?_, fun hrun => ?_,
      dealWith_ringField_keeps hx htouch hkind.1 hkind.2 (commandLatch_still hf v) (by simp)⟩
    · have htake := (takeTxn_field hx htouch hkind.1 (.inr hrun)).trans (handField_latch hf (by simpa using hjob))
      obtain ⟨hcmd, -, -, hgrows, -, -⟩ := dealWith_of_still htake (by simp) (by simp)
      have hlatch := applyLatch_cmd (latchOf f v) (setHead (headOf x []) s)
      have hring : cmdRing (dealWith x s) = cmdRing (applyLatch (latchOf f v) (setHead (headOf x []) s)) :=
        cmdRing_congr (by rw [hcmd]) (by rw [hcmd])
      obtain ⟨hbase, hsize⟩ := latched_geometry (v := v) (setHead (headOf x []) s) hf
      rw [hring, hcmd]
      refine ⟨?_, ?_, ?_, ?_, ?_, fun h => (applyLatch_placed h).mono hgrows⟩
      · rw [hlatch]
        exact hbase
      · rw [hlatch]
        exact hsize
      all_goals
        rw [hlatch]
        rfl
    · obtain ⟨hcmd, -, -, -, -, hkeeps⟩ :=
        dealWith_of_still (takeTxn_shut hx htouch hkind.1 hkind.2 hrun) (by simp) (by simp)
      refine keeps.trans (t := setHead (headOf x []) (pathFault x .control faultProtectedWrite 0 s)) ?_ (hkeeps.mono (by simp))
      simp [Part.same]
  · have hkind : partField f = false ∧ ringField f = true := by obtain rfl | rfl := hf <;> decide
    refine ⟨_, exec_of_portFree rfl rfl hx.1 hfree, fun hrun => ?_, fun hrun => ?_,
      dealWith_ringField_keeps hx htouch hkind.1 hkind.2 (reportLatch_still hf v) (by simp)⟩
    · have hstill := reportLatch_still hf v (setHead (headOf x []) s)
      rw [handField_repLatch hf] at hstill
      have htake := (takeTxn_field hx htouch hkind.1 (.inr hrun)).trans (handField_repLatch hf)
      obtain ⟨-, hrep, hsel, hgrows, hreads, -⟩ := dealWith_of_still htake hstill.1 hstill.2.1
      obtain ⟨⟨hbase, hsize, -, hview, -⟩, hproducer, hwritten⟩ :=
        restartReports_rep (repLatched f v (setHead (headOf x []) s))
      have hring : repRing (dealWith x s) = repRing (repLatched f v (setHead (headOf x []) s)) :=
        repRing_congr (by rw [hrep]; exact hbase) (by rw [hrep]; exact hsize)
      rw [hring, hrep]
      refine ⟨hbase, hsize, hview, hproducer, hwritten, fun h => ?_⟩
      obtain ⟨hword, hissued⟩ := restartReports_sends h
      refine ⟨?_, hissued.mono hreads⟩
      have haddr : producerAddr (dealWith x s) = producerAddr (repLatched f v (setHead (headOf x []) s)) :=
        producerAddr_congr (by rw [hsel]; simp)
      have hcoming := hword.mono (by rw [hrep]) hgrows
      rw [← haddr] at hcoming
      exact hcoming
    · obtain ⟨-, hrep, -⟩ := dealWith_of_still (takeTxn_shut hx htouch hkind.1 hkind.2 hrun) (by simp) (by simp)
      rw [hrep]
      simp

end Sys2Proof.Machine
end

section
/-! The ring indexes at the control block (R179, R180, R184, R186). -/

namespace Sys2Proof.Machine

/-! ### The command producer index (R179, R180) -/

theorem commandProducer_of_bad {v : Nat} {s : State} (h : ∀ base size, cmdRing s = some (base, size) → size ≤ v) :
    ∃ n, commandProducer v s = badIndex 1 v n s := by
  cases hr : cmdRing s with
  | none => exact ⟨s.cmd.size.getD 0, by simp [commandProducer, hr]⟩
  | some g =>
    have hge : ¬ v < g.2 := Nat.not_lt.2 (h g.1 g.2 hr)
    exact ⟨g.2, by simp [commandProducer, hr, hge]⟩

/-- The engine with a new view, before it fetches. -/
def viewTaken (v : Nat) (s : State) : State := { s with cmd := { s.cmd with view := some v, blocked := false } }

theorem commandProducer_of_good {v base size : Nat} {s : State} (hr : cmdRing s = some (base, size)) (hv : v < size) :
    commandProducer v s = tryFetch (viewTaken v s) := by
  simp [commandProducer, hr, hv, viewTaken]

theorem mayFetch_viewTaken {v base size : Nat} {s : State} (hr : cmdRing s = some (base, size)) :
    mayFetch (viewTaken v s) = true ↔ v ≠ s.cmd.consumer ∧ s.cmd.job = none ∧ s.cmd.fetching = none := by
  have hr' : cmdRing (viewTaken v s) = some (base, size) := hr
  have hview : (viewTaken v s).cmd.view = some v := rfl
  simp only [mayFetch, hr', hview]
  simp [viewTaken, and_assoc]

/-- An idle engine whose consumer position differs from the view fetches the record there (R180). -/
theorem tryFetch_viewTaken {v base size : Nat} {s : State} (hr : cmdRing s = some (base, size)) :
    (tryFetch (viewTaken v s)).cmd = { s.cmd with
      view := some v, blocked := false
      fetching := if v ≠ s.cmd.consumer ∧ s.cmd.job = none ∧ s.cmd.fetching = none
        then some (base + 128 * s.cmd.consumer, s.cmd.consumer, size) else s.cmd.fetching } ∧
    (v ≠ s.cmd.consumer → s.cmd.job = none → s.cmd.fetching = none →
      issued (tryFetch (viewTaken v s)) .commandEngine (base + 128 * s.cmd.consumer) 8 (.fetch s.cmd.latched)) := by
  have hr' : cmdRing (viewTaken v s) = some (base, size) := hr
  have hstep : tryFetch (viewTaken v s) = if mayFetch (viewTaken v s) then
      issueRead .commandEngine (base + 128 * s.cmd.consumer) 8 (.fetch s.cmd.latched)
        { viewTaken v s with cmd := { (viewTaken v s).cmd with
            fetching := some (base + 128 * s.cmd.consumer, s.cmd.consumer, size) } }
      else viewTaken v s := by
    simp only [tryFetch, hr']
    rfl
  have hmay := mayFetch_viewTaken (v := v) hr
  rw [hstep]
  by_cases h : v ≠ s.cmd.consumer ∧ s.cmd.job = none ∧ s.cmd.fetching = none
  · rw [if_pos (hmay.2 h), if_pos h]
    exact ⟨rfl, fun _ _ _ => issueRead_issued _ _ _ _ _⟩
  · rw [if_neg (fun hm => h (hmay.1 hm)), if_neg h]
    exact ⟨rfl, fun h1 h2 h3 => absurd ⟨h1, h2, h3⟩ h⟩

/-! ### The report consumer index (R184, R186) -/

theorem calledLines_self (s : State) : calledLines none s s = [] := by
  rw [calledLines, List.filter_eq_nil_iff]
  intro j _ h
  simp [grantDue, grantableNow] at h
  tauto

/-- With no billing report waiting nothing is placed, and no line is granted. -/
theorem placeWaiters_of_nil {s : State} (h : s.rep.waiters = []) : placeWaiters s = s := by
  have hloop : placeWaitersLoop 4096 s = s := by simp [placeWaitersLoop, h]
  rw [placeWaiters, hloop, grantCalled, calledLines_self]
  rfl

/-- The Report Writer with a consumer value accepted. -/
def valueAccepted (v : Nat) (s : State) : State :=
  { s with rep := { s.rep with view := some v, accepted := s.rep.accepted + 1 } }

theorem reportConsumer_of_good {v base size : Nat} {s : State} (hr : repRing s = some (base, size)) (hv : v < size)
    (hw : s.rep.waiters = []) : reportConsumer v s = valueAccepted v s := by
  simp only [reportConsumer, hr, hv, if_true]
  exact placeWaiters_of_nil hw

theorem reportConsumer_of_bad {v : Nat} {s : State} (h : ∀ base size, repRing s = some (base, size) → size ≤ v) :
    ∃ n, reportConsumer v s = badIndex 2 v n s := by
  cases hr : repRing s with
  | none => exact ⟨s.rep.size.getD 0, by simp [reportConsumer, hr]⟩
  | some g =>
    have hge : ¬ v < g.2 := Nat.not_lt.2 (h g.1 g.2 hr)
    exact ⟨g.2, by simp [reportConsumer, hr, hge]⟩

/-- A value is taken or refused; either way nothing but the Report Writer and own traffic moves. -/
theorem reportConsumer_cases (v : Nat) {s : State} (hw : s.rep.waiters = []) :
    reportConsumer v s = valueAccepted v s ∨ ∃ n, reportConsumer v s = badIndex 2 v n s := by
  by_cases h : ∃ base size, repRing s = some (base, size) ∧ v < size
  · obtain ⟨base, size, hr, hv⟩ := h
    exact .inl (reportConsumer_of_good hr hv hw)
  · exact .inr (reportConsumer_of_bad fun base size hr => Nat.not_lt.1 fun hv => h ⟨base, size, hr, hv⟩)

theorem reportConsumer_keeps (v : Nat) {s : State} (hw : s.rep.waiters = []) :
    keeps [.clock, .settings, .position, .coverage, .links, .relay, .capture, .rating, .settlement, .engine] s
      (reportConsumer v s) := by
  obtain h | ⟨n, h⟩ := reportConsumer_cases v hw
  · rw [h]
    simp [Part.same, valueAccepted]
  · rw [h]
    simp [Part.same]

theorem irq_of_view {s : State} {v : Nat} (h : s.rep.view = some v) : irq s = decide (s.rep.written ≠ v) := by
  simp only [irq, h, bne, decide_not, Bool.beq_eq_decide_eq]

/-! ### The read of the consumer index (R184) -/

theorem consumerReadDone_of_stale {data : List Byte} {k : Nat} {r : OwnRead} {s : State} (hfront : frontRead s = some r)
    (huse : r.use = .consumerIndex k) (hk : k ≠ s.rep.accepted) : consumerReadDone data s = answered s := by
  simp [consumerReadDone, hfront, huse, hk]

theorem consumerReadDone_of_fresh {data : List Byte} {k : Nat} {r : OwnRead} {s : State} (hfront : frontRead s = some r)
    (huse : r.use = .consumerIndex k) (hk : k = s.rep.accepted) :
    consumerReadDone data s = settleEvent s (reportConsumer (field data 8 4) (answered s)) := by
  simp [consumerReadDone, hfront, huse, hk]

theorem settleEvent_answered {s u : State}
    (h : keeps [.clock, .settings, .position, .coverage, .links, .relay, .capture, .rating, .settlement, .engine] s u) :
    keeps [.clock, .settings, .position, .coverage, .links, .capture, .rating, .settlement, .engine] s (settleEvent s u) :=
  (h.mono (by simp)).trans
    ((settleEvent_keeps_of_still (h.2 .links (by simp)) (h.2 .relay (by simp))).mono (by simp))

/-- Settles O22: the index goes to its owner, which takes or refuses it. -/
theorem ringIndexesAreTaken : Obligations.RingIndexesAreTaken := by
  refine ⟨fun v x s hx hfree htouch => ?_, fun v x s hx hfree htouch hw => ?_, fun data k base size r s hfront huse hr hw => ?_⟩
  · have htake : takeTxn x s = commandProducer v (setHead (headOf x []) s) := takeTxn_field hx htouch rfl (.inl rfl)
    obtain ⟨hcmd, -, -, -, hreads, hkeeps⟩ := dealWith_of_still htake (by simp) (by simp)
    refine ⟨_, exec_of_portFree rfl rfl hx.1 hfree, fun base size hr hv => ?_, fun h => ?_,
      keeps.trans (t := commandProducer v (setHead (headOf x []) s)) (by simp [Part.same]) (hkeeps.mono (by simp))⟩
    · have hgood := commandProducer_of_good (s := setHead (headOf x []) s) hr hv
      obtain ⟨hfetch, hissued⟩ := tryFetch_viewTaken (v := v) (s := setHead (headOf x []) s) hr
      rw [hgood] at hcmd hreads
      exact ⟨hcmd.trans hfetch, fun h1 h2 h3 => (hissued h1 h2 h3).mono hreads⟩
    · obtain ⟨n, hbad⟩ := commandProducer_of_bad (s := setHead (headOf x []) s) h
      rw [hcmd, hbad]
      simp
  · have htake : takeTxn x s = reportConsumer v (setHead (headOf x []) s) := takeTxn_field hx htouch rfl (.inl rfl)
    have hmoved := reportConsumer_keeps v (s := setHead (headOf x []) s) hw
    obtain ⟨-, hrep, -, -, -, hkeeps⟩ := dealWith_of_still htake (hmoved.2 .links (by simp)) (hmoved.2 .relay (by simp))
    have hstart : keeps [.clock, .settings, .position, .coverage, .links, .capture, .rating, .settlement, .engine] s
        (setHead (headOf x []) s) := by simp [Part.same]
    refine ⟨_, exec_of_portFree rfl rfl hx.1 hfree, fun base size hr hv => ?_, fun h => ?_,
      (hstart.trans (hmoved.mono (by simp))).trans (hkeeps.mono (by simp))⟩
    · rw [reportConsumer_of_good (s := setHead (headOf x []) s) hr hv hw] at hrep
      refine ⟨hrep, ?_⟩
      have hview : (dealWith x s).rep.view = some v := by rw [hrep]; rfl
      rw [irq_of_view hview, hrep]
      rfl
    · obtain ⟨n, hbad⟩ := reportConsumer_of_bad (s := setHead (headOf x []) s) h
      rw [hrep, hbad]
      simp
  · have hexec : exec (.reportConsumerReadDone data) s = .next (consumerReadDone data.toList s) := rfl
    refine ⟨_, hexec, fun hk hv => ?_, fun hk => ?_, ?_⟩
    · rw [consumerReadDone_of_fresh hfront huse hk, reportConsumer_of_good (s := answered s) hr hv hw]
      simp [valueAccepted]
    · rw [consumerReadDone_of_stale hfront huse hk]
      simp
    · by_cases hk : k = s.rep.accepted
      · rw [consumerReadDone_of_fresh hfront huse hk]
        refine settleEvent_answered (keeps.trans (t := answered s) ?_ (reportConsumer_keeps _ hw))
        simp [Part.same]
      · rw [consumerReadDone_of_stale hfront huse hk]
        simp [Part.same]

end Sys2Proof.Machine
end

section
/-! What the requests for lines, the pending misses and the end of an event keep of each cache line (R153, R157, R158). -/

namespace Sys2Proof.Machine

@[simp] theorem lineOf_setLine (i j : Nat) (l : Line) (s : State) :
    lineOf (setLine i l s) j = if j = i then l else lineOf s j := by
  simp [lineOf, setLine]

/-- A property of the lines that a begun write-back, an eviction mark and a new fill keep. -/
structure FillStable (P : Nat → Line → Prop) : Prop where
  writes : ∀ i l, l.st = .dirty → P i l → P i { l with st := .writing, redirty := false }
  evicts : ∀ i l, P i l → P i { l with evictMark := true }
  fills : ∀ i l a w, l.st = .invalid ∨ l.st = .clean → P i l →
    P i { (default : Line) with st := .filling, account := some a, waiting := w }

/-- A property of the lines that a request keeps too. -/
structure LineStable (P : Nat → Line → Prop) : Prop extends FillStable P where
  waits : ∀ i l r, P i l → P i { l with waiting := l.waiting ++ [r] }

theorem lines_setLine {P : Nat → Line → Prop} {s : State} {i : Nat} {l : Line} (h : ∀ j, P j (lineOf s j)) (hl : P i l) :
    ∀ j, P j (lineOf (setLine i l s) j) := by
  intro j
  rw [lineOf_setLine]
  split
  · rename_i hj
    exact hj ▸ hl
  · exact h j

@[simp] theorem placeWrite_lineOf (w : OwnWrite) (s : State) (i : Nat) : lineOf (placeWrite w s) i = lineOf s i := by
  simp [lineOf]

theorem beginWriteBack_of_dirty {s : State} {i a : Nat} (hst : (lineOf s i).st = .dirty) (ha : (lineOf s i).account = some a) :
    beginWriteBack i s = placeWrite (fullWrite .accountCache (recordAddr s a) (bytesOfRec (lineOf s i).contents) (.lineBack i))
      (setLine i { lineOf s i with st := .writing, redirty := false } s) := by
  simp [beginWriteBack, hst, ha]

theorem beginWriteBack_of_idle {s : State} {i : Nat} (h : (lineOf s i).st ≠ .dirty ∨ (lineOf s i).account = none) :
    beginWriteBack i s = s := by
  unfold beginWriteBack
  dsimp only
  split
  · obtain h | h := h <;> simp_all
  · rfl

theorem FillStable.beginWriteBack {P : Nat → Line → Prop} (hP : FillStable P) (i : Nat) {s : State}
    (h : ∀ j, P j (lineOf s j)) : ∀ j, P j (lineOf (beginWriteBack i s) j) := by
  by_cases hidle : (lineOf s i).st ≠ .dirty ∨ (lineOf s i).account = none
  · rwa [beginWriteBack_of_idle hidle]
  · rw [not_or, not_not] at hidle
    obtain ⟨hst, ha⟩ := hidle
    obtain ⟨a, ha⟩ := Option.ne_none_iff_exists'.1 ha
    rw [beginWriteBack_of_dirty hst ha]
    simpa using lines_setLine h (hP.writes i _ hst (h i))

theorem FillStable.beginEvictions {P : Nat → Line → Prop} (hP : FillStable P) (n : Nat) {s : State}
    (h : ∀ j, P j (lineOf s j)) : ∀ j, P j (lineOf (beginEvictions n s) j) := by
  induction n generalizing s with
  | zero => exact h
  | succ n ih =>
    simp only [Sys2Proof.Machine.beginEvictions]
    split
    · exact h
    · split
      · exact h
      · rename_i i _
        have hbegun := hP.beginWriteBack i
          (s := { s with cache := { s.cache with misses := claimEviction (some i) s.cache.misses } }) h
        exact ih (lines_setLine hbegun (hP.evicts _ _ (hbegun i)))

theorem victim_st {s : State} {i : Nat} (h : victim s = some i) :
    (lineOf s i).st = .invalid ∨ (lineOf s i).st = .clean := by
  have := List.find?_some h
  simp only [Bool.or_eq_true, Bool.and_eq_true, beq_iff_eq] at this
  tauto

theorem FillStable.seekVictims {P : Nat → Line → Prop} (hP : FillStable P) (n : Nat) {s : State}
    (h : ∀ j, P j (lineOf s j)) : ∀ j, P j (lineOf (seekVictims n s) j) := by
  induction n generalizing s with
  | zero => exact h
  | succ n ih =>
    cases hm : s.cache.misses with
    | nil => simpa [Sys2Proof.Machine.seekVictims, hm] using h
    | cons m rest =>
      cases hv : victim s with
      | none =>
        simp only [Sys2Proof.Machine.seekVictims, hm, hv]
        exact hP.beginEvictions _ h
      | some i =>
        simp only [Sys2Proof.Machine.seekVictims, hm, hv]
        exact ih (lines_setLine (s := { s with cache := { s.cache with misses := claimEviction m.evicting rest } }) h
          (hP.fills _ _ _ _ (victim_st hv) (h i)))

theorem FillStable.serveMisses {P : Nat → Line → Prop} (hP : FillStable P) {s : State} (h : ∀ j, P j (lineOf s j)) :
    ∀ j, P j (lineOf (serveMisses s) j) := by
  unfold Sys2Proof.Machine.serveMisses
  split
  · exact h
  · exact hP.seekVictims _ h

theorem LineStable.requestLine {P : Nat → Line → Prop} (hP : LineStable P) (r : Requester) (a : Nat) {s : State}
    (h : ∀ j, P j (lineOf s j)) : ∀ j, P j (lineOf (requestLine r a s) j) := by
  unfold Sys2Proof.Machine.requestLine
  split
  · exact lines_setLine h (hP.waits _ _ _ (h _))
  · split
    · exact h
    · exact hP.serveMisses (s := { s with cache := { s.cache with misses := s.cache.misses ++ [_] } }) h

theorem LineStable.judgeFinisher {P : Nat → Line → Prop} (hP : LineStable P) {s : State} (h : ∀ j, P j (lineOf s j)) :
    ∀ j, P j (lineOf (judgeFinisher s) j) := by
  unfold Sys2Proof.Machine.judgeFinisher
  split
  · split
    · exact h
    · exact hP.requestLine _ _ (s := setAcct _ s) h
  · exact h

theorem LineStable.settleEvent {P : Nat → Line → Prop} (hP : LineStable P) {old s : State} (hquiet : passStarts old s = false)
    (h : ∀ j, P j (lineOf s j)) : ∀ j, P j (lineOf (settleEvent old s) j) := by
  rw [settleEvent_of_not_passStarts hquiet]
  refine hP.judgeFinisher fun j => ?_
  have hsame : lineOf (tryTake s) j = lineOf s j := by simp [lineOf]
  rw [hsame]
  exact h j

/-- A line whose write-back is under way stays so, with its record. -/
theorem lineStable_writing (i : Nat) (c : AcctRec) : LineStable fun j l => j = i → l.st = .writing ∧ l.contents = c where
  waits _ _ _ h := h
  writes _ _ hd h hj := absurd (h hj).1 (by simp [hd])
  evicts _ _ h := h
  fills _ _ _ _ hst h hj := by
    have := (h hj).1
    simp_all

end Sys2Proof.Machine
end

section
/-! Passing traffic of the account table (R42, R53, R162). -/

namespace Sys2Proof.Machine

theorem regionOf_accountTable {s : State} {r : Nat × Nat} (h : regionOf s .accountTable = some r) :
    r = (s.cfg.acctBase, 64 * s.cfg.accounts) := by
  simp only [regionOf] at h
  split at h <;> simp_all

theorem accountTable_of_touches {s : State} {x : Txn} (h : touches s x .accountTable = true) :
    regionOf s .accountTable = some (s.cfg.acctBase, 64 * s.cfg.accounts) ∧
      shareByte (rangeOf x) (s.cfg.acctBase, 64 * s.cfg.accounts) = true := by
  obtain ⟨r, hr, hshare⟩ := region_of_touches h
  obtain rfl := regionOf_accountTable hr
  exact ⟨hr, hshare⟩

/-- A read inside one record presents that record. -/
theorem slotsIn_record {s : State} {x : Txn} {a : Nat} (hbeats : 1 ≤ x.beats) (hlo : recordAddr s a ≤ x.addr)
    (hhi : x.addr + 16 * x.beats ≤ recordAddr s a + 64)
    (hshare : shareByte (rangeOf x) (s.cfg.acctBase, 64 * s.cfg.accounts) = true) :
    slotsIn x (s.cfg.acctBase, 64 * s.cfg.accounts) 64 = [a] := by
  rw [shareByte_iff] at hshare
  simp only [rangeOf, recordAddr] at hshare hlo hhi
  have hfirst : (firstIn x (s.cfg.acctBase, 64 * s.cfg.accounts) - s.cfg.acctBase) / 64 = a := by
    simp only [firstIn]
    omega
  have hlast : (min (x.addr + 16 * x.beats) (s.cfg.acctBase + 64 * s.cfg.accounts) - s.cfg.acctBase + 64 - 1) / 64 = a + 1 := by
    omega
  simp only [slotsIn, hfirst, hlast, Nat.add_sub_cancel_left, List.range'_one]

/-- The head of a read of the account table that waits for one record, or has this answer for it. -/
def readHead (x : Txn) (a : Nat) (ans : Answer) : Head :=
  { txn := x, recs := [{ account := a, answer := ans }], verdict := none, spent := false }

theorem takeTxn_record {s : State} {x : Txn} {a : Nat} (hx : x.wellFormed = true) (hw : x.write = false)
    (htouch : touches s x .accountTable = true) (hlo : recordAddr s a ≤ x.addr)
    (hhi : x.addr + 16 * x.beats ≤ recordAddr s a + 64) :
    takeTxn x s = presentRead a (setHead (readHead x a .waiting) s) := by
  obtain ⟨hr, hshare⟩ := accountTable_of_touches htouch
  have hslots := slotsIn_record (wellFormed_beats hx) hlo hhi hshare
  simp [takeTxn, hw, takeRead, hr, hshare, hslots, readHead]

theorem answerRead_readHead (x : Txn) (a : Nat) (ans : Answer) (s : State) :
    answerRead a ans (setHead (readHead x a .waiting) s) = setHead (readHead x a ans) s := by
  simp [answerRead, setHead, readHead]

/-- Where no line holds the record, memory answers (R153). -/
theorem presentRead_absent {s : State} {a : Nat} (h : findLine s a = none) (x : Txn) :
    presentRead a (setHead (readHead x a .waiting) s) = setHead (readHead x a .memory) s := by
  have hline : findLine (setHead (readHead x a .waiting) s) a = none := h
  simp [presentRead, hline, answerRead_readHead]

theorem beginWriteBack_setHead (i : Nat) (h : Head) (s : State) :
    beginWriteBack i (setHead h s) = setHead h (beginWriteBack i s) := by
  have hline : lineOf (setHead h s) i = lineOf s i := rfl
  by_cases hidle : (lineOf s i).st ≠ .dirty ∨ (lineOf s i).account = none
  · rw [beginWriteBack_of_idle hidle, beginWriteBack_of_idle (by rwa [hline])]
  · rw [not_or, not_not] at hidle
    obtain ⟨hst, ha⟩ := hidle
    obtain ⟨a, ha⟩ := Option.ne_none_iff_exists'.1 ha
    rw [beginWriteBack_of_dirty hst ha, beginWriteBack_of_dirty (by rwa [hline]) (by rwa [hline]), ← placeWrite_setHead]
    rfl

/-- An idle DIRTY line answers with its record, and its write-back begins (R162). -/
theorem presentRead_dirty {s : State} {a i : Nat} (hfind : findLine s a = some i) (hst : (lineOf s i).st = .dirty)
    (hwait : (lineOf s i).waiting = []) (ha : (lineOf s i).account = some a) (hrun : s.cmd.run ≠ .halted) (x : Txn) :
    presentRead a (setHead (readHead x a .waiting) s) =
      setHead (readHead x a (.line (bytesOfRec (lineOf s i).contents))) (beginWriteBack i s) := by
  have hline : findLine (setHead (readHead x a .waiting) s) a = some i := hfind
  have hof : lineOf (setHead (readHead x a .waiting) s) i = lineOf s i := rfl
  have hgrant : grantableNow (lineOf s i) = true := by simp [grantableNow, holdsRecord, hst, hwait]
  simp [presentRead, hline, hof, hgrant, readGrant, hst, ha, answerRead_readHead, hrun, beginWriteBack_setHead]

theorem length_bytesOfRec (r : AcctRec) : (bytesOfRec r).length = 64 := by
  unfold bytesOfRec
  simp only [List.length_append, length_leBytes, Nat.reduceAdd]

theorem subByte_record {base a : Nat} {b : List Byte} (hlo : base ≤ a) (hhi : a < base + 64) :
    subByte [(base, b)] a = b[a - base]? := by
  simp [subByte, hlo, hhi]

/-- A read inside one record that a line supplies is answered from the line (R42). -/
theorem composed_record {x : Txn} {base : Nat} {b : List Byte} (hb : b.length = 64) (hlo : base ≤ x.addr)
    (hhi : x.addr + 16 * x.beats ≤ base + 64) :
    composed x [(base, b)] [] = (b.drop (x.addr - base)).take (16 * x.beats) := by
  apply List.ext_getElem
  · simp [composed]
    omega
  · intro i h1 h2
    have hi : i < 16 * x.beats := by simpa [composed] using h1
    have hlt : x.addr + i - base < b.length := by omega
    have hbyte : subByte [(base, b)] (x.addr + i) = some b[x.addr + i - base] := by
      rw [subByte_record (by omega) (by omega), List.getElem?_eq_getElem hlt]
    have hplace : x.addr + i - base = x.addr - base + i := by omega
    simp [composed, hbyte, hplace]

theorem whollyAnswered_record {x : Txn} {base : Nat} {b : List Byte} (hw : x.write = false) (hb : b.length = 64)
    (hlo : base ≤ x.addr) (hhi : x.addr + 16 * x.beats ≤ base + 64) : whollyAnswered x [(base, b)] = true := by
  simp only [whollyAnswered, hw, Bool.not_false, Bool.true_and, List.all_eq_true, List.mem_range]
  intro i hi
  rw [subByte_record (by omega) (by omega), Option.isSome_iff_exists]
  exact ⟨b[x.addr + i - base], List.getElem?_eq_getElem (by omega)⟩

/-- A read that a line answers whole is answered at once (R42). -/
theorem moveHead_answered {s : State} {x : Txn} {a : Nat} {b : List Byte} (hw : x.write = false) (hb : b.length = 64)
    (hlo : recordAddr s a ≤ x.addr) (hhi : x.addr + 16 * x.beats ≤ recordAddr s a + 64)
    (hhead : s.path.head = some (readHead x a (.line b))) (howed : s.path.owed = []) :
    moveHead s = { s with path := { s.path with
      head := none
      upOut := s.path.upOut ++ [{ initiator := x.initiator, ok := true
                                  data := (b.drop (x.addr - recordAddr s a)).take (16 * x.beats) }] } } := by
  have hready : headReady (readHead x a (.line b)) = true := rfl
  have hrecs : lineRecords s (readHead x a (.line b)) = [(recordAddr s a, b)] := rfl
  have hwhole := whollyAnswered_record hw hb hlo hhi
  have hdata := composed_record hb hlo hhi
  have hspent : (readHead x a (.line b)).spent = false := rfl
  have htxn : (readHead x a (.line b)).txn = x := rfl
  simp [moveHead, hhead, hready, hspent, htxn, hrecs, hwhole, hdata, answerHead, flushOwed, howed]

/-- A write that lies inside the account table is dropped outside STOPPED (R42, R53). -/
theorem accountOutcome_dropped {s : State} {x : Txn} (hx : x.wellFormed = true) (hw : x.write = true)
    (htouch : touches s x .accountTable = true) (hlo : s.cfg.acctBase ≤ x.addr)
    (hhi : x.addr + 16 * x.beats ≤ s.cfg.acctBase + 64 * s.cfg.accounts) (hrun : s.cmd.run ≠ .stopped) :
    regionOutcome s x .accountTable =
      dropping [(x.addr, 16 * x.beats)] faultProtectedWrite (x.enables.filter id).length := by
  obtain ⟨hr, hshare⟩ := accountTable_of_touches htouch
  have hrange : dropRange x (s.cfg.acctBase, 64 * s.cfg.accounts) = (x.addr, 16 * x.beats) := by
    simp only [dropRange, firstIn, Prod.mk.injEq]
    omega
  have hcount := enabledCount_all (wellFormed_enables hx hw)
  simp [regionOutcome, hr, hshare, accountOutcome, hrun, dropping, hrange, hcount]

theorem accountOutcome_stopped {s : State} {x : Txn} (hrun : s.cmd.run = .stopped) :
    regionOutcome s x .accountTable = default := by
  unfold regionOutcome
  split
  · rfl
  · simp [accountOutcome, hrun]

/-- Settles O23: the read is presented to the cache, the write judged by the run state. -/
theorem accountTableTraffic : Obligations.AccountTableTraffic := by
  refine ⟨fun a x s hx hw hfree htouch hlo hhi => ⟨fun hfind hown => ?_, fun i hfind hst hwait ha hrun howed => ?_⟩,
    fun x s hx hw hfree htouch hlo hhi => ⟨fun hrun hown => ?_, fun hrun howed => ?_⟩⟩
  · have htake := (takeTxn_record hx hw htouch.1 hlo hhi).trans (presentRead_absent hfind x)
    have hmove := moveHead_joins (s := setHead (readHead x a .memory) s) rfl rfl rfl (whollyAnswered_nil hx) hown
    have hend : dealWith x s = settleEvent s (moveHead (setHead (readHead x a .memory) s)) := by rw [dealWith, htake]
    refine ⟨_, exec_of_portFree rfl rfl hx hfree, ?_⟩
    rw [hend, hmove]
    exact ⟨joinsStream_settleEvent ⟨rfl, rfl, rfl⟩, keeps_settleEvent_of_still (by simp [setHead, Part.same])⟩
  · have htake := (takeTxn_record hx hw htouch.1 hlo hhi).trans (presentRead_dirty hfind hst hwait ha hrun x)
    let u := setHead (readHead x a (.line (bytesOfRec (lineOf s i).contents))) (beginWriteBack i s)
    have hbegun := beginWriteBack_of_dirty hst ha
    have haddr : recordAddr u a = recordAddr s a := by simp [u, recordAddr]
    have hmove := moveHead_answered (s := u) hw (length_bytesOfRec _) (by rwa [haddr]) (by rwa [haddr]) rfl (by simpa [u] using howed)
    rw [haddr] at hmove
    have hkept : keeps [.clock, .settings, .position, .coverage, .links, .relay, .capture, .rating, .settlement, .engine,
        .reports] s (moveHead u) := by simp [u, Part.same]
    have hquiet : passStarts s (moveHead u) = false :=
      passStarts_eq_false (hkept.2 .links (by simp)) (by simp [u]) (by simp [u]) (by simp [u])
    have hend : dealWith x s = settleEvent s (moveHead u) := by rw [dealWith, htake]
    have hline : lineOf (moveHead u) i = { lineOf s i with st := .writing, redirty := false } := by
      have hcache : (moveHead u).cache = (beginWriteBack i s).cache := by simp [u]
      unfold lineOf
      rw [hcache, hbegun]
      simp [setLine, lineOf]
    have hstays := (lineStable_writing i (lineOf s i).contents).settleEvent hquiet
      (fun j hj => by rw [hj, hline]; exact ⟨rfl, rfl⟩) i rfl
    have hplaced : placed u (fullWrite .accountCache (recordAddr s a) (bytesOfRec (lineOf s i).contents) (.lineBack i)) := by
      have := placeWrite_placed (fullWrite .accountCache (recordAddr s a) (bytesOfRec (lineOf s i).contents) (.lineBack i))
        (setLine i { lineOf s i with st := .writing, redirty := false } s)
      rwa [← hbegun] at this
    refine ⟨_, exec_of_portFree rfl rfl hx hfree, ?_⟩
    rw [hend]
    refine ⟨by simp [hmove], by simp [hmove, u], by simp [hmove, u], ?_, hstays.1, hstays.2, keeps_settleEvent_of_still hkept⟩
    exact hplaced.mono (settleEvent_grows _ (moveHead_grows (grows.refl _)))
  · obtain ⟨hjoins, -, hkeeps⟩ := dealWith_plain hx
      (takeTxn_of_default hw htouch (by simp [allRegions]) (accountOutcome_stopped hrun)) hown
    exact ⟨_, exec_of_portFree rfl rfl hx hfree, hjoins, hkeeps⟩
  · obtain ⟨h1, h2, h3, h4, -, -, h7⟩ := dealWith_dropped hw htouch (by simp [allRegions])
      (accountOutcome_dropped hx hw htouch.1 hlo hhi hrun) (headOf_spent_of_range hx hw) howed
    exact ⟨_, exec_of_portFree rfl rfl hx hfree, h1, h2, h3, h4, h7⟩

end Sys2Proof.Machine
end

section
/-! The logical uplink ring (R43) and the take that a written slot begins (R77, R78). -/

namespace Sys2Proof.Machine

/-! ### Takes (R78) -/

/-- A take can begin, and reserves entry `e`. -/
structure TakeDue (s : State) (e : Nat) : Prop where
  run : s.cmd.run = .running
  ready : look s.relay.ready s.relay.takePtr = true
  idle : s.relay.take = none
  entry : freeEntryNo s = some e

theorem tryTake_of_due {s : State} {e : Nat} (h : TakeDue s e) :
    tryTake s = issueRead .uplinkRelay (s.cfg.upBase + 16 * s.relay.takePtr) 1 .take
      { s with relay := { s.relay with
          ready := put s.relay.ready s.relay.takePtr false
          held := put s.relay.held s.relay.takePtr true
          takePtr := (s.relay.takePtr + 1) % s.cfg.upSize
          take := some { slot := s.relay.takePtr, entry := e, time := s.clock } } } := by
  obtain ⟨h1, h2, h3, h4⟩ := h
  simp [tryTake, h1, h2, h3, h4]

theorem tryTake_of_not_due {s : State} (h : ∀ e, ¬ TakeDue s e) : tryTake s = s := by
  unfold tryTake
  split
  · rename_i hcond
    simp only [Bool.and_eq_true, beq_iff_eq, Option.isNone_iff_eq_none] at hcond
    obtain ⟨⟨hrun, hready⟩, hidle⟩ := hcond
    cases he : freeEntryNo s with
    | none => rfl
    | some e => exact absurd ⟨hrun, hready, hidle, he⟩ (h e)
  · rfl

theorem takeDue_congr {s t : State} {e : Nat} (hrun : t.cmd.run = s.cmd.run) (hrelay : t.relay = s.relay) :
    TakeDue t e ↔ TakeDue s e := by
  have hentry : freeEntryNo t = freeEntryNo s := by
    unfold freeEntryNo entryOf
    rw [hrelay]
  constructor <;> rintro ⟨h1, h2, h3, h4⟩
  · rw [hrun] at h1
    rw [hrelay] at h2 h3
    rw [hentry] at h4
    exact ⟨h1, h2, h3, h4⟩
  · rw [← hrun] at h1
    rw [← hrelay] at h2 h3
    rw [← hentry] at h4
    exact ⟨h1, h2, h3, h4⟩

/-- Once a take has been tried, trying again begins none. -/
theorem tryTake_again {s t : State} (hrun : t.cmd.run = s.cmd.run) (hrelay : t.relay = (tryTake s).relay) :
    tryTake t = t := by
  refine tryTake_of_not_due fun e hdue => ?_
  by_cases h : ∃ e, TakeDue s e
  · obtain ⟨e', h⟩ := h
    have := hdue.idle
    rw [hrelay, tryTake_of_due h] at this
    cases this
  · rw [not_exists] at h
    rw [tryTake_of_not_due h] at hrelay
    exact h e ((takeDue_congr hrun hrelay).1 hdue)

/-- A take moves the ready mark at the take pointer only. -/
theorem tryTake_ready {s : State} {slot : Nat} (h : s.relay.takePtr ≠ slot ∨ s.relay.take.isSome = true ∨
    look s.relay.ready slot = false) : look (tryTake s).relay.ready slot = look s.relay.ready slot := by
  by_cases hdue : ∃ e, TakeDue s e
  · obtain ⟨e, hdue⟩ := hdue
    rw [tryTake_of_due hdue]
    obtain h | h | h := h
    · simp [issueRead, Ne.symm h]
    · simp [hdue.idle] at h
    · simp [issueRead, h]
  · rw [not_exists] at hdue
    rw [tryTake_of_not_due hdue]

theorem tryTake_lists (s : State) : (tryTake s).relay.table = s.relay.table ∧
    (tryTake s).relay.waitList = s.relay.waitList ∧ (tryTake s).relay.retryList = s.relay.retryList := by
  by_cases hdue : ∃ e, TakeDue s e
  · obtain ⟨e, hdue⟩ := hdue
    rw [tryTake_of_due hdue]
    exact ⟨rfl, rfl, rfl⟩
  · rw [not_exists] at hdue
    rw [tryTake_of_not_due hdue]
    exact ⟨rfl, rfl, rfl⟩

/-! ### A slot handed over (R43) -/

theorem fullSlot_beats {x : Txn} (h : fullSlot x = true) : x.beats = 1 := by
  simp only [fullSlot, Bool.and_eq_true, beq_iff_eq] at h
  exact h.1

theorem logicalOutcome_of_handed {s : State} {x : Txn} {slot : Nat} (htouch : touches s x .logicalRing = true)
    (haddr : x.addr = s.cfg.upBase + 16 * slot) (hfull : fullSlot x = true) (hsoft : isSoftware s x.initiator = true)
    (hheld : look s.relay.held slot = false) (hrun : s.cmd.run = .running) :
    regionOutcome s x .logicalRing = { (default : Outcome) with ready := some (slot, descOwn x.data) } := by
  obtain ⟨ho, hslots⟩ := logicalOutcome_of_slot htouch haddr (fullSlot_beats hfull)
  simp [ho, logicalOutcome, hslots, hrun, hheld, hsoft, hfull, readyChange]

/-- The slot's ready mark follows its OWN bit. -/
def slotMarked (slot : Nat) (own : Bool) (s : State) : State :=
  { s with relay := { s.relay with ready := put s.relay.ready slot own } }

theorem takeTxn_slot {s : State} {x : Txn} {slot : Nat} (hw : x.write = true) (htouch : touchesOnly s x .logicalRing)
    (ho : regionOutcome s x .logicalRing = { (default : Outcome) with ready := some (slot, descOwn x.data) }) :
    takeTxn x s = tryTake (slotMarked slot (descOwn x.data) (setHead (headOf x []) s)) := by
  rw [takeTxn, if_pos hw, takeWrite_of_touchesOnly htouch (by simp [allRegions]), ho]
  rfl

theorem tryTake_path (s : State) : (tryTake s).path.queue = s.path.queue ∧ (tryTake s).path.reissue = s.path.reissue := by
  by_cases hdue : ∃ e, TakeDue s e
  · obtain ⟨e, hdue⟩ := hdue
    rw [tryTake_of_due hdue]
    exact ⟨rfl, rfl⟩
  · rw [not_exists] at hdue
    rw [tryTake_of_not_due hdue]
    exact ⟨rfl, rfl⟩

/-- Settles O24: the mark is set, and the take is tried within the event. -/
theorem uplinkSlotBecomesReady : Obligations.UplinkSlotBecomesReady := by
  intro slot x s hx hw hfree htouch hsoft hfull haddr hheld hrun hown
  have ho := logicalOutcome_of_handed htouch.1 haddr hfull hsoft hheld hrun
  obtain ⟨m, hm⟩ : ∃ m, slotMarked slot (descOwn x.data) (setHead (headOf x []) s) = m := ⟨_, rfl⟩
  have hrest : m = { s with path := m.path, relay := { s.relay with ready := put s.relay.ready slot (descOwn x.data) } } := by
    rw [← hm]
    rfl
  have hpath : m.path = { s.path with head := some (headOf x []) } := by
    rw [← hm]
    rfl
  have hms : m.sup = s.sup := by rw [hrest]
  have hmc : m.cmd = s.cmd := by rw [hrest]
  have hmr : m.relay = { s.relay with ready := put s.relay.ready slot (descOwn x.data) } := by rw [hrest]
  have htake : takeTxn x s = tryTake m := (takeTxn_slot hw htouch ho).trans (congrArg tryTake hm)
  obtain ⟨hqueue, hreissue⟩ := tryTake_path m
  have hmove := moveHead_plain (s := tryTake m) hx (by simp [hpath])
    (by rw [overlapsOwn_congr hqueue hreissue, overlapsOwn_congr (s := s) (by rw [hpath]) (by rw [hpath])]; exact hown)
  obtain ⟨htable, hwait, hretry⟩ := tryTake_lists m
  have hquiet : passStarts s (moveHead (tryTake m)) = false :=
    passStarts_eq_false (by simp [hms]) (by simp [htable, hmr]) (by simp [hwait, hmr]) (by simp [hretry, hmr])
  have hend : dealWith x s = settleEvent s (moveHead (tryTake m)) := by rw [dealWith, htake]
  have hrelay : (settleEvent s (moveHead (tryTake m))).relay = (tryTake m).relay := by
    rw [settleEvent_of_not_passStarts hquiet, tryTake_again (s := m) (by simp) (by simp)]
    simp
  refine ⟨_, exec_of_portFree rfl rfl hx hfree, ?_⟩
  rw [hend, hrelay]
  refine ⟨joinsStream_settleEvent (by rw [hmove]; simp [joinsStream, hpath]), fun h => ?_,
    fun e hptr hidle hset he => ?_, ?_⟩
  · rw [tryTake_ready (by simpa [hmr] using h)]
    simp [hmr]
  · have hdue : TakeDue m e := by
      refine ⟨by rw [hmc]; exact hrun, by simp [hmr, hptr, hset], by rw [hmr]; exact hidle, ?_⟩
      rw [← he]
      unfold freeEntryNo entryOf
      rw [hmr]
    have hread : issued (tryTake m) .uplinkRelay (s.cfg.upBase + 16 * slot) 1 .take := by
      have hslot : m.relay.takePtr = slot := by rw [hmr]; exact hptr
      have hcfg : m.cfg = s.cfg := by rw [hrest]
      rw [tryTake_of_due hdue, hslot, hcfg]
      exact issueRead_issued _ _ _ _ _
    refine ⟨?_, ?_, ?_, ?_, hread.mono ((readsGrow.of_eq (moveHead_reads _)).trans (settleEvent_readsGrow hquiet))⟩
    all_goals
      rw [tryTake_of_due hdue, hrest]
      simp [issueRead, hptr]
  · exact keeps.trans (t := moveHead (tryTake m)) (by rw [hrest]; simp [Part.same]) (settleEvent_keeps_links hquiet)

end Sys2Proof.Machine
end

section
/-! The refutation of the statement about downlink descriptors (R104, R105): an idle Rating Engine that finds another event at
the head of the queue asks for that event's line, and the eviction this begins can overlap the descriptor. -/

namespace Sys2Proof.Machine

/-- RUNNING with 8 accounts: account 0's gate is open and line 1 holds its record. Line 0 is DIRTY with a record number beyond
the table, whose place in memory is the first slot of the radio downlink ring, and is the only line that can be evicted. The
queue holds an event of account 5, which no line holds, and the Rating Engine is idle. -/
def crowded : State :=
  let s := State.resetWith 3 []
  { s with
    cfg := { (default : Settings) with
      softMask := 240, accounts := 8, acctBase := 4194304, upBase := 5242880, downBase := 5767168, upSize := 64
      downSize := 64, radioInitiator := 3 }
    cov := { s.cov with st := .serving }
    gate := { s.gate with
      map := [(0, { (default : GateEntry) with opened := true, partner := none })]
      queue := [{ dir := .uplink, account := 5, incarnation := 0, bytes := 100, cls := .portFixed, region := 0, tag := 0 }] }
    cache := { s.cache with
      lines := [(0, { (default : Line) with st := .dirty, account := some 24576 }),
                (1, { (default : Line) with st := .clean, account := some 0 })]
      lru := [0] }
    cmd := { s.cmd with configured := true, run := .running } }

/-- A descriptor of 100 bytes for account 0, handed over in the first slot of the radio downlink ring. -/
def handedOver : Txn :=
  { initiator := 4, addr := 5767168, beats := 1, write := true
    data := [0, 0, 0, 0, 0, 0, 0, 0, 100, 0, 0, 0, 1, 0, 0, 0], enables := List.replicate 16 true }

theorem touchesOnly_handedOver : touchesOnly crowded handedOver .radioRing := ⟨by decide +kernel, by decide +kernel⟩

/-- The eviction for account 5 overlaps the descriptor, which then waits at the head. -/
theorem handedOver_waits : (after (.downlinkDescriptor handedOver) crowded).path.head.isSome = true := by decide +kernel

/-- Refutes O25: the account's own line is held, but the line asked for is that of the queue's head. -/
theorem not_downlinkDescriptorIsJudged : ¬ Obligations.DownlinkDescriptorIsJudged := by
  intro h
  obtain ⟨hopen, -⟩ := h handedOver crowded (by decide) (by decide) ⟨rfl, rfl⟩ touchesOnly_handedOver (by decide) (by decide)
    (by decide) (by decide) (by decide) (by decide) (by decide) (by decide)
  obtain ⟨t, hexec, ⟨hhead, -⟩, -⟩ := hopen (by decide) (by decide) (by decide) (.inr (.inl (by decide)))
  have hwaits := handedOver_waits
  rw [← exec_next hexec, hhead] at hwaits
  cases hwaits

end Sys2Proof.Machine
end

section
/-! What a dispatch pass keeps (R81 to R85), and how the links move: health, evaluation and the selector (R59 to R71). -/

namespace Sys2Proof.Machine

/-! ### What a dispatch pass keeps -/

/-- Link `k` can be chosen for a post: it is active, eligible or UP (R83, R84). -/
def choosable (s : State) (k : Nat) : Prop :=
  s.sup.active = some k ∨ s.sup.eligible.contains k = true ∨ (linkOf s k).health = .up

/-- Entry `e` is on one of the two lists. -/
def listed (s : State) (e : Nat) : Prop := e ∈ s.relay.waitList ∨ e ∈ s.relay.retryList

/-- What each move of a dispatch pass keeps, a pass keeps. -/
structure PassKeeps (P : State → Prop) : Prop where
  ends : ∀ e f link s, P s → listed s e → P (endEntry true e f link s)
  posts : ∀ e k s, P s → listed s e → choosable s k → P (post e k s)
  rounds : ∀ n s, P s → P { s with relay := { s.relay with round := n } }
  installs : ∀ sch s, P s → s.relay.staged = some sch → P (installSchedule sch s)

/-- The round pointer moves on by one slot; at the end of the round a staged schedule is installed (R94). With it, the number
of slots still to examine. -/
def roundOn (left : Nat) (s : State) : State × Nat :=
  let next := (s.relay.round + 1) % s.relay.running.slots.length
  let moved := { s with relay := { s.relay with round := next } }
  match s.relay.staged, next with
  | some sch, 0 => (installSchedule sch moved, sch.slots.length)
  | _, _ => (moved, left)

theorem examine_succ (fuel left : Nat) (s : State) :
    examine (fuel + 1) (left + 1) s = match s.relay.running.slots.getD s.relay.round none with
      | some k => if s.sup.eligible.contains k && hasRoom s k then ((roundOn left s).1, some k)
          else examine fuel (roundOn left s).2 (roundOn left s).1
      | none => examine fuel (roundOn left s).2 (roundOn left s).1 := rfl

theorem roundOn_sup (left : Nat) (s : State) : (roundOn left s).1.sup = s.sup := by
  unfold roundOn
  dsimp only
  split <;> simp

theorem roundOn_keeps {P : State → Prop} (h : PassKeeps P) (left : Nat) {s : State} (hs : P s) : P (roundOn left s).1 := by
  have hmoved := h.rounds ((s.relay.round + 1) % s.relay.running.slots.length) s hs
  unfold roundOn
  dsimp only
  split
  · exact h.installs _ _ hmoved (by assumption)
  · exact hmoved

theorem examine_keeps {P : State → Prop} (h : PassKeeps P) (fuel left : Nat) {s : State} (hs : P s) :
    P (examine fuel left s).1 := by
  induction fuel generalizing left s with
  | zero => exact hs
  | succ fuel ih =>
    cases left with
    | zero => exact hs
    | succ left =>
      have hround := roundOn_keeps h left hs
      rw [examine_succ]
      repeat' split
      · exact hround
      · exact ih _ hround
      · exact ih _ hround

theorem examine_eligible {fuel left : Nat} {s : State} {k : Nat} (h : (examine fuel left s).2 = some k) :
    s.sup.eligible.contains k = true := by
  induction fuel generalizing left s with
  | zero => cases h
  | succ fuel ih =>
    cases left with
    | zero => cases h
    | succ left =>
      have hlater (hrest : (examine fuel (roundOn left s).2 (roundOn left s).1).2 = some k) :
          s.sup.eligible.contains k = true := by
        rw [← roundOn_sup left s]
        exact ih hrest
      rw [examine_succ] at h
      split at h
      · split at h
        · rename_i hcond
          cases h
          simp_all
        · exact hlater h
      · exact hlater h

theorem chooseWaiting_keeps {P : State → Prop} (h : PassKeeps P) {s : State} (hs : P s) : P (chooseWaiting s).1 := by
  unfold chooseWaiting
  split
  · exact hs
  · exact examine_keeps h _ _ hs

theorem chooseWaiting_choosable {s : State} {k : Nat} (h : (chooseWaiting s).2 = some k) : choosable (chooseWaiting s).1 k := by
  have hsup : (chooseWaiting s).1.sup = s.sup := by simp
  unfold choosable
  rw [hsup]
  unfold chooseWaiting at h
  split at h
  · exact .inl (Option.eq_some_of_filter_eq_some h)
  · exact .inr (.inl (examine_eligible h))

theorem chooseRetry_choosable {en : Entry} {s : State} {k : Nat} (h : chooseRetry en s = some k) : choosable s k := by
  have husable : usable s k = true := by
    unfold chooseRetry at h
    split at h
    · cases h
    · exact List.find?_some h
  exact .inr (.inr (by simp_all [usable]))

theorem judgeHead_keeps {P : State → Prop} (h : PassKeeps P) (retry : Bool) {e : Nat} {s : State} (hs : P s)
    (he : listed s e) : P (judgeHead retry e s).1 := by
  have hlisted : listed (chooseWaiting s).1 e := by simpa [listed] using he
  unfold judgeHead
  dsimp only
  split
  · exact h.ends _ _ _ _ hs he
  split
  · exact h.ends _ _ _ _ hs he
  split
  · rename_i k hk
    cases retry with
    | true => exact h.posts _ _ _ hs he (chooseRetry_choosable hk)
    | false => exact h.posts _ _ _ (chooseWaiting_keeps h hs) hlisted (chooseWaiting_choosable hk)
  · cases retry with
    | true => exact hs
    | false => exact chooseWaiting_keeps h hs

/-- The head of the retry list is judged (R82). -/
def judgeRetry (s : State) : State × Bool :=
  match s.relay.retryList with
  | e :: _ => judgeHead true e s
  | [] => (s, false)

/-- A pass goes on after the retry list: where its head stays, the head of the wait list is judged (R82). -/
def judgeWait (n : Nat) (r : State × Bool) : State :=
  if r.2 then passLoop n r.1
  else match r.1.relay.waitList with
    | [] => r.1
    | e :: _ => if (judgeHead false e r.1).2 then passLoop n (judgeHead false e r.1).1 else (judgeHead false e r.1).1

theorem passLoop_succ (n : Nat) (s : State) :
    passLoop (n + 1) s = if s.relay.suspended then s else judgeWait n (judgeRetry s) := rfl

theorem passLoop_keeps {P : State → Prop} (h : PassKeeps P) (n : Nat) {s : State} (hs : P s) : P (passLoop n s) := by
  induction n generalizing s with
  | zero => exact hs
  | succ n ih =>
    have hretry : P (judgeRetry s).1 := by
      unfold judgeRetry
      split
      · rename_i hl
        exact judgeHead_keeps h true hs (.inr (by rw [hl]; exact List.mem_cons_self))
      · exact hs
    rw [passLoop_succ]
    split
    · exact hs
    unfold judgeWait
    split
    · exact ih hretry
    split
    · exact hretry
    · rename_i hl
      have hwait := judgeHead_keeps h false hretry (.inl (by rw [hl]; exact List.mem_cons_self))
      split
      · exact ih hwait
      · exact hwait

theorem dispatchPass_keeps {P : State → Prop} (h : PassKeeps P) {s : State} (hs : P s) : P (dispatchPass s) := by
  unfold dispatchPass
  split
  · exact passLoop_keeps h _ hs
  · exact hs

theorem tryTake_schedules (s : State) :
    (tryTake s).relay.running = s.relay.running ∧ (tryTake s).relay.staged = s.relay.staged := by
  unfold tryTake
  repeat' split
  all_goals simp

/-- The Uplink Relay and the links after the end of an event are those of a pass, or those before it (R81). -/
theorem settleEvent_pass (old s : State) :
    ∃ m, (m = s ∨ m = dispatchPass s) ∧ (settleEvent old s).sup = m.sup ∧
      (settleEvent old s).relay.table = m.relay.table ∧ (settleEvent old s).relay.waitList = m.relay.waitList ∧
      (settleEvent old s).relay.retryList = m.relay.retryList ∧ (settleEvent old s).relay.running = m.relay.running ∧
      (settleEvent old s).relay.staged = m.relay.staged := by
  obtain ⟨m, hm⟩ : ∃ m, (if passStarts old s then dispatchPass s else s) = m := ⟨_, rfl⟩
  refine ⟨m, ?_, ?_⟩
  · rw [← hm]
    split
    · exact .inr rfl
    · exact .inl rfl
  · unfold settleEvent
    rw [hm]
    simp [tryTake_lists, tryTake_schedules]

theorem settleEvent_passKeeps {P : State → Prop} (h : PassKeeps P) (old : State) {s : State} (hs : P s) :
    ∃ m, P m ∧ (settleEvent old s).sup = m.sup ∧
      (settleEvent old s).relay.table = m.relay.table ∧ (settleEvent old s).relay.waitList = m.relay.waitList ∧
      (settleEvent old s).relay.retryList = m.relay.retryList ∧ (settleEvent old s).relay.running = m.relay.running ∧
      (settleEvent old s).relay.staged = m.relay.staged := by
  obtain ⟨m, hm, hrest⟩ := settleEvent_pass old s
  refine ⟨m, ?_, hrest⟩
  rcases hm with rfl | rfl
  · exact hs
  · exact dispatchPass_keeps h hs

/-! ### What the links show -/

/-- Every link keeps its health and its face. -/
def linksShown (s t : State) : Prop :=
  ∀ j, (linkOf t j).health = (linkOf s j).health ∧ sameFace (linkOf s j) (linkOf t j)

theorem linkOf_congr {s t : State} (h : t.sup.links = s.sup.links) (j : Nat) : linkOf t j = linkOf s j := by
  unfold linkOf
  rw [h]

@[simp] theorem linkOf_setLink (k : Nat) (l : Link) (s : State) (j : Nat) :
    linkOf (setLink k l s) j = if j = k then l else linkOf s j := by
  simp [linkOf]

theorem linksShown_of_links {s t : State} (h : t.sup.links = s.sup.links) : linksShown s t := by
  intro j
  rw [linkOf_congr h]
  exact ⟨rfl, rfl, rfl, rfl, rfl⟩

theorem linksShown.trans {s t u : State} (h : linksShown s t) (h' : linksShown t u) : linksShown s u := by
  intro j
  obtain ⟨hh, h1, h2, h3, h4⟩ := h j
  obtain ⟨gh, g1, g2, g3, g4⟩ := h' j
  exact ⟨gh.trans hh, g1.trans h1, g2.trans h2, g3.trans h3, g4.trans h4⟩

theorem linkOf_markPosted (e k : Nat) (s : State) (j : Nat) :
    linkOf (markPosted e k s) j = if j = k then { linkOf s k with
      postPtr := ((linkOf s k).postPtr + 1) % ((linkOf s k).record.map LinkRec.size).getD 0
      posted := (linkOf s k).posted + 1, oldest := some ((linkOf s k).oldest.getD s.clock) } else linkOf s j := by
  have hlinks : (markPosted e k s).sup.links = put s.sup.links k { linkOf s k with
      postPtr := ((linkOf s k).postPtr + 1) % ((linkOf s k).record.map LinkRec.size).getD 0
      posted := (linkOf s k).posted + 1, oldest := some ((linkOf s k).oldest.getD s.clock) } := by
    simp [markPosted]
  simp only [linkOf] at hlinks ⊢
  rw [hlinks, look_put]

/-- A post moves the post pointer, the posted count and the oldest post time of its link, and no other link. -/
theorem linkOf_post (e k : Nat) (s : State) (j : Nat) :
    linkOf (post e k s) j = linkOf s j ∨ j = k ∧ linkOf (post e k s) j = { linkOf s k with
      postPtr := ((linkOf s k).postPtr + 1) % ((linkOf s k).record.map LinkRec.size).getD 0
      posted := (linkOf s k).posted + 1, oldest := some ((linkOf s k).oldest.getD s.clock) } := by
  unfold post
  dsimp only
  split
  · obtain ⟨m, hm⟩ : ∃ m, placeWrite { postWrite s e k with resume := true } s = m := ⟨_, rfl⟩
    have hlink (j) : linkOf m j = linkOf s j := linkOf_congr (by rw [← hm]; simp) j
    have hclock : m.clock = s.clock := by rw [← hm]; simp
    rw [hm, linkOf_markPosted, hlink, hlink, hclock]
    split
    · exact .inr ⟨by assumption, rfl⟩
    · exact .inl rfl
  · exact .inl (linkOf_congr (by simp) j)

theorem post_shown (e k : Nat) (s : State) : linksShown s (post e k s) := by
  intro j
  rcases linkOf_post e k s j with h | ⟨rfl, h⟩ <;> rw [h] <;> exact ⟨rfl, rfl, rfl, rfl, rfl⟩

theorem passKeeps_shown (s₀ : State) : PassKeeps (linksShown s₀) where
  ends _ _ _ _ hs _ := hs.trans (linksShown_of_links (by simp))
  posts e k s hs _ _ := hs.trans (post_shown e k s)
  rounds _ _ hs := hs
  installs _ _ hs _ := hs

theorem dispatchPass_shown (s : State) : linksShown s (dispatchPass s) :=
  dispatchPass_keeps (passKeeps_shown s) (linksShown_of_links rfl)

theorem settleEvent_shown (old s : State) : linksShown s (settleEvent old s) := by
  obtain ⟨m, hm, hsup, -⟩ := settleEvent_passKeeps (passKeeps_shown s) old (linksShown_of_links rfl)
  exact hm.trans (linksShown_of_links (by rw [hsup]))

/-! ### Health and evaluation (R61) -/

theorem linkOf_selectorEval (s : State) (j : Nat) : linkOf (selectorEval s) j = linkOf s j :=
  linkOf_congr (by simp) j

theorem linkOf_linkStateReport (k : Nat) (old : Health) (cause : LinkCause) (s : State) (j : Nat) :
    linkOf (linkStateReport k old cause s) j = linkOf s j := linkOf_congr (by simp) j

theorem linkOf_moveHealth (k : Nat) (h : Health) (cause : LinkCause) (s : State) (j : Nat) :
    linkOf (moveHealth k h cause s) j = if j = k then { linkOf s k with
      health := h, probationSince := if h = .probation then s.clock else (linkOf s k).probationSince } else linkOf s j := by
  unfold moveHealth
  dsimp only
  rw [linkOf_selectorEval, linkOf_linkStateReport, linkOf_setLink]

/-- What an evaluation leaves of link `k`: its health is the judged one, and only the time of probation may move with it. -/
theorem linkOf_evaluateLink_self {s : State} (k : Nat) (cause : LinkCause) (h : s.cmd.run ≠ .halted) :
    ∃ since, linkOf (evaluateLink k cause s) k =
      { linkOf s k with health := judgedHealth (linkOf s k), probationSince := since } := by
  have hrun : (s.cmd.run == .halted) = false := beq_eq_false_iff_ne.mpr h
  have hdown (hhealth : (linkOf s k).health = .probation ∨ (linkOf s k).health = .up) (hfit : fit (linkOf s k) = false) :
      judgedHealth (linkOf s k) = .down := by
    rcases hhealth with hhealth | hhealth <;> simp only [judgedHealth, hhealth, hfit]
  unfold evaluateLink
  simp only [hrun, Bool.false_eq_true, if_false]
  split
  case h_1 hhealth hfit =>
    simp only [judgedHealth, hhealth, hfit]
    split
    · simp only [linkOf_moveHealth, if_true]
      exact ⟨_, rfl⟩
    · simp only [linkOf_moveHealth, if_true]
      exact ⟨_, rfl⟩
  case h_2 hhealth hfit =>
    rw [hdown (.inl hhealth) hfit, linkOf_moveHealth, if_pos rfl]
    exact ⟨_, rfl⟩
  case h_3 hhealth hfit =>
    rw [hdown (.inr hhealth) hfit, linkOf_moveHealth, if_pos rfl]
    exact ⟨_, rfl⟩
  case h_4 hbegins hfails hfalls =>
    have hstay : judgedHealth (linkOf s k) = (linkOf s k).health := by
      unfold judgedHealth
      split
      case h_1 hhealth hfit => exact absurd hfit (hbegins hhealth)
      case h_2 hhealth hfit => exact absurd hfit (hfails hhealth)
      case h_3 hhealth hfit => exact absurd hfit (hfalls hhealth)
      case h_4 => rfl
    exact ⟨(linkOf s k).probationSince, by rw [hstay]⟩

theorem linkOf_evaluateLink_other {k j : Nat} (hj : j ≠ k) (cause : LinkCause) (s : State) :
    linkOf (evaluateLink k cause s) j = linkOf s j := by
  unfold evaluateLink
  dsimp only
  repeat' split
  all_goals simp only [linkOf_moveHealth, if_neg hj]

theorem evaluateLink_of_halted {s : State} (k : Nat) (cause : LinkCause) (h : s.cmd.run = .halted) :
    evaluateLink k cause s = s := by
  simp [evaluateLink, h]

theorem judgedHealth_congr {l m : Link} (hh : m.health = l.health) (hr : m.record = l.record)
    (hc : m.carrierLine = l.carrierLine) (hq : m.quality = l.quality) : judgedHealth m = judgedHealth l := by
  simp only [judgedHealth, fit, carrierView, hh, hr, hc, hq]

/-- The links other than `k` are as they were. -/
theorem othersKept_of_shown {k : Nat} {s u t : State} (hu : ∀ j, j ≠ k → linkOf u j = linkOf s j) (ht : linksShown u t) :
    othersKept k s t := by
  intro j hj
  rw [← hu j hj]
  exact ht j

/-! ### Events of the links (R59, R61, R63) -/

/-- An event that ends on the links of `u`: what link `k` and the links beside it show after it. -/
theorem linkEvent {i : Instr} {k : Nat} {s u : State} (hafter : exec i s = .next (settleEvent s u))
    (hother : ∀ j, j ≠ k → linkOf u j = linkOf s j) :
    ∃ t, exec i s = .next t ∧ (linkOf t k).health = (linkOf u k).health ∧ sameFace (linkOf u k) (linkOf t k) ∧
      othersKept k s t ∧ keeps (keptBy i) s t := by
  have hshown := settleEvent_shown s u
  obtain ⟨hh, hface⟩ := hshown k
  exact ⟨_, hafter, hh, hface, othersKept_of_shown hother hshown, rowFrames i s _ hafter⟩

/-- Settles O31. -/
theorem carrierChangeEvaluatesLink : Obligations.CarrierChangeEvaluatesLink := by
  intro k high s hlevel
  obtain ⟨v, hv⟩ : ∃ v, setLink k { linkOf s k with carrierLine := high } s = v := ⟨_, rfl⟩
  have hlink (j : Nat) : linkOf v j = if j = k then { linkOf s k with carrierLine := high } else linkOf s j := by
    rw [← hv, linkOf_setLink]
  have hself : linkOf v k = { linkOf s k with carrierLine := high } := by simp [hlink]
  have hrun : v.cmd.run = s.cmd.run := by simp [← hv]
  have hchange : carrierChange k high s = evaluateLink k .carrier v := by simp [carrierChange, hlevel, hv]
  have hother (j) (hj : j ≠ k.val) : linkOf (carrierChange k high s) j = linkOf s j := by
    rw [hchange, linkOf_evaluateLink_other hj, hlink, if_neg hj]
  obtain ⟨t, hexec, hhealth, ⟨hrecord, hline, hquality, hgen⟩, hkept, hkeeps⟩ := linkEvent
    (show exec (.linkCarrierChange k high) s = .next (settleEvent s (carrierChange k high s)) from rfl) hother
  rw [hchange] at hhealth hrecord hline hquality hgen
  by_cases hhalt : s.cmd.run = .halted
  · rw [evaluateLink_of_halted _ _ (hrun.trans hhalt), hself] at hhealth hrecord hline hquality hgen
    exact ⟨t, hexec, hline, by rw [hhealth, if_pos hhalt], hrecord, hquality, hgen, hkept, hkeeps⟩
  · obtain ⟨since, heval⟩ := linkOf_evaluateLink_self (s := v) k .carrier (by rwa [hrun])
    rw [heval, hself] at hhealth hrecord hline hquality hgen
    exact ⟨t, hexec, hline, by rw [hhealth, if_neg hhalt], hrecord, hquality, hgen, hkept, hkeeps⟩

/-- A move of link health that is an event of its own. -/
theorem healthEvent {i : Instr} {k : Nat} {h : Health} {cause : LinkCause} {s : State}
    (hafter : exec i s = .next (settleEvent s (moveHealth k h cause s))) :
    ∃ t, exec i s = .next t ∧ (linkOf t k).health = h ∧ sameFace (linkOf s k) (linkOf t k) ∧ othersKept k s t ∧
      keeps (keptBy i) s t := by
  have hother (j) (hj : j ≠ k) : linkOf (moveHealth k h cause s) j = linkOf s j := by rw [linkOf_moveHealth, if_neg hj]
  obtain ⟨t, hexec, hhealth, hface, hrest⟩ := linkEvent hafter hother
  rw [linkOf_moveHealth, if_pos rfl] at hhealth hface
  exact ⟨t, hexec, hhealth, hface, hrest⟩

/-- Settles O32. -/
theorem linkExpiriesMoveHealth : Obligations.LinkExpiriesMoveHealth := by
  intro k r s hrun hrecord
  refine ⟨fun hhealth hpast => healthEvent (cause := .probation) ?_, fun old hhealth hold hpast =>
    healthEvent (cause := .timeout) ?_⟩
  · have hdue : probationDue s k = true := by simp [probationDue, hrun, hhealth, hrecord, hpast]
    show Host.Outcome.next (settleEvent s (probationExpiry k s)) = _
    rw [probationExpiry, if_pos hdue]
  · have hdue : completionTimeoutDue s k = true := by
      rcases hhealth with h | h | h <;> simp [completionTimeoutDue, hrun, h, hold, hrecord, hpast]
    show Host.Outcome.next (settleEvent s (completionTimeoutExpiry k s)) = _
    rw [completionTimeoutExpiry, if_pos hdue]

/-! ### The selector (R68, R69) -/

/-- What an evaluation of the selector reads, adopted: the eligible set and the effective mode (R68 steps 1 and 2). -/
def modeAdopted (s : State) : State :=
  tellMode s.sup.mode { s with sup := { s.sup with eligible := eligibleSet s, mode := effectiveMode s } }

theorem selectorEval_single {s : State} (h : s.cmd.run ≠ .halted) (hmode : effectiveMode s = .single) :
    selectorEval s = publishBackhaul (bringActive (s.sup.mode == .shared) (modeAdopted s)) := by
  simp [selectorEval, modeAdopted, h, hmode]

theorem selectorEval_shared {s : State} (h : s.cmd.run ≠ .halted) (hmode : effectiveMode s = .shared) :
    selectorEval s = publishBackhaul (clearActive (modeAdopted s)) := by
  simp [selectorEval, modeAdopted, h, hmode]

theorem modeAdopted_sup (s : State) :
    (modeAdopted s).sup = { s.sup with eligible := eligibleSet s, mode := effectiveMode s } := by
  simp [modeAdopted]

theorem publishBackhaul_selector (s : State) :
    (publishBackhaul s).sup = { s.sup with backhaul := (publishBackhaul s).sup.backhaul } := by
  unfold publishBackhaul
  split
  · rfl
  · simp

/-- Every active and every eligible link is UP. -/
def selectionUp (s : State) : Prop :=
  (∀ k, s.sup.active = some k → (linkOf s k).health = .up) ∧
    ∀ k, s.sup.eligible.contains k = true → (linkOf s k).health = .up

theorem health_of_eligible {s : State} {k : Nat} (h : (eligibleSet s).contains k = true) : (linkOf s k).health = .up := by
  simp only [eligibleSet, List.contains_eq_mem, decide_eq_true_eq, List.mem_filter, Bool.and_eq_true, beq_iff_eq] at h
  exact h.2.1

theorem health_of_target {s : State} {k : Nat} (h : selectorTarget s = some k) : (linkOf s k).health = .up := by
  have hfound (h : (prefList s).find? (eligibleSet s).contains = some k) : (linkOf s k).health = .up :=
    health_of_eligible (List.find?_some h)
  unfold selectorTarget at h
  split at h
  · split at h
    · rename_i hup
      cases h
      simpa using hup
    · exact hfound h
  · exact hfound h

theorem modeAdopted_target (s : State) : selectorTarget (modeAdopted s) = selectorTarget s := by
  have hsup := modeAdopted_sup s
  have hlink (k) : linkOf (modeAdopted s) k = linkOf s k := linkOf_congr (by rw [hsup]) k
  have hpref : prefList (modeAdopted s) = prefList s := by
    have hpos : (modeAdopted s).pos = s.pos := by simp [modeAdopted]
    simp only [prefList, published, hpos]
  simp only [selectorTarget, eligibleSet, hlink, hpref, hsup]

theorem swapTo_sup (t : Option Nat) (cause : SwapCause) (s : State) :
    (swapTo t cause s).sup = { s.sup with active := t, lastSwap := s.clock } := by
  simp [swapTo]

/-- The active link may stay, and neither the forced link nor the swap hold brings a swap yet (R69). -/
structure SwapWaits (s : State) : Prop where
  holds : ∃ k, s.sup.active = some k ∧ activeHolds s k = true
  unforced : selectorTarget s ≠ none → selectorTarget s ≠ s.sup.forced
  held : ¬ s.cfg.swapHold ≤ elapsed s s.sup.lastSwap

/-- The active link is brought to the target, or a swap is deferred while it may stay (R69). -/
theorem bringActive_active (modeSwap : Bool) (s : State) :
    ((bringActive modeSwap s).sup.active = selectorTarget s ∧ (bringActive modeSwap s).sup.deferred = none) ∨
      (bringActive modeSwap s).sup.active = s.sup.active ∧ SwapWaits s := by
  unfold bringActive
  dsimp only
  split
  · rename_i h
    exact .inl ⟨h.symm, rfl⟩
  split
  · exact .inl (by simp [swapTo_sup, noDeferred])
  split
  · exact .inl (by simp [swapTo_sup, noDeferred])
  rename_i hforced
  split
  · exact .inl (by simp [swapTo_sup, noDeferred])
  rename_i k hk
  split
  · exact .inl (by simp [swapTo_sup, noDeferred])
  rename_i hholds
  split
  · exact .inl (by simp [swapTo_sup, noDeferred])
  rename_i hheld
  refine .inr ⟨rfl, ⟨k, hk, by simpa using hholds⟩, fun hsome heq => hforced ?_, hheld⟩
  simp [Option.isSome_iff_ne_none, ← heq, hsome]

theorem bringActive_sup (modeSwap : Bool) (s : State) :
    (bringActive modeSwap s).sup = { s.sup with
      active := (bringActive modeSwap s).sup.active, lastSwap := (bringActive modeSwap s).sup.lastSwap
      deferred := (bringActive modeSwap s).sup.deferred } := by
  unfold bringActive
  dsimp only
  repeat' split
  all_goals simp [swapTo_sup, noDeferred]

theorem clearActive_active (s : State) : (clearActive s).sup.active = none := by
  unfold clearActive
  dsimp only
  split
  · simp [swapTo_sup]
  · rename_i h
    simpa [noDeferred] using h

theorem clearActive_eligible (s : State) : (clearActive s).sup.eligible = s.sup.eligible := by
  unfold clearActive
  dsimp only
  split <;> simp [swapTo_sup, noDeferred]

/-- An evaluation of the selector in effective mode SINGLE (R68, R69). -/
theorem selectorEval_of_single {s : State} (h : s.cmd.run ≠ .halted) (hmode : effectiveMode s = .single) :
    (selectorEval s).sup.mode = .single ∧ (selectorEval s).sup.eligible = eligibleSet s ∧
      (((selectorEval s).sup.active = selectorTarget s ∧ (selectorEval s).sup.deferred = none) ∨
        (selectorEval s).sup.active = s.sup.active ∧ SwapWaits (modeAdopted s)) := by
  have hadopted := modeAdopted_sup s
  have hbring := bringActive_active (s.sup.mode == .shared) (modeAdopted s)
  have hsup : (selectorEval s).sup =
      { (bringActive (s.sup.mode == .shared) (modeAdopted s)).sup with backhaul := (selectorEval s).sup.backhaul } := by
    rw [selectorEval_single h hmode, publishBackhaul_selector]
  rw [modeAdopted_target] at hbring
  rw [hsup, bringActive_sup, hadopted]
  refine ⟨hmode, rfl, ?_⟩
  rcases hbring with hbring | ⟨hactive, hwaits⟩
  · exact .inl hbring
  · exact .inr ⟨by rw [hactive, hadopted], hwaits⟩

/-- After an evaluation every active and every eligible link is UP. -/
theorem selectorEval_selectionUp {s : State} (h : s.cmd.run ≠ .halted) : selectionUp (selectorEval s) := by
  have hadopted := modeAdopted_sup s
  have hlink (k) : linkOf (modeAdopted s) k = linkOf s k := linkOf_congr (by rw [hadopted]) k
  unfold selectionUp
  simp only [linkOf_selectorEval]
  cases hmode : effectiveMode s with
  | single =>
    obtain ⟨-, heligible, hactive⟩ := selectorEval_of_single h hmode
    rw [heligible]
    refine ⟨fun k hk => ?_, fun k => health_of_eligible⟩
    rcases hactive with ⟨hactive, -⟩ | ⟨hactive, ⟨j, hj, hholds⟩, -, -⟩
    · exact health_of_target (hactive.symm.trans hk)
    · rw [hadopted] at hj
      rw [hactive, hj] at hk
      cases hk
      simp only [activeHolds, hlink, Bool.and_eq_true, beq_iff_eq] at hholds
      exact hholds.1
  | shared =>
    rw [selectorEval_shared h hmode, publishBackhaul_selector]
    dsimp only
    rw [clearActive_active, clearActive_eligible, hadopted]
    exact ⟨fun k hk => by simp at hk, fun k => health_of_eligible⟩

/-- Settles O33. -/
theorem deferredSwapIsMade : Obligations.DeferredSwapIsMade := by
  intro due s hrun hdeferred hreached hmode hheld
  have hdue : deferredSwapDue s = true := by simp [deferredSwapDue, hrun, hdeferred, hreached]
  have htarget : selectorTarget (noDeferred s) = selectorTarget s := rfl
  have hmode' : effectiveMode (noDeferred s) = .single := hmode
  obtain ⟨hsingle, heligible, hactive⟩ := selectorEval_of_single (s := noDeferred s) hrun hmode'
  have hexpiry : deferredSwapExpiry s = selectorEval (noDeferred s) := by rw [deferredSwapExpiry, if_pos hdue]
  have hexec : exec .deferredSwapExpiry s = .next (settleEvent s (selectorEval (noDeferred s))) := by
    rw [← hexpiry]
    rfl
  have hselector : SameSelector (selectorEval (noDeferred s)) (settleEvent s (selectorEval (noDeferred s))) := by simp
  obtain ⟨hm, ha, he, -, -, hd, -⟩ := hselector
  have hreach : (selectorEval (noDeferred s)).sup.active = selectorTarget s ∧
      (selectorEval (noDeferred s)).sup.deferred = none := by
    rcases hactive with hactive | ⟨-, -, -, hwaits⟩
    · exact htarget ▸ hactive
    · refine absurd ?_ hwaits
      have hcfg : (modeAdopted (noDeferred s)).cfg = s.cfg := by simp [modeAdopted]
      have hclock : (modeAdopted (noDeferred s)).clock = s.clock := by simp [modeAdopted]
      have hswap : (modeAdopted (noDeferred s)).sup.lastSwap = s.sup.lastSwap := by rw [modeAdopted_sup]; rfl
      unfold elapsed
      rwa [hcfg, hclock, hswap]
  refine ⟨_, hexec, ha.trans hreach.1, hd.trans hreach.2, hm.trans hsingle, he.trans heligible, ?_, rowFrames _ s _ hexec⟩
  exact (linksShown_of_links (by simp)).trans (settleEvent_shown _ _)

/-! ### Commands of the links (R57 to R65, R71) -/

/-- A command that completes: what the links and the selector show at the end of its event. -/
theorem exec_ringRow_links {r : Request} {notify : Bool} {addr index size : Nat} {s b v : State} {st : Status}
    {vals : List (Nat × Nat)} (hf : fetchReturns s addr index size) (hb : commandBegun r notify addr index size s = b)
    (hhand : handCommand r b = complete st vals [] v)
    (hjob : v.cmd.job = some (begunJob r notify addr index size)) (hclock : v.clock = s.clock) :
    ∃ t, exec (ringRow notify r) s = .next t ∧ linksShown v t ∧ SameSelector v t ∧
      completed t addr (completion st vals s.clock) ∧ keeps (keptBy (ringRow notify r)) s t := by
  obtain ⟨hexec, hdone, hkeeps⟩ := exec_ringRow_completes hf (hb ▸ hhand) hjob hclock
  refine ⟨_, hexec, ?_, by simp, hdone, hkeeps⟩
  exact (linksShown_of_links (by simp)).trans (settleEvent_shown _ _)

theorem enableLink_other {k j : Nat} (hj : j ≠ k) (s : State) : linkOf (enableLink k s) j = linkOf s j := by
  simp only [enableLink, linkOf_evaluateLink_other hj, linkOf_moveHealth, if_neg hj, linkOf_setLink]

/-- A link enabled: the generation raised, the score 0, and the health evaluated from DOWN (R60). -/
theorem enableLink_self {s : State} (k : Nat) (h : s.cmd.run ≠ .halted) :
    (linkOf (enableLink k s) k).gen = (linkOf s k).gen + 1 ∧ (linkOf (enableLink k s) k).quality = 0 ∧
      (linkOf (enableLink k s) k).record = (linkOf s k).record ∧
      (linkOf (enableLink k s) k).health = judgedHealth { linkOf s k with health := .down, quality := 0 } := by
  obtain ⟨m, hm⟩ : ∃ m, moveHealth k .down .command (setLink k { linkOf s k with
      gen := (linkOf s k).gen + 1, postPtr := 0, quality := 0, oldest := none } s) = m := ⟨_, rfl⟩
  have hrun : m.cmd.run ≠ .halted := by simpa [← hm] using h
  obtain ⟨since, heval⟩ := linkOf_evaluateLink_self k .command hrun
  have hlink : linkOf m k = { linkOf s k with
      gen := (linkOf s k).gen + 1, postPtr := 0, quality := 0, oldest := none, health := .down } := by
    rw [← hm, linkOf_moveHealth]
    simp
  have henable : enableLink k s = evaluateLink k .command m := by rw [← hm]; rfl
  rw [henable, heval, hlink]
  exact ⟨rfl, rfl, rfl, judgedHealth_congr rfl rfl rfl rfl⟩

/-- Settles O35. -/
theorem linkEnableAndQualityEvaluate : Obligations.LinkEnableAndQualityEvaluate := by
  refine ⟨fun n v s addr index size hf hrun hv hdisabled => ?_, fun n v score s addr index size hf hrun hv hused hnot => ?_⟩
  · obtain ⟨b, hb⟩ : ∃ b, commandBegun (.linkEnable v) n addr index size s = b := ⟨_, rfl⟩
    have hlink (j) : linkOf b j = linkOf s j := linkOf_congr (by rw [← hb]; simp) j
    have hbrun : b.cmd.run = .running := by simpa [← hb] using hrun
    obtain ⟨hgen, hquality, hrecord, hhealth⟩ := enableLink_self (s := b) v.toNat (by simp [hbrun])
    have hhand : handCommand (.linkEnable v) b = complete .ok
        [(1, healthCode (linkOf (enableLink v.toNat b) v.toNat).health), (2, (linkOf (enableLink v.toNat b) v.toNat).gen.toNat)]
        [] (enableLink v.toNat b) := by
      simp [handCommand, doLinkEnable, running, hbrun, hv, hlink, hdisabled]
    obtain ⟨t, hexec, hshown, -, hdone, hkeeps⟩ := exec_ringRow_links hf hb hhand (by simp [← hb]) (by simp [← hb])
    obtain ⟨th, tr, -, tq, tg⟩ := hshown v.toNat
    rw [hlink] at hgen hrecord hhealth
    refine ⟨t, hexec, tg.trans hgen, tq.trans hquality, tr.trans hrecord, th.trans hhealth,
      othersKept_of_shown (fun j hj => by rw [enableLink_other hj, hlink]) hshown, ?_, hkeeps⟩
    rw [th, ← hgen]
    exact hdone
  · obtain ⟨b, hb⟩ : ∃ b, commandBegun (.linkQuality v score) n addr index size s = b := ⟨_, rfl⟩
    have hlink (j) : linkOf b j = linkOf s j := linkOf_congr (by rw [← hb]; simp) j
    have hbrun : b.cmd.run = .running := by simpa [← hb] using hrun
    obtain ⟨m, hm⟩ : ∃ m, setLink v.toNat { linkOf b v.toNat with quality := min 100 score.toNat } b = m := ⟨_, rfl⟩
    have hmlink (j) : linkOf m j =
        if j = v.toNat then { linkOf s v.toNat with quality := min 100 score.toNat } else linkOf s j := by
      rw [← hm, linkOf_setLink, hlink, hlink]
    have hmrun : m.cmd.run ≠ .halted := by simp [← hm, hbrun]
    have hhand : handCommand (.linkQuality v score) b = complete .ok
        [(1, min 100 score.toNat), (1, healthCode (linkOf (evaluateLink v.toNat .quality m) v.toNat).health)] []
        (evaluateLink v.toNat .quality m) := by
      simp only [← hm]
      simp [handCommand, doLinkQuality, running, hbrun, hv, hlink, hused, hnot]
    obtain ⟨t, hexec, hshown, -, hdone, hkeeps⟩ := exec_ringRow_links hf hb hhand (by simp [← hm, ← hb])
      (by simp [← hm, ← hb])
    obtain ⟨th, tr, -, tq, tg⟩ := hshown v.toNat
    obtain ⟨since, heval⟩ := linkOf_evaluateLink_self v.toNat .quality hmrun
    have hother (j) (hj : j ≠ v.toNat) : linkOf (evaluateLink v.toNat .quality m) j = linkOf s j := by
      rw [linkOf_evaluateLink_other hj, hmlink, if_neg hj]
    rw [← th] at hdone
    rw [heval, hmlink, if_pos rfl] at th tr tq tg
    exact ⟨t, hexec, tq, th, tr, tg, othersKept_of_shown hother hshown, hdone, hkeeps⟩

/-- Settles O36. -/
theorem linkForceSetsForcedLink : Obligations.LinkForceSetsForcedLink := by
  intro n v s addr index size hf hrun hv
  obtain ⟨b, hb⟩ : ∃ b, commandBegun (.linkForce v) n addr index size s = b := ⟨_, rfl⟩
  have hsup : b.sup = s.sup := by simp [← hb]
  have hbrun : b.cmd.run = .running := by simpa [← hb] using hrun
  obtain ⟨m, hm⟩ : ∃ m, { b with sup := { b.sup with forced := if v.toNat = 255 then none else some v.toNat } } = m := ⟨_, rfl⟩
  have hmsup : m.sup = { s.sup with forced := if v.toNat = 255 then none else some v.toNat } := by rw [← hm, hsup]
  have hmrun : m.cmd.run ≠ .halted := by simp [← hm, hbrun]
  have hhand : handCommand (.linkForce v) b =
      complete .ok [(1, orNone (selectorEval m).sup.forced), (1, orNone (selectorEval m).sup.active)] [] (selectorEval m) := by
    have hok : ¬ (3 < v.toNat ∧ v.toNat ≠ 255) := by omega
    simp only [← hm]
    simp [handCommand, doLinkForce, running, hbrun, hok]
  obtain ⟨t, hexec, hshown, hselector, hdone, hkeeps⟩ := exec_ringRow_links hf hb hhand (by simp [← hm, ← hb])
    (by simp [← hm, ← hb])
  obtain ⟨tm, ta, te, tf, -⟩ := hselector
  have hforced : (selectorEval m).sup.forced = m.sup.forced := by simp
  have hlink (j) : linkOf (selectorEval m) j = linkOf s j := by
    rw [linkOf_selectorEval]
    exact linkOf_congr (by rw [hmsup]) j
  have hmode (h : v.toNat ≠ 255) : effectiveMode m = .single := by
    unfold effectiveMode
    split <;> simp [hmsup, h]
  rw [← tf, ← ta] at hdone
  refine ⟨t, hexec, by rw [tf, hforced, hmsup], fun h => ?_, fun h hup => ?_, fun j => ?_, hdone, hkeeps⟩
  · exact tm.trans (selectorEval_of_single hmrun (hmode h)).1
  · obtain ⟨-, -, hactive⟩ := selectorEval_of_single hmrun (hmode h)
    have htarget : selectorTarget m = some v.toNat := by
      have hup' : (linkOf m v.toNat).health = .up := by rw [← hup]; exact congrArg _ (linkOf_congr (by rw [hmsup]) _)
      simp [selectorTarget, hmsup, h, hup']
    rcases hactive with ⟨hactive, -⟩ | ⟨-, -, hunforced, -⟩
    · rw [ta, hactive, htarget]
    · rw [modeAdopted_target, htarget, modeAdopted_sup, hmsup] at hunforced
      simp [h] at hunforced
  · rw [← hlink]
    exact hshown j

end Sys2Proof.Machine
end

section
/-! LOAD_LINK and LINK_RESET (R57, R58, R65): what a reset makes of the entries posted on its link (R88, R90). -/

namespace Sys2Proof.Machine

/-! ### The entries of the relay -/

@[simp] theorem entryOf_setEntry (e : Nat) (en : Entry) (s : State) (d : Nat) :
    entryOf (setEntry e en s) d = if d = e then en else entryOf s d := by
  simp [entryOf]

theorem entryOf_congr {s t : State} (h : t.relay.table = s.relay.table) (e : Nat) : entryOf t e = entryOf s e := by
  unfold entryOf
  rw [h]

theorem slotWrite_congr {s t : State} {e : Nat} (he : entryOf t e = entryOf s e) (hcfg : t.cfg = s.cfg) (f : Final)
    (link : Option Nat) : slotWrite t e f link = slotWrite s e f link := by
  unfold slotWrite
  rw [he, hcfg]

theorem canEnter_congr {s t : State} (h : t.path = s.path) : canEnter t = canEnter s := by
  unfold canEnter
  rw [h]

theorem placed_resume {s : State} {w : OwnWrite} {b : Bool} (h : placed s { w with resume := b }) : placed s w := by
  obtain ⟨v, hv, hw⟩ := h
  refine ⟨v, hv, ?_⟩
  cases w
  cases v
  simp_all

/-- An entry that ends has left both lists, and an ABORTED one is counted (R91). -/
def offLists (e : Nat) (f : Final) (s : State) : State :=
  { s with
    relay := { s.relay with
      waitList := s.relay.waitList.filter (· != e)
      retryList := s.relay.retryList.filter (· != e) }
    cmd := { s.cmd with counts := { s.cmd.counts with
      aborted := s.cmd.counts.aborted + (if f = .aborted then 1 else 0) } } }

theorem endEntry_of_room (inPass : Bool) (e : Nat) (f : Final) (link : Option Nat) {s : State} (h : canEnter s = true) :
    endEntry inPass e f link s =
      freeEntry e (placeWrite { slotWrite s e f link with resume := inPass } (offLists e f s)) := by
  have hroom : canEnter (offLists e f s) = true := h
  exact if_pos hroom

theorem endEntry_of_full (inPass : Bool) (e : Nat) (f : Final) (link : Option Nat) {s : State} (h : canEnter s = false) :
    ∃ m, m = placeWrite { slotWrite s e f link with resume := inPass }
        (setEntry e { entryOf s e with st := .ending } (offLists e f s)) ∧
      endEntry inPass e f link s = { m with relay := { m.relay with suspended := m.relay.suspended || inPass } } := by
  have hroom : ¬ canEnter (offLists e f s) = true := by simp [canEnter_congr (s := s) (t := offLists e f s) rfl, h]
  exact ⟨_, rfl, if_neg hroom⟩

/-- An entry that ends: it is FREE, or ENDING while its write waits, and no other entry moves (R91). -/
theorem endEntry_entry (inPass : Bool) (e : Nat) (f : Final) (link : Option Nat) (s : State) (d : Nat) :
    entryOf (endEntry inPass e f link s) d =
      if d = e then (if canEnter s then default else { entryOf s e with st := .ending }) else entryOf s d := by
  cases h : canEnter s with
  | true =>
    rw [endEntry_of_room _ _ _ _ h]
    simp [entryOf, freeEntry, offLists]
  | false =>
    obtain ⟨m, hm, hend⟩ := endEntry_of_full inPass e f link h
    have hentry : entryOf m d = entryOf (setEntry e { entryOf s e with st := .ending } (offLists e f s)) d :=
      entryOf_congr (by rw [hm]; simp) d
    have hflag (b : Bool) : entryOf { m with relay := { m.relay with suspended := b } } d = entryOf m d := rfl
    rw [hend, hflag, hentry, entryOf_setEntry]
    rfl

theorem endEntry_lists (inPass : Bool) (e : Nat) (f : Final) (link : Option Nat) (s : State) :
    (endEntry inPass e f link s).relay.waitList = s.relay.waitList.filter (· != e) ∧
      (endEntry inPass e f link s).relay.retryList = s.relay.retryList.filter (· != e) := by
  cases h : canEnter s with
  | true =>
    rw [endEntry_of_room _ _ _ _ h]
    simp [freeEntry, offLists]
  | false =>
    obtain ⟨m, hm, hend⟩ := endEntry_of_full inPass e f link h
    rw [hend, hm]
    simp [setEntry, offLists]

theorem endEntry_placed (inPass : Bool) (e : Nat) (f : Final) (link : Option Nat) (s : State) :
    placed (endEntry inPass e f link s) (slotWrite s e f link) := by
  refine placed_resume (b := inPass) ?_
  cases h : canEnter s with
  | true =>
    rw [endEntry_of_room _ _ _ _ h]
    exact (placeWrite_placed _ (offLists e f s)).mono (grows.refl _)
  | false =>
    obtain ⟨m, hm, hend⟩ := endEntry_of_full inPass e f link h
    rw [hend]
    refine placed.mono (s := m) ?_ (grows.refl _)
    rw [hm]
    exact placeWrite_placed _ _

theorem toRetry_entry (e : Nat) (s : State) (d : Nat) :
    entryOf (toRetry e s) d =
      if d = e then { entryOf s e with st := .retry, offCount := false, completionHeld := false } else entryOf s d := by
  simp [toRetry, entryOf, setEntry]

theorem toRetry_lists (e : Nat) (s : State) :
    (toRetry e s).relay.waitList = s.relay.waitList ∧ (toRetry e s).relay.retryList = s.relay.retryList ++ [e] := ⟨rfl, rfl⟩

theorem failEntry_of_lt {e : Nat} {s : State} (h : (entryOf s e).attempts < 4) : failEntry e s = toRetry e s := if_pos h

theorem failEntry_of_ge {e : Nat} {s : State} (h : 4 ≤ (entryOf s e).attempts) :
    failEntry e s = endEntry false e .failed (entryOf s e).link s := if_neg (Nat.not_lt.mpr h)

theorem failEntry_other {e d : Nat} (hd : d ≠ e) (s : State) : entryOf (failEntry e s) d = entryOf s d := by
  rcases Nat.lt_or_ge (entryOf s e).attempts 4 with h | h
  · rw [failEntry_of_lt h, toRetry_entry, if_neg hd]
  · rw [failEntry_of_ge h, endEntry_entry, if_neg hd]

/-! ### The entries a reset releases (R88, R90) -/

/-- One entry posted on the reset link is released. -/
def releaseStep (s : State) (p : Nat × Entry) : State :=
  if p.2.completionHeld then setEntry p.1 { entryOf s p.1 with offCount := true } s else failEntry p.1 s

theorem releaseLink_eq (k : Nat) (s : State) :
    releaseLink k s = setLink k { linkOf ((byPost (postedOn s k)).foldl releaseStep s) k with posted := 0, oldest := none }
      ((byPost (postedOn s k)).foldl releaseStep s) := rfl

theorem releaseStep_other {p : Nat × Entry} {d : Nat} (hd : d ≠ p.1) (s : State) :
    entryOf (releaseStep s p) d = entryOf s d := by
  unfold releaseStep
  split
  · rw [entryOf_setEntry, if_neg hd]
  · exact failEntry_other hd s

theorem releaseStep_grows {r : PathMonitor} {s : State} (p : Nat × Entry) (h : grows r s.path) :
    grows r (releaseStep s p).path := by
  unfold releaseStep
  split
  · simpa using h
  · exact failEntry_grows _ h

/-- What a release leaves of the entry `p`, posted on link `k`. -/
structure Released (k : Nat) (s t : State) (p : Nat × Entry) : Prop where
  held : p.2.completionHeld = true → (entryOf t p.1).st = .posted ∧ (entryOf t p.1).offCount = true
  retry : p.2.completionHeld = false → p.2.attempts < 4 → (entryOf t p.1).st = .retry
  failed : p.2.completionHeld = false → 4 ≤ p.2.attempts → placed t (slotWrite s p.1 .failed (some k))

theorem Released.mono {k : Nat} {s t u : State} {p : Nat × Entry} (h : Released k s t p)
    (he : entryOf u p.1 = entryOf t p.1) (hg : grows t.path u.path) : Released k s u p where
  held := he ▸ h.held
  retry := he ▸ h.retry
  failed hheld hfour := (h.failed hheld hfour).mono hg

theorem releaseStep_released {k : Nat} {s : State} {p : Nat × Entry} (hentry : entryOf s p.1 = p.2)
    (hst : p.2.st = .posted) (hlink : p.2.link = some k) : Released k s (releaseStep s p) p := by
  unfold releaseStep
  refine ⟨fun h => ?_, fun h hlt => ?_, fun h hge => ?_⟩
  · rw [if_pos h, entryOf_setEntry, if_pos rfl, hentry]
    exact ⟨hst, rfl⟩
  · rw [if_neg (by simp [h]), failEntry_of_lt (by rwa [hentry]), toRetry_entry, if_pos rfl]
  · rw [if_neg (by simp [h]), failEntry_of_ge (by rwa [hentry]), hentry, hlink]
    exact endEntry_placed _ _ _ _ _

/-- The entry goes to the retry list when it is released. -/
def retries (p : Nat × Entry) : Bool := !p.2.completionHeld && decide (p.2.attempts < 4)

theorem releaseStep_retryList {s : State} {p : Nat × Entry} (hentry : entryOf s p.1 = p.2) (hnot : p.1 ∉ s.relay.retryList) :
    (releaseStep s p).relay.retryList = s.relay.retryList ++ (if retries p then [p.1] else []) := by
  have hfilter : s.relay.retryList.filter (· != p.1) = s.relay.retryList :=
    List.filter_eq_self.mpr fun e he => bne_iff_ne.mpr fun h => hnot (h ▸ he)
  unfold releaseStep retries
  cases hheld : p.2.completionHeld with
  | true => simp [setEntry]
  | false =>
    rcases Nat.lt_or_ge p.2.attempts 4 with hlt | hge
    · rw [if_neg (by simp), failEntry_of_lt (by rwa [hentry]), (toRetry_lists _ _).2]
      simp [hlt]
    · rw [if_neg (by simp), failEntry_of_ge (by rwa [hentry]), (endEntry_lists _ _ _ _ _).2, hfilter]
      simp [Nat.not_lt.mpr hge]

/-- The entries of `l` are released one after the other: each once, and none of the others moves. -/
theorem foldl_releaseStep {k : Nat} (l : List (Nat × Entry)) {s : State} (hnodup : (l.map Prod.fst).Nodup)
    (hl : ∀ p ∈ l, entryOf s p.1 = p.2 ∧ p.2.st = .posted ∧ p.2.link = some k) :
    (∀ p ∈ l, Released k s (l.foldl releaseStep s) p) ∧
      (∀ e, e ∉ l.map Prod.fst → entryOf (l.foldl releaseStep s) e = entryOf s e) ∧
      ((∀ e ∈ s.relay.retryList, e ∉ l.map Prod.fst) →
        (l.foldl releaseStep s).relay.retryList = s.relay.retryList ++ (l.filter retries).map Prod.fst) := by
  induction l generalizing s with
  | nil => simp
  | cons p l ih =>
    obtain ⟨hp, hnodup⟩ := List.nodup_cons.mp hnodup
    obtain ⟨⟨hentry, hst, hlink⟩, hl⟩ := List.forall_mem_cons.mp hl
    have hne (q) (hq : q ∈ l) : q.1 ≠ p.1 := fun h => hp (h ▸ List.mem_map_of_mem hq)
    obtain ⟨hrel, hother, hretry⟩ := ih (s := releaseStep s p) hnodup fun q hq => by
      rw [releaseStep_other (hne q hq)]
      exact hl q hq
    have hgrows : grows (releaseStep s p).path (l.foldl releaseStep (releaseStep s p)).path :=
      grows_foldl (fun s q h => releaseStep_grows q h) l (grows.refl _)
    have hcfg : (releaseStep s p).cfg = s.cfg := by
      unfold releaseStep
      split <;> simp
    refine ⟨List.forall_mem_cons.mpr ⟨?_, fun q hq => ?_⟩, fun e he => ?_, fun hdisj => ?_⟩
    · exact (releaseStep_released hentry hst hlink).mono (hother _ hp) hgrows
    · obtain ⟨h1, h2, h3⟩ := hrel q hq
      exact ⟨h1, h2, fun hheld hge => slotWrite_congr (releaseStep_other (hne q hq) s) hcfg _ _ ▸ h3 hheld hge⟩
    · rw [List.map_cons, List.mem_cons, not_or] at he
      exact (hother e he.2).trans (releaseStep_other he.1 s)
    · have hnot : p.1 ∉ s.relay.retryList := fun h => hdisj _ h (by simp)
      have hstep := releaseStep_retryList hentry hnot
      rw [List.foldl_cons, hretry ?_, hstep, List.append_assoc]
      · cases hr : retries p <;> simp [hr]
      · intro e he
        rw [hstep] at he
        rcases List.mem_append.mp he with he | he
        · exact fun h => hdisj e he (by simp [h])
        · split at he
          · rw [List.mem_singleton.mp he]
            exact hp
          · cases he

theorem postedOn_spec {s : State} (h : tabWf s.relay.table = true) {k : Nat} {p : Nat × Entry} (hp : p ∈ postedOn s k) :
    entryOf s p.1 = p.2 ∧ p.2.st = .posted ∧ p.2.link = some k := by
  obtain ⟨e, en⟩ := p
  obtain ⟨hmem, hcond⟩ := List.mem_filter.mp hp
  simp only [Bool.and_eq_true, beq_iff_eq] at hcond
  obtain ⟨⟨hst, hlink⟩, -⟩ := hcond
  exact ⟨((mem_iff_look _ h _ _).mp hmem).1, hst, hlink⟩

theorem mem_byPost {l : List (Nat × Entry)} {p : Nat × Entry} : p ∈ byPost l ↔ p ∈ l :=
  (List.perm_insertionSort _ l).mem_iff

theorem byPost_postedOn_nodup {s : State} (h : tabWf s.relay.table = true) (k : Nat) :
    ((byPost (postedOn s k)).map Prod.fst).Nodup := by
  have hsorted := ((tabWf_iff _).mp h).1
  have htable : (s.relay.table.map Prod.fst).Nodup :=
    (List.pairwise_map.mpr (hsorted.imp fun h => h.ne))
  exact (((List.perm_insertionSort _ _).map Prod.fst).nodup_iff).mpr
    (htable.sublist (List.filter_sublist.map Prod.fst))

/-! ### The reset link -/

theorem selectionUp_congr {s t : State} (h : selectionUp s) (hl : linksShown s t) (hs : SameSelector s t) : selectionUp t := by
  obtain ⟨-, hactive, heligible, -⟩ := hs
  obtain ⟨h1, h2⟩ := h
  refine ⟨fun k hk => ?_, fun k hk => ?_⟩
  · rw [(hl k).1]
    exact h1 k (hactive ▸ hk)
  · rw [(hl k).1]
    exact h2 k (heligible ▸ hk)

/-- A link that is not UP is posted nothing by a pass, while every active and every eligible link is UP. -/
def untouched (k : Nat) (l : Link) (s : State) : Prop := linkOf s k = l ∧ selectionUp s

theorem passKeeps_untouched {k : Nat} {l : Link} (hl : l.health ≠ .up) : PassKeeps (untouched k l) where
  ends _ _ _ s hs _ := ⟨(linkOf_congr (by simp) k).trans hs.1,
    selectionUp_congr hs.2 (linksShown_of_links (by simp)) (by simp)⟩
  posts e j s hs _ hj := by
    obtain ⟨hlink, hup⟩ := hs
    have hjup : (linkOf s j).health = .up := by
      rcases hj with hj | hj | hj
      · exact hup.1 j hj
      · exact hup.2 j hj
      · exact hj
    refine ⟨?_, selectionUp_congr hup (post_shown e j s) (by simp)⟩
    rcases linkOf_post e j s k with h | ⟨rfl, -⟩
    · exact h.trans hlink
    · exact absurd (hlink ▸ hjup) hl
  rounds _ _ hs := hs
  installs _ _ hs _ := hs

/-- The state in which a reset releases its entries: posts that wait are given up, and the link is DISABLED already (R65). -/
def resetBegun (k : Nat) (s : State) : State :=
  let d := dropPosts (· == k) s
  setLink k { linkOf d k with health := .disabled, gen := (linkOf d k).gen + 1 } d

/-- What is left of a reset once its entries are released: the counts cleared, the report and the selector (R65). -/
theorem resetLink_eq (k : Nat) (s : State) :
    resetLink k s = selectorEval (if (linkOf s k).health = .disabled then releaseLink k (resetBegun k s)
      else linkStateReport k (linkOf s k).health .command (releaseLink k (resetBegun k s))) := by
  have hlink : linkOf (dropPosts (· == k) s) k = linkOf s k := linkOf_congr (by simp) k
  rw [← hlink]
  rfl

theorem linkOf_resetBegun (k : Nat) (s : State) (j : Nat) : linkOf (resetBegun k s) j =
    if j = k then { linkOf s k with health := .disabled, gen := (linkOf s k).gen + 1 } else linkOf s j := by
  have hlink (j) : linkOf (dropPosts (· == k) s) j = linkOf s j := linkOf_congr (by simp) j
  rw [resetBegun, linkOf_setLink, hlink, hlink]

/-- The links after a reset of link `k` (R65). -/
theorem linkOf_resetLink (k : Nat) (s : State) (j : Nat) :
    linkOf (resetLink k s) j = if j = k then { linkOf s k with
      health := .disabled, gen := (linkOf s k).gen + 1, posted := 0, oldest := none } else linkOf s j := by
  obtain ⟨f, hf⟩ : ∃ f, (byPost (postedOn (resetBegun k s) k)).foldl releaseStep (resetBegun k s) = f := ⟨_, rfl⟩
  have hflink (j) : linkOf f j = linkOf (resetBegun k s) j := linkOf_congr (by
    rw [← hf]
    exact congrArg LinkSupervisor.links (foldl_releaseEntry_frame _ _).2.2.2.2.1) j
  have hlinks : linkOf (resetLink k s) j = linkOf (releaseLink k (resetBegun k s)) j := by
    rw [resetLink_eq, linkOf_selectorEval]
    split
    · rfl
    · rw [linkOf_linkStateReport]
  rw [hlinks, releaseLink_eq, hf, linkOf_setLink, hflink, hflink, linkOf_resetBegun, linkOf_resetBegun]
  by_cases h : j = k <;> simp [h]

/-- The entries posted on link `k` after its reset, and the retry list (R65, R88, R90). -/
theorem resetLink_released (k : Nat) {s : State} (h : tabWf s.relay.table = true) :
    (∀ p ∈ postedOn s k, Released k s (resetLink k s) p) ∧
      ((∀ e ∈ s.relay.retryList, (entryOf s e).st ≠ .posted) →
        (resetLink k s).relay.retryList =
          s.relay.retryList ++ ((byPost (postedOn s k)).filter retries).map Prod.fst) := by
  obtain ⟨m, hm⟩ : ∃ m, resetBegun k s = m := ⟨_, rfl⟩
  have htable : m.relay.table = s.relay.table := by simp [← hm, resetBegun]
  have hretry : m.relay.retryList = s.relay.retryList := by simp [← hm, resetBegun]
  have hcfg : m.cfg = s.cfg := by simp [← hm, resetBegun]
  have hposted : postedOn m k = postedOn s k := by simp [postedOn, htable]
  have hmwf : tabWf m.relay.table = true := htable ▸ h
  obtain ⟨hreleased, -, hlist⟩ := foldl_releaseStep (k := k) (byPost (postedOn m k)) (byPost_postedOn_nodup hmwf k)
    fun p hp => postedOn_spec hmwf (mem_byPost.mp hp)
  obtain ⟨f, hf⟩ : ∃ f, (byPost (postedOn m k)).foldl releaseStep m = f := ⟨_, rfl⟩
  rw [hf] at hreleased hlist
  have hrelease : releaseLink k m = setLink k { linkOf f k with posted := 0, oldest := none } f := by
    rw [releaseLink_eq, hf]
  have hend : (resetLink k s).relay.table = f.relay.table ∧ (resetLink k s).relay.retryList = f.relay.retryList ∧
      grows f.path (resetLink k s).path := by
    rw [resetLink_eq, hm, hrelease]
    have hg : grows f.path (setLink k { linkOf f k with posted := 0, oldest := none } f).path := by simp
    split
    · exact ⟨by simp, by simp, selectorEval_grows hg⟩
    · exact ⟨by simp, by simp, selectorEval_grows (linkStateReport_grows _ _ _ hg)⟩
  obtain ⟨hendTable, hendRetry, hgrows⟩ := hend
  refine ⟨fun p hp => ?_, fun hnot => ?_⟩
  · obtain ⟨h1, h2, h3⟩ := (hreleased p (mem_byPost.mpr (hposted ▸ hp))).mono (entryOf_congr hendTable _) hgrows
    exact ⟨h1, h2, fun hheld hge => slotWrite_congr (entryOf_congr htable _) hcfg _ _ ▸ h3 hheld hge⟩
  · rw [hendRetry, hlist fun e he hmem => ?_, hretry, hposted]
    obtain ⟨p, hp, rfl⟩ := List.mem_map.mp hmem
    obtain ⟨hentry, hst, -⟩ := postedOn_spec h (hposted ▸ mem_byPost.mp hp)
    exact hnot p.1 (hretry ▸ he) (by rw [hentry]; exact hst)

/-! ### LOAD_LINK (R57, R58) -/

theorem linkOf_loadLink (k : Nat) (r : LinkRec) (s : State) (j : Nat) :
    linkOf (loadLink k r s) j = if j = k then { linkOf s k with
      record := some r, health := if (linkOf s k).health = .unconfigured then .disabled else (linkOf s k).health }
      else linkOf s j := by
  unfold loadLink
  dsimp only
  split
  · rw [linkOf_moveHealth]
    by_cases h : j = k <;> simp [h]
  · rw [linkOf_setLink]

/-- The parts of the state that the region table reads. -/
theorem regionOf_congr {s t : State} (hcfg : t.cfg = s.cfg) (hsup : t.sup = s.sup) (hbase : t.path.baseSel = s.path.baseSel)
    (hcmd : t.cmd.base = s.cmd.base ∧ t.cmd.size = s.cmd.size ∧ t.cmd.configured = s.cmd.configured)
    (hrep : t.rep.base = s.rep.base ∧ t.rep.size = s.rep.size) (g : RegionKind) : regionOf t g = regionOf s g := by
  obtain ⟨hb, hn, hconf⟩ := hcmd
  obtain ⟨hrb, hrn⟩ := hrep
  cases g <;> simp only [regionOf, ctrlBase_congr hbase, linkOf, hcfg, hsup, hb, hn, hconf, hrb, hrn]

theorem regionOf_commandBegun (q : Request) (n : Bool) (addr index size : Nat) (s : State) (g : RegionKind) :
    regionOf (commandBegun q n addr index size s) g = regionOf s g :=
  regionOf_congr rfl rfl rfl ⟨rfl, rfl, rfl⟩ ⟨rfl, rfl⟩ g

/-- LOAD_LINK of a link that is not in use (R57, R58). -/
theorem loadLink_completes (n : Bool) (p : LoadLinkParams) (r : LinkRec) (s : State) (addr index size : Nat)
    (hf : fetchReturns s addr index size) (hrun : s.cmd.run ≠ .halted) (hk : p.link.toNat ≤ 3)
    (hhealth : (linkOf s p.link.toNat).health = .unconfigured ∨ (linkOf s p.link.toNat).health = .disabled)
    (hrec : linkRecOf p = some r) (hoverlap : s.cmd.run = .running → ringOverlaps s p.link.toNat r = false) :
    ∃ t, exec (.loadLink n p) s = .next t ∧ (linkOf t p.link.toNat).record = some r ∧
      (linkOf t p.link.toNat).health = .disabled ∧ (linkOf t p.link.toNat).gen = (linkOf s p.link.toNat).gen ∧
      (linkOf t p.link.toNat).quality = (linkOf s p.link.toNat).quality ∧ othersKept p.link.toNat s t ∧
      completed t addr
        (completion .ok [(1, r.retries), (1, r.threshold), (4, r.timeout), (4, r.probation)] s.clock) ∧
      keeps [.clock, .settings, .position, .capture, .rating, .settlement] s t := by
  obtain ⟨b, hb⟩ : ∃ b, commandBegun (.loadLink p) n addr index size s = b := ⟨_, rfl⟩
  have hlink (j) : linkOf b j = linkOf s j := linkOf_congr (by rw [← hb]; simp) j
  have hbrun : b.cmd.run = s.cmd.run := by simp [← hb]
  have hregion (g) : regionOf b g = regionOf s g := hb ▸ regionOf_commandBegun _ _ _ _ _ s g
  have hok : (running b && ringOverlaps b p.link.toNat r) = false := by
    have hsame : ringOverlaps b p.link.toNat r = ringOverlaps s p.link.toNat r := by
      simp only [ringOverlaps, funext hregion]
    rw [hsame]
    simp only [running, hbrun, Bool.and_eq_false_imp, beq_iff_eq]
    exact hoverlap
  have hhand : handCommand (.loadLink p) b = complete .ok
      [(1, r.retries), (1, r.threshold), (4, r.timeout), (4, r.probation)] [] (loadLink p.link.toNat r b) := by
    have hidle : ¬ ((linkOf b p.link.toNat).health ≠ .unconfigured ∧ (linkOf b p.link.toNat).health ≠ .disabled) := by
      rw [hlink]
      tauto
    have hin : ¬ 3 < p.link.toNat := by omega
    have hnot : halted b = false := by simp [halted, hbrun, hrun]
    simp [handCommand, doLoadLink, hnot, hin, hidle, hrec, hok]
  obtain ⟨t, hexec, hshown, -, hdone, hkeeps⟩ := exec_ringRow_links hf hb hhand
    (by simp [← hb]) (by simp [← hb])
  obtain ⟨th, tr, -, tq, tg⟩ := hshown p.link.toNat
  have hother (j) (hj : j ≠ p.link.toNat) : linkOf (loadLink p.link.toNat r b) j = linkOf s j := by
    rw [linkOf_loadLink, if_neg hj, hlink]
  rw [linkOf_loadLink, if_pos rfl, hlink] at th tr tq tg
  refine ⟨t, hexec, tr, th.trans ?_, tg, tq, othersKept_of_shown hother hshown, hdone, hkeeps⟩
  rcases hhealth with h | h <;> simp [h]

/-- Settles O34. -/
theorem loadLinkAndResetDisable : Obligations.LoadLinkAndResetDisable := by
  refine ⟨loadLink_completes, fun n v s addr index size hf hrun hv hused => ?_⟩
  obtain ⟨b, hb⟩ : ∃ b, commandBegun (.linkReset v) n addr index size s = b := ⟨_, rfl⟩
  have hlink (j) : linkOf b j = linkOf s j := linkOf_congr (by rw [← hb]; simp) j
  have hrelay : b.relay = s.relay := by simp [← hb]
  have hcfg : b.cfg = s.cfg := by simp [← hb]
  have hbrun : b.cmd.run = .running := by simpa [← hb] using hrun
  obtain ⟨r, hr⟩ : ∃ r, resetLink v.toNat b = r := ⟨_, rfl⟩
  have hrlink (j) := linkOf_resetLink v.toNat b j
  simp only [hr, hlink] at hrlink
  have hself : linkOf r v.toNat = { linkOf s v.toNat with
      health := .disabled, gen := (linkOf s v.toNat).gen + 1, posted := 0, oldest := none } := by rw [hrlink, if_pos rfl]
  have hselection : selectionUp r := by
    rw [← hr, resetLink_eq]
    apply selectorEval_selectionUp
    split <;> simp [resetBegun, hbrun]
  obtain ⟨vals, hvals⟩ : ∃ vals, [(2, (linkOf s v.toNat).posted), (2, ((linkOf s v.toNat).gen + 1).toNat)] = vals := ⟨_, rfl⟩
  have hhand : handCommand (.linkReset v) b = complete .ok vals [] r := by
    have hgen : (linkOf r v.toNat).gen = (linkOf s v.toNat).gen + 1 := by rw [hself]
    have hin : ¬ 3 < v.toNat := by omega
    simp [handCommand, doLinkReset, running, hbrun, hin, hlink, hused, hr, hgen, ← hvals]
  obtain ⟨hexec, hdone, hkeeps⟩ := exec_ringRow_completes hf (hb ▸ hhand) (by simp [← hr, ← hb]) (by simp [← hr, ← hb])
  obtain ⟨u, hu⟩ : ∃ u, complete .ok vals [] r = u := ⟨_, rfl⟩
  have husup : u.sup = r.sup := by simp [← hu]
  have hurelay : u.relay = r.relay := by simp [← hu]
  have hugrows : grows r.path u.path := by rw [← hu]; exact complete_grows _ _ _ (grows.refl _)
  have hulink (j) : linkOf u j = linkOf r j := linkOf_congr (by rw [husup]) j
  rw [hu] at hexec hdone hkeeps
  have hshown : linksShown u (settleEvent s u) := settleEvent_shown s u
  have hkept : linkOf (settleEvent s u) v.toNat = linkOf u v.toNat := by
    have hdown : (linkOf u v.toNat).health ≠ .up := by rw [hulink, hself]; simp
    obtain ⟨m, ⟨hm, -⟩, hsup, -⟩ := settleEvent_passKeeps (passKeeps_untouched hdown) s (s := u)
      ⟨rfl, selectionUp_congr hselection (linksShown_of_links (by rw [husup])) (by simp [husup])⟩
    rw [← hm]
    exact linkOf_congr (by rw [hsup]) _
  rw [hulink, hself] at hkept
  refine ⟨settleEvent s u, u, hexec, rfl, by rw [hkept], by rw [hkept], by rw [hkept], fun hwf => ?_, by rw [hkept],
    by rw [hkept], by rw [hkept], ?_, hvals ▸ hdone, hkeeps⟩
  · obtain ⟨hreleased, hretry⟩ := resetLink_released v.toNat (s := b) (by rw [hrelay]; exact hwf)
    have hposted : postedOn b v.toNat = postedOn s v.toNat := by simp [postedOn, hrelay]
    have hbentry (e) : entryOf b e = entryOf s e := entryOf_congr (by rw [hrelay]) e
    rw [hr] at hreleased hretry
    refine ⟨fun p hp => ?_, fun hnot => ?_⟩
    · obtain ⟨h1, h2, h3⟩ := (hreleased p (hposted ▸ hp)).mono (entryOf_congr (by rw [hurelay]) _) hugrows
      exact ⟨h1, h2, fun hheld hge => slotWrite_congr (hbentry _) hcfg _ _ ▸ h3 hheld hge⟩
    · rw [hurelay, hretry fun e he => ?_, hrelay, hposted]
      · rfl
      · rw [hbentry]
        exact hnot e (hrelay ▸ he)
  · exact othersKept_of_shown (fun j hj => by rw [hulink, hrlink, if_neg hj]) hshown

end Sys2Proof.Machine
end

section
/-! The statements of chapter 05 about the schedule (R93, R94), and the head of the wait list that waits too long (R81, R82). -/

namespace Sys2Proof.Machine

/-! ### The schedule (R93, R94) -/

/-- This schedule runs, and none is staged. -/
def runsAlone (sch : Schedule) (s : State) : Prop := s.relay.running = sch ∧ s.relay.staged = none

theorem endEntry_schedules (inPass : Bool) (e : Nat) (f : Final) (link : Option Nat) (s : State) :
    (endEntry inPass e f link s).relay.running = s.relay.running ∧
      (endEntry inPass e f link s).relay.staged = s.relay.staged := by
  cases h : canEnter s with
  | true =>
    rw [endEntry_of_room _ _ _ _ h]
    simp [freeEntry, offLists]
  | false =>
    obtain ⟨m, hm, hend⟩ := endEntry_of_full inPass e f link h
    rw [hend, hm]
    simp [setEntry, offLists]

theorem post_schedules (e k : Nat) (s : State) :
    (post e k s).relay.running = s.relay.running ∧ (post e k s).relay.staged = s.relay.staged := by
  unfold post
  dsimp only
  split <;> simp [markPosted, setEntry]

theorem passKeeps_runsAlone (sch : Schedule) : PassKeeps (runsAlone sch) where
  ends _ _ _ _ hs _ := ⟨(endEntry_schedules _ _ _ _ _).1.trans hs.1, (endEntry_schedules _ _ _ _ _).2.trans hs.2⟩
  posts _ _ _ hs _ _ := ⟨(post_schedules _ _ _).1.trans hs.1, (post_schedules _ _ _).2.trans hs.2⟩
  rounds _ _ hs := hs
  installs _ _ hs hst := absurd (hs.2.symm.trans hst) (by simp)

/-- A schedule that waits at no round boundary is installed at once. -/
theorem setSchedule_installs {n : Bool} {p : SetScheduleParams} {sch : Schedule} {s : State} {addr index size : Nat}
    (hf : fetchReturns s addr index size) (hrun : s.cmd.run ≠ .halted) (hsch : scheduleOf p = some sch)
    (hnow : s.sup.mode = .single ∨ s.relay.round = 0) :
    ∃ t, exec (.setSchedule n p) s = .next t ∧ runsAlone sch t ∧ completed t addr (completion .ok [(1, 1)] s.clock) := by
  obtain ⟨b, hb⟩ : ∃ b, commandBegun (.setSchedule p) n addr index size s = b := ⟨_, rfl⟩
  have hsup : b.sup = s.sup := by simp [← hb]
  have hrelay : b.relay = s.relay := by simp [← hb]
  have hbrun : b.cmd.run = s.cmd.run := by simp [← hb]
  obtain ⟨c, hc⟩ : ∃ c, complete .ok [(1, 1)] [] (installSchedule sch b) = c := ⟨_, rfl⟩
  have hhand : handCommand (.setSchedule p) b = dispatchPass c := by
    simp [handCommand, doSetSchedule, halted, hbrun, hrun, hsch, hsup, hrelay, hnow, hc]
  have hexec : exec (.setSchedule n p) s = .next (settleEvent s (dispatchPass c)) := by
    rw [← hhand, ← hb]
    exact exec_ringRow_of_fetchReturns hf (.setSchedule p) n
  have hcalone : runsAlone sch c := by simp [runsAlone, ← hc, installSchedule]
  obtain ⟨m, hm, -, -, -, -, hrunning, hstaged⟩ :=
    settleEvent_passKeeps (passKeeps_runsAlone sch) s (dispatchPass_keeps (passKeeps_runsAlone sch) hcalone)
  have hjob : (installSchedule sch b).cmd.job = some (begunJob (.setSchedule p) n addr index size) := by simp [← hb]
  have hdone : completed c addr (completion .ok [(1, 1)] s.clock) := by
    have hclock : (installSchedule sch b).clock = s.clock := by simp [← hb]
    rw [← hc, ← hclock]
    exact complete_completed hjob rfl _ _
  refine ⟨_, hexec, ⟨hrunning.trans hm.1, hstaged.trans hm.2⟩, ?_⟩
  exact hdone.mono (settleEvent_grows _ (dispatchPass_grows (grows.refl _))) (by simp)

/-- Settles O39. -/
theorem setScheduleInstallsOrStages : Obligations.SetScheduleInstallsOrStages := by
  intro n p sch s addr index size hf hrun hsch
  by_cases hnow : s.sup.mode = .single ∨ s.relay.round = 0
  · obtain ⟨t, hexec, halone, hdone⟩ := setSchedule_installs (n := n) hf hrun hsch hnow
    refine ⟨t, hexec, fun _ => halone, fun hmode hround => ?_, ?_, rowFrames _ s t hexec⟩
    · rcases hnow with h | h
      · exact absurd (hmode.symm.trans h) (by decide)
      · exact absurd h hround
    · simpa [hnow, yesNo] using hdone
  · obtain ⟨b, hb⟩ : ∃ b, commandBegun (.setSchedule p) n addr index size s = b := ⟨_, rfl⟩
    have hsup : b.sup = s.sup := by simp [← hb]
    have hrelay : b.relay = s.relay := by simp [← hb]
    have hbrun : b.cmd.run = s.cmd.run := by simp [← hb]
    obtain ⟨m, hm⟩ : ∃ m, { b with relay := { b.relay with staged := some sch } } = m := ⟨_, rfl⟩
    have hhand : handCommand (.setSchedule p) b = complete .ok [(1, 0)] [] m := by
      simp [handCommand, doSetSchedule, halted, hbrun, hrun, hsch, hsup, hrelay, hnow, ← hm]
    have hmrelay : m.relay = { s.relay with staged := some sch } := by rw [← hm, hrelay]
    obtain ⟨hexec, hdone, hkeeps⟩ := exec_ringRow_completes hf (hb ▸ hhand) (by simp [← hm, ← hb]) (by simp [← hm, ← hb])
    have hquiet : passStarts s (complete .ok [(1, 0)] [] m) = false :=
      passStarts_eq_false (by simp [← hm, hsup]) (by simp [hmrelay]) (by simp [hmrelay]) (by simp [hmrelay])
    have hschedules : (settleEvent s (complete .ok [(1, 0)] [] m)).relay.running = s.relay.running ∧
        (settleEvent s (complete .ok [(1, 0)] [] m)).relay.staged = some sch := by
      rw [settleEvent_of_not_passStarts hquiet]
      simp [tryTake_schedules, hmrelay]
    refine ⟨_, hexec, fun h => absurd h hnow, fun _ _ => hschedules, ?_, hkeeps⟩
    simpa [hnow, yesNo] using hdone

/-! ### The head of the wait list (R81, R82) -/

/-- Entry `e` is as it was, and on neither list. -/
def settledEntry (e : Nat) (en : Entry) (s : State) : Prop := entryOf s e = en ∧ ¬ listed s e

theorem post_entry_other {e d : Nat} (hd : d ≠ e) (k : Nat) (s : State) : entryOf (post e k s) d = entryOf s d := by
  unfold post
  dsimp only
  split
  · obtain ⟨m, hm⟩ : ∃ m, placeWrite { postWrite s e k with resume := true } s = m := ⟨_, rfl⟩
    have hentry : entryOf m d = entryOf s d := entryOf_congr (by rw [← hm]; simp) d
    rw [hm, ← hentry]
    simp [markPosted, entryOf, hd]
  · exact entryOf_congr (by simp) d

theorem post_lists (e k : Nat) (s : State) :
    (∀ d ∈ (post e k s).relay.waitList, d ∈ s.relay.waitList) ∧ ∀ d ∈ (post e k s).relay.retryList, d ∈ s.relay.retryList := by
  unfold post
  dsimp only
  split
  · simp only [markPosted, setEntry, setLink_frame, placeWrite_frame]
    exact ⟨fun d hd => List.mem_of_mem_filter hd, fun d hd => List.mem_of_mem_filter hd⟩
  · simp

theorem passKeeps_settledEntry (e : Nat) (en : Entry) : PassKeeps (settledEntry e en) where
  ends d f link s hs hd := by
    obtain ⟨hentry, hnot⟩ := hs
    have hne : e ≠ d := fun h => hnot (h ▸ hd)
    obtain ⟨hwait, hretry⟩ := endEntry_lists true d f link s
    refine ⟨by rw [endEntry_entry, if_neg hne, hentry], fun h => hnot ?_⟩
    rw [listed, hwait, hretry] at h
    exact h.imp List.mem_of_mem_filter List.mem_of_mem_filter
  posts d k s hs hd _ := by
    obtain ⟨hentry, hnot⟩ := hs
    obtain ⟨hwait, hretry⟩ := post_lists d k s
    have hne : e ≠ d := fun h => hnot (h ▸ hd)
    exact ⟨(post_entry_other hne k s).trans hentry, fun h => hnot (h.imp (hwait e) (hretry e))⟩
  rounds _ _ hs := hs
  installs _ _ hs _ := hs

/-- Settles O37. -/
theorem headAgeExpiresHead : Obligations.HeadAgeExpiresHead := by
  intro e rest s hrun hsusp hretry hwait hgated hage
  have hdue : headAgeDue s = true := by simp [headAgeDue, hrun, hsusp, hwait, hage]
  have hexec : exec .headAgeExpiry s = .next (settleEvent s (dispatchPass s)) := by
    show Host.Outcome.next (if headAgeDue s then settleEvent s (dispatchPass s) else s) = _
    rw [if_pos hdue]
  obtain ⟨m, hm⟩ : ∃ m, endEntry true e .expired (entryOf s e).link s = m := ⟨_, rfl⟩
  have hpass : dispatchPass s = passLoop (s.relay.retryList.length + s.relay.waitList.length) m := by
    have hjudge : judgeHead false e s = (m, true) := by simp [judgeHead, hgated, hage, hm]
    rw [dispatchPass, if_pos (by simp [hrun]), passLoop_succ, if_neg (by simp [hsusp])]
    simp [judgeRetry, hretry, judgeWait, hwait, hjudge]
  obtain ⟨hmwait, hmretry⟩ := endEntry_lists true e .expired (entryOf s e).link s
  have hentry := endEntry_entry true e .expired (entryOf s e).link s e
  rw [hm] at hmwait hmretry hentry
  have hleft : ¬ listed m e := by simp [listed, hmwait, hmretry]
  have hkept := passLoop_keeps (passKeeps_settledEntry e (entryOf m e)) (s.relay.retryList.length + s.relay.waitList.length)
    (s := m) ⟨rfl, hleft⟩
  rw [← hpass] at hkept
  obtain ⟨u, ⟨huentry, hunot⟩, -, htable, huwait, -⟩ := settleEvent_passKeeps (passKeeps_settledEntry e (entryOf m e)) s hkept
  refine ⟨_, hexec, ?_, ?_, ?_, rowFrames _ s _ hexec⟩
  · have hgrows : grows m.path (dispatchPass s).path := by
      rw [hpass]
      exact passLoop_grows _ (grows.refl _)
    refine placed.mono (s := m) ?_ (settleEvent_grows s hgrows)
    rw [← hm]
    exact endEntry_placed _ _ _ _ _
  · rw [huwait]
    exact fun h => hunot (.inl h)
  · rw [entryOf_congr htable, huentry, hentry, if_pos rfl]
    split <;> rfl

/-! ### What a report depends on (R185) -/

/-- The own writes, the Report Writer and what its reports read are the same. -/
structure SameOutput (s t : State) : Prop where
  clock : t.clock = s.clock
  rep : t.rep = s.rep
  queue : t.path.queue = s.path.queue
  waiting : t.path.waiting = s.path.waiting
  seq : t.path.seq = s.path.seq
  base : t.path.baseSel = s.path.baseSel

theorem SameOutput.canEnter {s t : State} (h : SameOutput s t) : canEnter t = canEnter s := by
  simp [Machine.canEnter, h.queue, h.waiting]

theorem SameOutput.placeWrite {s t : State} (h : SameOutput s t) (w : OwnWrite) :
    SameOutput (placeWrite w s) (placeWrite w t) := by
  unfold Machine.placeWrite
  rw [h.canEnter]
  split
  · exact ⟨h.clock, h.rep, by simp [h.queue, h.seq], h.waiting, by simp [h.seq], h.base⟩
  · exact ⟨h.clock, h.rep, h.queue, by simp [h.waiting], h.seq, h.base⟩

theorem SameOutput.withRep {s t : State} (h : SameOutput s t) (r : ReportWriter) :
    SameOutput { s with rep := r } { t with rep := r } := ⟨h.clock, rfl, h.queue, h.waiting, h.seq, h.base⟩

theorem SameOutput.pumpReports {s t : State} (h : SameOutput s t) (n : Nat) :
    SameOutput (pumpReports n s) (pumpReports n t) := by
  induction n generalizing s t with
  | zero => exact h
  | succ n ih =>
    have hwaits : reportWriteWaits t = reportWriteWaits s := by simp [reportWriteWaits, h.waiting]
    unfold Machine.pumpReports
    rw [h.rep, hwaits, h.canEnter]
    repeat' split
    · exact h
    · exact h
    · exact ih ((h.withRep _).placeWrite _)
    · exact h.placeWrite _
    · exact ih ((h.withRep _).placeWrite _)
    · exact h.placeWrite _

theorem SameOutput.placeReport {s t : State} (h : SameOutput s t) (r : Report) :
    SameOutput (placeReport r s) (placeReport r t) := by
  have hring : repRing t = repRing s := repRing_congr (by rw [h.rep]) (by rw [h.rep])
  unfold Machine.placeReport runReports
  rw [hring, producerAddr_congr h.base, h.rep]
  cases repRing s with
  | none => exact h
  | some g => exact (h.withRep _).pumpReports _

theorem SameOutput.event {s t : State} (h : SameOutput s t) (kind cause flags : Nat) (fields : List (Nat × Nat × Nat)) :
    SameOutput (event kind cause flags fields s) (event kind cause flags fields t) := by
  have hplace : canPlace t = canPlace s := by
    simp [canPlace, repRoom, h.rep, repRing_congr (s := s) (t := t) (by rw [h.rep]) (by rw [h.rep])]
  have hreport : reportNow t kind cause flags fields = reportNow s kind cause flags fields := by
    simp [reportNow, h.clock]
  unfold Machine.event offerEvent
  rw [hplace, hreport, h.rep]
  split
  · exact h.placeReport _
  · exact h.withRep _

/-! ### What a take makes of its descriptor (R79) -/

/-- The take that has read its descriptor ends its entry at once. -/
def takeEnds (k : Take) (d : List Byte) (f : Final) (s : State) : State :=
  endEntry false k.entry f none (setEntry k.entry { takenEntry k d with st := .ending } s)

theorem judgeTake_of_running {k : Take} {d : List Byte} {s : State} (h : s.cmd.run = .running) :
    judgeTake k d s = if descLength d = 0 then takeEnds k d .rejected s
      else if descAccount d = shipAccount then joinWait k.entry (takenEntry k d) s
      else if s.cfg.accounts ≤ descAccount d then takeEnds k d .rejected (badAccount 4 255 k.slot (descAccount d) s)
      else if gateDecision s (descAccount d) = false then takeEnds k d .gated s
      else joinWait k.entry { takenEntry k d with
        metered := true, incarnation := (look s.gate.map (descAccount d)).incarnation } s := by
  unfold judgeTake
  dsimp only
  rw [if_neg (by simp [h])]
  rfl

@[simp] theorem joinWait_rest (e : Nat) (en : Entry) (s : State) :
    (joinWait e en s).relay.waitList = s.relay.waitList ++ [e] ∧ (joinWait e en s).relay.take = s.relay.take ∧
      (joinWait e en s).rep = s.rep := ⟨rfl, rfl, rfl⟩

theorem joinWait_entry (e : Nat) (en : Entry) (s : State) : entryOf (joinWait e en s) e = { en with st := .waiting } := by
  simp [joinWait, entryOf, setEntry]

theorem endEntry_take (inPass : Bool) (e : Nat) (f : Final) (link : Option Nat) (s : State) :
    (endEntry inPass e f link s).relay.take = s.relay.take := by
  cases h : canEnter s with
  | true =>
    rw [endEntry_of_room _ _ _ _ h]
    simp [freeEntry, offLists]
  | false =>
    obtain ⟨m, hm, hend⟩ := endEntry_of_full inPass e f link h
    rw [hend, hm]
    simp [setEntry, offLists]

/-- The slot that a take writes back with a final status: no link, no attempt (R79, R192). -/
def takenBack (s : State) (k : Take) (d : List Byte) (f : Final) : OwnWrite :=
  fullWrite .uplinkRelay (s.cfg.upBase + 16 * k.slot)
    (recordOf 16 [(0, 8, descBuffer d), (8, 2, descLength d), (10, 2, descAccount d), (12, 1, 0), (13, 1, finalCode f),
      (14, 1, 255), (15, 1, 0)]) (.slotBack k.entry)

theorem takeEnds_spec (k : Take) (d : List Byte) (f : Final) (s : State) :
    (takeEnds k d f s).relay.take = s.relay.take ∧ (takeEnds k d f s).rep = s.rep ∧
      placed (takeEnds k d f s) (takenBack s k d f) := by
  refine ⟨?_, ?_, ?_⟩
  · rw [takeEnds, endEntry_take]
    rfl
  · simp [takeEnds]
  · have hback : slotWrite (setEntry k.entry { takenEntry k d with st := .ending } s) k.entry f none = takenBack s k d f := by
      simp only [slotWrite, entryOf_setEntry, if_true, setEntry_frame]
      rfl
    rw [← hback]
    exact endEntry_placed _ _ _ _ _

/-- Settles O38. -/
theorem takeIsJudged : Obligations.TakeIsJudged := by
  intro data k r s hfront huse htake hrun
  obtain ⟨d, hd⟩ : ∃ d, data.toList = d := ⟨_, rfl⟩
  obtain ⟨m, hm⟩ : ∃ m, { answered s with relay := { (answered s).relay with take := none } } = m := ⟨_, rfl⟩
  have hexec : exec (.takeReadDone data) s = .next (settleEvent s (judgeTake k d m)) := by
    show Host.Outcome.next (takeReadDone data.toList s) = _
    simp [takeReadDone, hfront, htake, huse, hrun, hd, ← hm]
  have hmtake : m.relay.take = none := by rw [← hm]
  have hmwait : m.relay.waitList = s.relay.waitList := by rw [← hm]; rfl
  have hcfg : m.cfg = s.cfg := by rw [← hm]; rfl
  have hmap : m.gate.map = s.gate.map := by rw [← hm]; rfl
  have hgate : gateDecision m (descAccount d) = gateDecision s (descAccount d) := by rw [← hm]; rfl
  have hmrun : m.cmd.run = .running := by rw [← hm]; exact hrun
  have hout : SameOutput s m := by rw [← hm]; exact ⟨rfl, rfl, rfl, rfl, rfl, rfl⟩
  have hback (u : State) (hu : u.cfg = s.cfg) (f : Final) : takenBack u k d f = takenBack s k d f := by
    simp only [takenBack, hu]
  have hjudge := judgeTake_of_running (k := k) (d := d) hmrun
  rw [hcfg, hgate, hmap] at hjudge
  refine ⟨_, judgeTake k d m, hexec, rfl, ?_⟩
  rw [hd]
  have hkeeps := rowFrames _ s _ hexec
  by_cases hlen : descLength d = 0
  · rw [if_pos hlen] at hjudge
    obtain ⟨h1, h2, h3⟩ := takeEnds_spec k d .rejected m
    rw [hback m hcfg] at h3
    rw [hjudge] at hkeeps ⊢
    exact ⟨h1.trans hmtake, fun _ => h3, fun h => absurd hlen h, fun h => absurd hlen h, by simp [h2, hlen, hout.rep], hkeeps⟩
  rw [if_neg hlen] at hjudge
  by_cases hship : descAccount d = shipAccount
  · rw [if_pos hship] at hjudge
    rw [hjudge] at hkeeps ⊢
    have hwait : (joinWait k.entry (takenEntry k d) m).relay.waitList = s.relay.waitList ++ [k.entry] := by
      rw [← hmwait]
      rfl
    refine ⟨hmtake, fun h => absurd h (by simp [hlen, hship]), fun _ h => absurd hship h, fun _ _ => ⟨hwait, ?_⟩,
      by simp [hship, hout.rep], hkeeps⟩
    rw [joinWait_entry]
    simp only [hship, takenEntry, ne_eq, not_true_eq_false, decide_false, if_true]
    rfl
  rw [if_neg hship] at hjudge
  by_cases hbad : s.cfg.accounts ≤ descAccount d
  · rw [if_pos hbad] at hjudge
    obtain ⟨b, hb⟩ : ∃ b, badAccount 4 255 k.slot (descAccount d) m = b := ⟨_, rfl⟩
    have hbrep : b.rep = (badAccount 4 255 k.slot (descAccount d) s).rep := by
      rw [← hb]
      exact (hout.event _ _ _ _).rep
    obtain ⟨h1, h2, h3⟩ := takeEnds_spec k d .rejected b
    rw [hback b (by rw [← hb]; simpa [badAccount] using hcfg)] at h3
    rw [hb] at hjudge
    rw [hjudge] at hkeeps ⊢
    refine ⟨h1.trans (by rw [← hb]; simpa [badAccount] using hmtake), fun _ => h3, fun _ _ h => absurd hbad (by omega),
      fun _ h => absurd h (by simp [hship]; omega), ?_, hkeeps⟩
    rw [if_pos ⟨hlen, hship, hbad⟩, h2, hbrep]
  rw [if_neg hbad] at hjudge
  by_cases hopen : gateDecision s (descAccount d) = false
  · rw [if_pos hopen] at hjudge
    obtain ⟨h1, h2, h3⟩ := takeEnds_spec k d .gated m
    rw [hback m hcfg] at h3
    rw [hjudge] at hkeeps ⊢
    exact ⟨h1.trans hmtake, fun h => absurd h (by simp [hlen, hbad]), fun _ _ _ _ => h3,
      fun _ h => absurd h (by simp [hship, hopen]), by simp [h2, hbad, hout.rep], hkeeps⟩
  · rw [if_neg hopen] at hjudge
    rw [hjudge] at hkeeps ⊢
    refine ⟨hmtake, fun h => absurd h (by simp [hlen, hbad]), fun _ _ _ h => absurd h hopen, fun _ _ => ⟨?_, ?_⟩,
      by simp [hbad, hout.rep], hkeeps⟩
    · rw [← hmwait]
      rfl
    · rw [joinWait_entry]
      simp [hship, takenEntry]

end Sys2Proof.Machine
end

section
/-! Usage events that wait (R88, R109), and completions of posted entries (R86, R87, R89). -/

namespace Sys2Proof.Machine

/-! ### The waiting event (R88, R109) -/

theorem moveHead_upstream (s : State) : (moveHead s).path.upstream = s.path.upstream := by
  unfold moveHead
  dsimp only
  repeat' split
  all_goals simp [answerHead, flushOwed]

/-- The end of an event at the port, where no transaction waits behind the head. -/
theorem portEvent_of_nil {old s : State} (h : s.path.upstream = []) : portEvent old s = settleEvent old (moveHead s) :=
  pumpUpstream_of_nil (by simp [moveHead_upstream, h])

theorem enqueue_gate (e : UsageEvent) (s : State) :
    (enqueue e s).gate = { s.gate with queue := s.gate.queue ++ [e] } := by
  simp [enqueue]

theorem dealWaiting_gate (w : WaitingEvent) (s : State) :
    (dealWaiting w s).gate = { s.gate with
      waiting := none
      queue := s.gate.queue ++ (if w.producer = .downlink ∧ stillOpen s w.event = false then [] else [w.event]) } := by
  have hopen : stillOpen (noWaiting s) w.event = stillOpen s w.event := rfl
  unfold dealWaiting
  cases hp : w.producer with
  | uplink e => simp [enqueue_gate, noWaiting]
  | downlink =>
    simp only [hopen]
    cases h : stillOpen s w.event <;> simp [enqueue_gate, noWaiting]

/-- Settles O40. -/
theorem waitingEventIsDealtWith : Obligations.WaitingEventIsDealtWith := by
  intro w s hw hroom hrun hup
  have hdue : waitingDue s = true := by
    simp [waitingDue, hw, queueFull, hrun]
    omega
  have hport : portEvent s (dealWaiting w s) = settleEvent s (moveHead (dealWaiting w s)) :=
    portEvent_of_nil (by
      unfold dealWaiting
      dsimp only
      repeat' split
      all_goals simp [hup])
  have hexec : exec .waitingEventRelease s = .next (settleEvent s (moveHead (dealWaiting w s))) := by
    show Host.Outcome.next (releaseWaiting s) = _
    rw [← hport]
    simp [releaseWaiting, hw, hdue]
  have hgate : (settleEvent s (moveHead (dealWaiting w s))).gate = (dealWaiting w s).gate := by simp
  rw [dealWaiting_gate] at hgate
  exact ⟨_, hexec, by rw [hgate], by rw [hgate], by rw [hgate], by rw [hgate],
    by simp [keeps, Part.same]⟩

/-! ### A completed entry leaves its link's count (R87 step 1) -/

theorem filter_insertAt_of_not {α : Type} {p : Nat × α → Bool} {n : Nat} {v : α} (h : p (n, v) = false) (l : Tab α) :
    (insertAt l n v).filter p = l.filter p := by
  induction l with
  | nil => simp [insertAt, h]
  | cons q l ih =>
    obtain ⟨k, w⟩ := q
    simp only [insertAt]
    split
    · rw [List.filter_cons, h]
      simp
    · rw [List.filter_cons, ih, List.filter_cons]

/-- An entry off the count is not posted on any link; the others are as before. -/
theorem postedOn_setEntry_off (e k : Nat) (en : Entry) (s : State) (h : en.offCount = true) :
    postedOn (setEntry e en s) k = (postedOn s k).filter fun p => p.1 ≠ e := by
  have hne : en ≠ default := fun heq => absurd (heq ▸ h) (by decide)
  have hoff : (fun p : Nat × Entry => p.2.st == .posted && p.2.link == some k && !p.2.offCount) (e, en) = false := by simp [h]
  have htable : (setEntry e en s).relay.table = insertAt (s.relay.table.filter fun p => p.1 != e) e en := by
    simp [put, hne]
  rw [postedOn, htable, filter_insertAt_of_not hoff, postedOn, List.filter_filter, List.filter_filter]
  refine List.filter_congr fun p _ => ?_
  rw [Bool.and_comm]
  by_cases hp : p.1 = e <;> simp [hp]

theorem uncount_of_off {e k : Nat} {s : State} (hlink : (entryOf s e).link = some k) (hoff : (entryOf s e).offCount = true) :
    uncount e s = s := by
  simp [uncount, hlink, hoff]

theorem uncount_of_counted {e k : Nat} {s : State} (hlink : (entryOf s e).link = some k)
    (hoff : (entryOf s e).offCount = false) :
    ∃ m, m = setEntry e { entryOf s e with offCount := true } s ∧ uncount e s =
      setLink k { linkOf m k with posted := (linkOf m k).posted - 1, oldest := oldestPost m k } m := by
  refine ⟨_, rfl, ?_⟩
  unfold uncount
  dsimp only
  rw [hlink]
  exact if_neg (by simp [hoff])

/-- What `uncount` makes of the entry: off the count, and nothing else. -/
theorem uncount_entry {e k : Nat} {s : State} (hlink : (entryOf s e).link = some k) :
    entryOf (uncount e s) e = { entryOf s e with offCount := true } := by
  cases hoff : (entryOf s e).offCount with
  | true =>
    rw [uncount_of_off hlink hoff]
    generalize entryOf s e = en at hoff
    cases en
    cases hoff
    rfl
  | false =>
    obtain ⟨m, hm, h⟩ := uncount_of_counted hlink hoff
    have hentry : entryOf m e = { entryOf s e with offCount := true } := by rw [hm, entryOf_setEntry, if_pos rfl]
    rw [h, ← hentry]
    rfl

theorem uncount_lists (e : Nat) (s : State) :
    (uncount e s).relay.waitList = s.relay.waitList ∧ (uncount e s).relay.retryList = s.relay.retryList := by
  unfold uncount
  dsimp only
  repeat' split
  all_goals simp [setEntry]

theorem uncount_leavesCount {e k : Nat} {s : State} (hlink : (entryOf s e).link = some k) :
    leavesCount s (uncount e s) k e := by
  unfold leavesCount
  cases hoff : (entryOf s e).offCount with
  | true =>
    rw [uncount_of_off hlink hoff]
    exact ⟨rfl, rfl⟩
  | false =>
    obtain ⟨m, hm, h⟩ := uncount_of_counted hlink hoff
    have hmlink : linkOf m k = linkOf s k := linkOf_congr (by simp [hm]) k
    have hposted : postedOn m k = (postedOn s k).filter fun p => p.1 ≠ e := by rw [hm, postedOn_setEntry_off _ _ _ _ rfl]
    rw [h, linkOf_setLink, if_pos rfl, hmlink]
    refine ⟨rfl, ?_⟩
    simp only [oldestPost, hposted]
    rfl

/-- The posted counts and the oldest post times are the same. -/
def countsKept (s t : State) : Prop :=
  ∀ j, (linkOf t j).posted = (linkOf s j).posted ∧ (linkOf t j).oldest = (linkOf s j).oldest

theorem countsKept_of_links {s t : State} (h : t.sup.links = s.sup.links) : countsKept s t := by
  intro j
  rw [linkOf_congr h]
  exact ⟨rfl, rfl⟩

theorem countsKept.trans {s t u : State} (h : countsKept s t) (h' : countsKept t u) : countsKept s u :=
  fun j => ⟨(h' j).1.trans (h j).1, (h' j).2.trans (h j).2⟩

theorem leavesCount.mono {s t u : State} {k e : Nat} (h : leavesCount s t k e) (hk : countsKept t u) : leavesCount s u k e :=
  ⟨(hk k).1.trans h.1, (hk k).2.trans h.2⟩

theorem moveHealth_countsKept (k : Nat) (h : Health) (cause : LinkCause) (s : State) : countsKept s (moveHealth k h cause s) := by
  intro j
  rw [linkOf_moveHealth]
  by_cases hj : j = k <;> simp [hj]

theorem evaluateLink_countsKept (k : Nat) (cause : LinkCause) (s : State) : countsKept s (evaluateLink k cause s) := by
  intro j
  by_cases hrun : s.cmd.run = .halted
  · rw [evaluateLink_of_halted _ _ hrun]
    exact ⟨rfl, rfl⟩
  by_cases hj : j = k
  · subst hj
    obtain ⟨since, h⟩ := linkOf_evaluateLink_self j cause hrun
    rw [h]
    exact ⟨rfl, rfl⟩
  · rw [linkOf_evaluateLink_other hj]
    exact ⟨rfl, rfl⟩

theorem linkCompleted_countsKept (k : Nat) (s : State) : countsKept s (linkCompleted k s) := by
  unfold linkCompleted completionTimeoutExpiry
  dsimp only
  split
  · exact (moveHealth_countsKept _ _ _ _).trans (evaluateLink_countsKept _ _ _)
  split
  · exact moveHealth_countsKept _ _ _ _
  · exact countsKept_of_links rfl

/-- The write-back of an entry does not say whether the entry is counted. -/
theorem slotWrite_uncount {e k : Nat} {s : State} (hlink : (entryOf s e).link = some k) (f : Final) (link : Option Nat) :
    slotWrite (uncount e s) e f link = slotWrite s e f link := by
  have hcfg : (uncount e s).cfg = s.cfg := by simp
  unfold slotWrite
  rw [hcfg, uncount_entry hlink]

theorem canEnter_uncount (e : Nat) (s : State) : canEnter (uncount e s) = canEnter s := canEnter_congr (by simp)

/-- Where the own-write queue is full it stays full while own writes only join (R47). -/
theorem canEnter_of_grows {s t : State} (h : canEnter s = false) (hg : grows s.path t.path) : canEnter t = false := by
  obtain ⟨⟨a, ha⟩, b, hb⟩ := hg
  simp only [canEnter, Bool.and_eq_false_iff, decide_eq_false_iff_not, not_lt, List.isEmpty_eq_false_iff, ne_eq] at h ⊢
  rw [ha, hb, List.length_append, List.append_eq_nil_iff]
  rcases h with h | h
  · left
    omega
  · right
    tauto

/-! ### A completion handed over (R45, R86) -/

/-- A completion that its link's initiator writes to a slot of the ring is judged with nothing else (R45). -/
theorem linkOutcome_of_completion {s : State} {x : Txn} {k slot : Nat} (htouch : touches s x (.linkRing k) = true)
    (hinit : isLinkInitiator s k x.initiator = true) (hfull : fullSlot x = true) (hown : descOwn x.data = false)
    (hrun : s.cmd.run = .running) (haddr : x.addr = ((linkOf s k).record.map LinkRec.base).getD 0 + 16 * slot) :
    regionOutcome s x (.linkRing k) = { (default : Outcome) with completion := some (k, slot) } := by
  obtain ⟨q, hq, hshare⟩ := region_of_touches htouch
  have hbeats := fullSlot_beats hfull
  cases hrec : (linkOf s k).record with
  | none =>
    simp only [regionOf, hrec] at hq
    split at hq <;> simp_all
  | some r =>
    have hregion : q = (r.base, 16 * r.size) := by
      simp only [regionOf, hrec] at hq
      split at hq <;> simp_all
    subst hregion
    have hslot : slot < r.size := by
      simp only [shareByte_iff, rangeOf, hrec, Option.map_some, Option.getD_some] at hshare haddr
      omega
    have hslots := slotsIn_slot (by simpa [hrec] using haddr) hbeats hslot
    simp [regionOutcome, hq, hshare, linkOutcome, hrun, hinit, hfull, hown, hslots]

theorem takeTxn_of_completion {s : State} {x : Txn} {k slot : Nat} (hw : x.write = true) (hk : k < 4)
    (htouch : touchesOnly s x (.linkRing k))
    (hinit : isLinkInitiator s k x.initiator = true) (hfull : fullSlot x = true) (hown : descOwn x.data = false)
    (hrun : s.cmd.run = .running) (haddr : x.addr = ((linkOf s k).record.map LinkRec.base).getD 0 + 16 * slot) :
    takeTxn x s = applyVerdict (.uplink (descAccount x.data)) (judgeCompletion k slot x.data (setHead (headOf x []) s)) := by
  rw [takeTxn, if_pos hw, takeWrite_of_touchesOnly htouch (mem_allRegions_linkRing hk),
    linkOutcome_of_completion htouch.1 hinit hfull hown hrun haddr]
  rfl

theorem judgeCompletion_of_matched {s : State} {d : List Byte} {k slot : Nat} (hhealth : (linkOf s k).health ≠ .disabled)
    (hgen : descGen d = (linkOf s k).gen.toNat) (hmatched : matched s k slot (descAccount d) = true) :
    judgeCompletion k slot d s =
      if descByte13 d = 1 then completeOk (descAccount d) k s else (completeFail (descAccount d) k s, .pass) := by
  simp [judgeCompletion, hhealth, hgen, hmatched]

theorem link_of_matched {s : State} {k slot e : Nat} (h : matched s k slot e = true) : (entryOf s e).link = some k := by
  simp only [matched, Bool.and_eq_true, beq_iff_eq] at h
  exact h.1.2

theorem linkCompleted_lists (k : Nat) (s : State) :
    (linkCompleted k s).relay.table = s.relay.table ∧ (linkCompleted k s).relay.waitList = s.relay.waitList ∧
      (linkCompleted k s).relay.retryList = s.relay.retryList := by simp

/-- A completion with a status other than OK, of an entry posted on link `k` (R89). -/
theorem completeFail_spec {e k : Nat} {s : State} (hlink : (entryOf s e).link = some k) (hrun : s.cmd.run = .running) :
    leavesCount s (completeFail e k s) k e ∧
      ((entryOf s e).attempts < 4 → (entryOf (completeFail e k s) e).st = .retry ∧
        (completeFail e k s).relay.retryList = s.relay.retryList ++ [e] ∧
        (completeFail e k s).relay.waitList = s.relay.waitList) ∧
      (4 ≤ (entryOf s e).attempts → placed (completeFail e k s) (slotWrite s e .failed (some k)) ∧
        (entryOf (completeFail e k s) e).st = if canEnter s then .free else .ending) := by
  obtain ⟨c, hc⟩ : ∃ c, uncount e s = c := ⟨_, rfl⟩
  have hcrun : c.cmd.run = .running := by simpa [← hc] using hrun
  have hcentry : entryOf c e = { entryOf s e with offCount := true } := hc ▸ uncount_entry hlink
  obtain ⟨hcwait, hcretry⟩ := uncount_lists e s
  rw [hc] at hcwait hcretry
  have heq : completeFail e k s = linkCompleted k (failEntry e c) := by
    unfold completeFail
    rw [hc]
    exact congrArg (linkCompleted k) (if_pos hcrun)
  obtain ⟨htable, hwait, hretry⟩ := linkCompleted_lists k (failEntry e c)
  have hst : entryOf (completeFail e k s) e = entryOf (failEntry e c) e := entryOf_congr (by rw [heq, htable]) e
  have hattempts : (entryOf c e).attempts = (entryOf s e).attempts := by rw [hcentry]
  refine ⟨?_, fun hlt => ?_, fun hge => ?_⟩
  · rw [heq]
    exact ((hc ▸ uncount_leavesCount hlink).mono (countsKept_of_links (by simp))).mono (linkCompleted_countsKept _ _)
  · rw [hst, heq, hwait, hretry, failEntry_of_lt (hattempts ▸ hlt), toRetry_entry, if_pos rfl]
    obtain ⟨h1, h2⟩ := toRetry_lists e c
    exact ⟨rfl, by rw [h2, hcretry], by rw [h1, hcwait]⟩
  · have hclink : (entryOf c e).link = some k := by rw [hcentry]; exact hlink
    have hback : slotWrite c e .failed (some k) = slotWrite s e .failed (some k) := hc ▸ slotWrite_uncount hlink _ _
    have hfail : failEntry e c = endEntry false e .failed (some k) c := by
      rw [failEntry_of_ge (hattempts ▸ hge), hclink]
    rw [hst, heq, hfail, endEntry_entry, if_pos rfl, ← hback]
    refine ⟨(endEntry_placed _ _ _ _ _).mono (linkCompleted_grows _ (grows.refl _)), ?_⟩
    rw [show canEnter c = canEnter s from hc ▸ canEnter_uncount e s]
    split <;> rfl

/-- An entry that ends SENT (R87 steps 1 and 2). -/
theorem entrySent_spec {e k : Nat} {s : State} (hlink : (entryOf s e).link = some k) :
    leavesCount s (entrySent e k s) k e ∧ placed (entrySent e k s) (slotWrite s e .sent (some k)) ∧
      (entryOf (entrySent e k s) e).st = (if canEnter s then .free else .ending) ∧ ¬ listed (entrySent e k s) e ∧
      ∀ d, listed (entrySent e k s) d → listed s d := by
  obtain ⟨c, hc⟩ : ∃ c, uncount e s = c := ⟨_, rfl⟩
  obtain ⟨hcwait, hcretry⟩ := uncount_lists e s
  have hback : slotWrite c e .sent (some k) = slotWrite s e .sent (some k) := hc ▸ slotWrite_uncount hlink _ _
  have heq : entrySent e k s = linkCompleted k (endEntry false e .sent (some k) c) := by
    rw [← hc]
    rfl
  obtain ⟨htable, hwait, hretry⟩ := linkCompleted_lists k (endEntry false e .sent (some k) c)
  obtain ⟨hewait, heretry⟩ := endEntry_lists false e .sent (some k) c
  have hlisted (d) : listed (entrySent e k s) d ↔ listed s d ∧ d ≠ e := by
    rw [hc] at hcwait hcretry
    rw [listed, heq, hwait, hretry, hewait, heretry, hcwait, hcretry, listed]
    simp only [List.mem_filter, bne_iff_ne]
    tauto
  refine ⟨?_, ?_, ?_, fun h => ((hlisted e).mp h).2 rfl, fun d h => ((hlisted d).mp h).1⟩
  · rw [heq]
    exact ((hc ▸ uncount_leavesCount hlink).mono (countsKept_of_links (by simp))).mono (linkCompleted_countsKept _ _)
  · rw [heq, ← hback]
    exact (endEntry_placed _ _ _ _ _).mono (linkCompleted_grows _ (grows.refl _))
  · rw [entryOf_congr (s := endEntry false e .sent (some k) c) (by rw [heq, htable]), endEntry_entry, if_pos rfl,
      show canEnter c = canEnter s from hc ▸ canEnter_uncount e s]
    split <;> rfl

/-- The usage events that a completion of entry `e` on link `k` forms (R87 step 3). -/
def sentEvents (s : State) (e k : Nat) : List UsageEvent :=
  if (entryOf s e).metered then
    [{ dir := .uplink, account := (entryOf s e).account, incarnation := (entryOf s e).incarnation
       bytes := (entryOf s e).length, cls := classOfLink s k, region := orNone (currentRegion s), tag := s.clock }] else []

theorem enqueue_of_requested {s : State} (h : s.rate.requested.isSome = true) (e : UsageEvent) :
    (enqueue e s).path = s.path := by
  cases hr : s.rate.requested with
  | none => simp [hr] at h
  | some a => simp [enqueue, tryRate, hr]

/-- A completion with status OK where the usage queue has room: its event is formed, and the entry ends SENT (R87). -/
theorem completeOk_of_room {s : State} (e k : Nat) (hroom : s.gate.queue.length < 128) :
    ∃ q, completeOk e k s = (entrySent e k q, .pass) ∧ q.relay = s.relay ∧ q.sup = s.sup ∧
      keeps [.clock, .settings, .position, .settlement] s q ∧
      grows s.path q.path ∧ q.gate.queue = s.gate.queue ++ sentEvents s e k ∧
      ((entryOf s e).metered = false ∨ s.rate.requested.isSome = true → q.path = s.path) := by
  unfold completeOk sentEvents
  dsimp only
  cases hm : (entryOf s e).metered with
  | false => exact ⟨s, by simp, rfl, rfl, keeps.refl _ s, grows.refl _, by simp, fun _ => rfl⟩
  | true =>
    have hnot : queueFull s = false := by simpa [queueFull] using hroom
    rw [hnot]
    refine ⟨_, rfl, by simp, by simp, by simp [Part.same], enqueue_grows _ (grows.refl _), by rw [enqueue_gate]; rfl, fun h => ?_⟩
    rcases h with h | h
    · cases h
    · exact enqueue_of_requested h _

/-- Both lists are empty and the links are as in `s₀`. -/
def idleLists (s₀ s : State) : Prop := s.sup = s₀.sup ∧ ∀ e, ¬ listed s e

theorem passKeeps_idleLists (s₀ : State) : PassKeeps (idleLists s₀) where
  ends e _ _ _ hs he := absurd he (hs.2 e)
  posts e _ _ hs he _ := absurd he (hs.2 e)
  rounds _ _ hs := hs
  installs _ _ hs _ := hs

theorem leavesCount_congr {s s' t : State} {k e : Nat} (hrelay : s'.relay = s.relay) (hsup : s'.sup = s.sup)
    (h : leavesCount s' t k e) : leavesCount s t k e := by
  have hentry : entryOf s' e = entryOf s e := entryOf_congr (by rw [hrelay]) e
  have hlink : linkOf s' k = linkOf s k := linkOf_congr (by rw [hsup]) k
  have hbut : oldestBut s' k e = oldestBut s k e := by
    unfold oldestBut postedOn
    rw [hrelay]
  unfold leavesCount at h ⊢
  rw [hentry, hlink, hbut] at h
  exact h

/-- Settles O26. -/
theorem completionEndsEntrySent : Obligations.CompletionEndsEntrySent := by
  refine ⟨fun k slot e x s hx hw hfree hk htouch hinit hfull hown hrun hhealth haddr hgen htag hmatched hfail => ?_,
    fun k slot e x s hx hw hfree hk htouch hinit hfull hown hrun hhealth haddr hgen htag hmatched hok hroom => ?_⟩
  all_goals
    have hexec : exec (.linkRingWrite x) s = .next (dealWith x s) := exec_of_portFree rfl rfl hx hfree
    have htake := takeTxn_of_completion hw hk htouch hinit hfull hown hrun haddr
    subst htag
    obtain ⟨m, hm⟩ : ∃ m, setHead (headOf x []) s = m := ⟨_, rfl⟩
    have hjudge := judgeCompletion_of_matched (s := m) (by rw [← hm]; exact hhealth) (by rw [← hm]; exact hgen)
      (by rw [← hm]; exact hmatched)
    have hmlink : (entryOf m (descAccount x.data)).link = some k := by rw [← hm]; exact link_of_matched hmatched
    rw [hm, hjudge] at htake
  · rw [if_neg hfail] at htake
    obtain ⟨hleaves, hretry, hfailed⟩ := completeFail_spec hmlink (by rw [← hm]; exact hrun)
    obtain ⟨f, hf⟩ : ∃ f, completeFail (descAccount x.data) k m = f := ⟨_, rfl⟩
    have htake' : takeTxn x s = f := htake.trans hf
    rw [hf] at hleaves hretry hfailed
    have hentry : entryOf (moveHead f) (descAccount x.data) = entryOf f (descAccount x.data) := entryOf_congr (by simp) _
    refine ⟨_, moveHead f, hexec, by rw [← htake']; rfl, ?_, ?_, fun hlt => ?_, fun hge => ?_, ?_⟩
    · simp [← hf, ← hm]
    · rw [← hm] at hleaves
      exact leavesCount.mono hleaves (countsKept_of_links (by simp))
    · obtain ⟨h1, h2, h3⟩ := hretry (by rw [← hm]; exact hlt)
      rw [hentry]
      refine ⟨h1, ?_, ?_⟩
      · rw [← hm] at h2
        simpa using h2
      · rw [← hm] at h3
        simpa using h3
    · obtain ⟨h1, h2⟩ := hfailed (by rw [← hm]; exact hge)
      rw [hentry]
      rw [← hm] at h1 h2
      exact ⟨h1.mono (moveHead_grows (grows.refl _)), h2⟩
    · have hdeal : dealWith x s = settleEvent s (moveHead f) := by rw [← htake']; rfl
      rw [hdeal]
      simp [Part.same, ← hf, ← hm]
  · rw [if_pos hok] at htake
    obtain ⟨q, hq, hqrelay, hqsup, hqkeeps, hqgrows, hqqueue, hqpath⟩ :=
      completeOk_of_room (s := m) (descAccount x.data) k (by rw [← hm]; exact hroom)
    obtain ⟨w, hw'⟩ : ∃ w, entrySent (descAccount x.data) k q = w := ⟨_, rfl⟩
    have htake' : takeTxn x s = w := by rw [htake, hq, hw']; rfl
    have hqentry (d) : entryOf q d = entryOf s d := entryOf_congr (by rw [hqrelay, ← hm]; rfl) d
    obtain ⟨hleaves, hplaced, hst, hoff, hlists⟩ := entrySent_spec (e := descAccount x.data) (k := k) (s := q)
      (by rw [hqentry]; exact link_of_matched hmatched)
    rw [hw'] at hleaves hplaced hst hoff hlists
    rw [slotWrite_congr (s := s) (hqentry _) (by rw [hqkeeps.2 .settings (by simp), ← hm]; rfl)] at hplaced
    obtain ⟨u, hu⟩ : ∃ u, moveHead w = u := ⟨_, rfl⟩
    have husup : u.sup = w.sup := by simp [← hu]
    have hurelay : u.relay = w.relay := by simp [← hu]
    have hdeal : dealWith x s = settleEvent s u := by rw [← hu, ← htake']; rfl
    have huentry : entryOf u (descAccount x.data) = entryOf w (descAccount x.data) := entryOf_congr (by rw [hurelay]) _
    have hulisted (d) : listed u d ↔ listed w d := by simp only [listed, hurelay]
    obtain ⟨p, ⟨hpentry, -⟩, -, hptable, -⟩ := settleEvent_passKeeps
      (passKeeps_settledEntry (descAccount x.data) (entryOf u (descAccount x.data))) s (s := u)
      ⟨rfl, fun h => hoff ((hulisted _).mp h)⟩
    have hentry : (entryOf (settleEvent s u) (descAccount x.data)).st = if canEnter q then .free else .ending := by
      rw [entryOf_congr hptable, hpentry, huentry, hst]
    have hgrows : grows s.path q.path := by
      rw [← hm] at hqgrows
      exact hqgrows
    rw [hdeal] at hexec
    refine ⟨_, hexec, ?_, ?_, fun hfull => ?_, fun hroomy hidle => ?_, fun hwait hretry => ?_, ?_, ?_⟩
    · exact hplaced.mono (settleEvent_grows _ (hu ▸ moveHead_grows (grows.refl _)))
    · rw [hentry]
      split
      · exact .inl rfl
      · exact .inr rfl
    · rw [hentry, canEnter_of_grows hfull hgrows]
      rfl
    · have hpath : q.path = m.path := hqpath (by rw [← hm]; exact hidle)
      have hsame : canEnter q = canEnter s := by rw [canEnter_congr hpath, ← hm]; rfl
      rw [hentry, hsame, hroomy]
      rfl
    · have hnone (d) : ¬ listed u d := fun h => by
        have hs := hlists d ((hulisted d).mp h)
        rw [listed, hqrelay, ← hm] at hs
        simp [setHead, hwait, hretry] at hs
      obtain ⟨p', ⟨hpsup, -⟩, hsup, -⟩ := settleEvent_passKeeps (passKeeps_idleLists u) s (s := u) ⟨rfl, hnone⟩
      refine leavesCount_congr (s' := q) (by rw [hqrelay, ← hm]; rfl) (by rw [hqsup, ← hm]; rfl) ?_
      exact hleaves.mono (countsKept_of_links (by rw [hsup, hpsup, husup]))
    · have hgate : (settleEvent s u).gate = q.gate := by simp [← hu, ← hw']
      rw [hgate, hqqueue, ← hm]
      rfl
    · have hrest : keeps [.clock, .settings, .position, .settlement] q (settleEvent s u) := by
        simp [Part.same, ← hu, ← hw']
      have hfirst : keeps [.clock, .settings, .position, .settlement] s m := by simp [Part.same, ← hm]
      exact (hfirst.trans hqkeeps).trans hrest

end Sys2Proof.Machine
end

section
/-! Account commands that are granted an idle line (chapter 08): OPEN_ACCOUNT, GRANT, SUSPEND and RESUME (R135 to R142). -/

namespace Sys2Proof.Machine

/-! ### A changed record (R155) -/

/-- What a change of its record to `r`, at the time `now`, makes of a line. -/
def changedLine (l : Line) (r : AcctRec) (now : Time) : Line :=
  if l.contents = r then l
  else match l.st with
    | .clean => { l with contents := r, st := .dirty, dirtySince := now }
    | .writing => { l with contents := r, redirty := true, dirtySince := if l.redirty then l.dirtySince else now }
    | _ => { l with contents := r }

theorem lineOf_changeLine (i : Nat) (r : AcctRec) (s : State) (j : Nat) :
    lineOf (changeLine i r s) j = if j = i then changedLine (lineOf s i) r s.clock else lineOf s j := by
  unfold changeLine changedLine
  dsimp only
  split
  · split
    · rename_i h
      rw [h]
    · rfl
  · cases (lineOf s i).st <;> simp only [lineOf_setLine]

theorem changedLine_spec (l : Line) (r : AcctRec) (now : Time) :
    (changedLine l r now).contents = r ∧ (changedLine l r now).waiting = l.waiting ∧
      (changedLine l r now).account = l.account ∧ (changedLine l r now).flushMark = l.flushMark := by
  unfold changedLine
  split
  · rename_i h
    exact ⟨h, rfl, rfl, rfl⟩
  · split <;> exact ⟨rfl, rfl, rfl, rfl⟩

/-- A held line whose record changes is DIRTY, or is being written back (R155). -/
theorem changedLine_st {l : Line} {r : AcctRec} (now : Time) (hold : holdsRecord l = true) (h : l.contents ≠ r ∨ l.st ≠ .clean) :
    (changedLine l r now).st = .dirty ∨ (changedLine l r now).st = .writing := by
  unfold changedLine
  simp only [holdsRecord, Bool.or_eq_true, beq_iff_eq] at hold
  split
  · rename_i hsame
    have hst := h.resolve_left (fun hne => hne hsame)
    tauto
  · cases hst : l.st <;> simp_all

theorem changedLine_holds {l : Line} {r : AcctRec} (now : Time) (hold : holdsRecord l = true) :
    holdsRecord (changedLine l r now) = true := by
  unfold changedLine
  split
  · exact hold
  · split
    · rfl
    · rename_i h
      simp [holdsRecord, h]
    · exact hold

/-- A line that no replacement takes keeps its record: it is DIRTY or is being written back (R157, R160). -/
theorem lineStable_record (i : Nat) (c : AcctRec) :
    LineStable fun j l => j = i → (l.st = .dirty ∨ l.st = .writing) ∧ l.contents = c where
  waits _ _ _ h := h
  writes _ _ _ h hj := ⟨.inr rfl, (h hj).2⟩
  evicts _ _ h := h
  fills _ _ _ _ hst h hj := by
    rcases hst with hst | hst <;> simp [hst] at h <;> exact absurd hj h

theorem touchLine_lineOf (i : Nat) (s : State) (j : Nat) : lineOf (touchLine i s) j = lineOf s j := rfl

/-! ### A command that completes on a line -/

theorem judgeFinisher_of_none {s : State} (h : firstReady s = none) : judgeFinisher s = s := by
  simp [judgeFinisher, h]

theorem judgeFinisher_of_busy {s : State} (h : s.acct.finisher ≠ .idle) : judgeFinisher s = s := by
  simp [judgeFinisher, h]

theorem firstReady_congr {s t : State} (hplaces : t.acct.places = s.acct.places) (hqueue : t.gate.queue = s.gate.queue)
    (hwaiting : t.gate.waiting = s.gate.waiting) (htable : t.relay.table = s.relay.table) : firstReady t = firstReady s := by
  have hready (p) : placeReady t p = placeReady s p := by
    simp only [placeReady, hasEvent, countedEntries, hqueue, hwaiting, htable]
  unfold firstReady
  rw [hplaces, funext hready]

/-- An account command that completes with `v`: what its event leaves of the gate map and the lines. -/
theorem exec_accountRow {q : Request} {notify : Bool} {addr index size : Nat} {s b v : State} {st : Status}
    {vals : List (Nat × Nat)} (hf : fetchReturns s addr index size) (hb : commandBegun q notify addr index size s = b)
    (hhand : handCommand q b = complete st vals [] v) (hcmd : v.cmd = b.cmd) (hclock : v.clock = b.clock)
    (hsup : v.sup = b.sup) (hrelay : v.relay = b.relay) :
    ∃ t, exec (ringRow notify q) s = .next t ∧ t.gate = v.gate ∧
      (∀ P, LineStable P → (∀ j, P j (lineOf v j)) → ∀ j, P j (lineOf t j)) ∧
      (firstReady v = none → ∀ j, lineOf t j = lineOf v j) ∧
      completed t addr (completion st vals s.clock) ∧ keeps (keptBy (ringRow notify q)) s t := by
  have hbjob : v.cmd.job = some (begunJob q notify addr index size) := by rw [hcmd, ← hb]; rfl
  have hbclock : v.clock = s.clock := by rw [hclock, ← hb]; rfl
  obtain ⟨hexec, hdone, hkeeps⟩ := exec_ringRow_completes hf (hb ▸ hhand) hbjob hbclock
  obtain ⟨u, hu⟩ : ∃ u, complete st vals [] v = u := ⟨_, rfl⟩
  have hline (j) : lineOf u j = lineOf v j := by simp [lineOf, ← hu]
  have husup : u.sup = s.sup := by rw [← hu, show (complete st vals [] v).sup = v.sup by simp, hsup, ← hb]; rfl
  have hurelay : u.relay = s.relay := by rw [← hu, show (complete st vals [] v).relay = v.relay by simp, hrelay, ← hb]; rfl
  have hquiet : passStarts s u = false := passStarts_eq_false husup (by rw [hurelay]) (by rw [hurelay]) (by rw [hurelay])
  rw [hu] at hexec hdone hkeeps
  refine ⟨_, hexec, by simp [← hu], fun P hP h => hP.settleEvent hquiet fun j => by rw [hline]; exact h j, fun h j => ?_,
    hdone, hkeeps⟩
  have hnone : firstReady (tryTake u) = none := by
    rw [firstReady_congr (s := v) (by simp [← hu]) (by simp [← hu]) (by simp [← hu]) (by
      rw [(tryTake_lists u).1, ← hu]
      simp)]
    exact h
  rw [settleEvent_of_not_passStarts hquiet, judgeFinisher_of_none hnone, ← hline]
  simp [lineOf]

/-- The state in which an account command that found its line idle does its work (R134, R153). -/
def workState (i : Nat) (s : State) : State :=
  setAcct { s.acct with wait := none } (touchLine i s)

theorem workState_lineOf (i : Nat) (s : State) (j : Nat) : lineOf (workState i s) j = lineOf s j := rfl

/-- What an account command does within its grant of line `i` (R134). -/
def accountWork (q : Request) (i : Nat) (s : State) : State :=
  match q with
  | .openAccount p => openWork p i s
  | .grant p => grantWork p i s
  | .suspend a => suspendWork a.toNat i s
  | .resume a => resumeWork a.toNat i s
  | .closeAccount a => closeWork a.toNat i s
  | _ => s

theorem requestCommandLine_of_idle {s : State} {a i : Nat} {q : Request} (hline : findLine s a = some i)
    (hidle : grantableNow (lineOf s i) = true) (hjob : s.cmd.job.bind Job.request = some q) :
    requestCommandLine a s = accountWork q i (workState i s) := by
  have hfind : findLine (setAcct { s.acct with wait := some (.line a) } s) a = some i := hline
  have hgrant : grantableNow (lineOf (setAcct { s.acct with wait := some (.line a) } s) i) = true := hidle
  have hq : (setAcct { s.acct with wait := none } (touchLine i s)).cmd.job.bind Job.request = some q := hjob
  unfold requestCommandLine
  simp only [hfind, hgrant, if_true]
  unfold commandWork
  have hstate : setAcct { (touchLine i (setAcct { s.acct with wait := some (.line a) } s)).acct with wait := none }
      (touchLine i (setAcct { s.acct with wait := some (.line a) } s)) = workState i s := rfl
  rw [hstate]
  have hq' : (workState i s).cmd.job.bind Job.request = some q := hjob
  simp only [hq']
  cases q <;> rfl

theorem accountCommand_of_allowed {s : State} {a : Nat} (hrun : s.cmd.run = .running) (ha : a < s.cfg.accounts)
    (go : State → State) : accountCommand a go s = go s := by
  simp [accountCommand, running, hrun, ha]

theorem recordOpens_eq (r : AcctRec) : recordOpens r = decide (r.st = acctOpen ∧ r.credit ≠ creditExhausted) := by
  rw [Bool.eq_iff_iff]
  simp [recordOpens]

/-- The gate map after one entry is written. -/
theorem look_setGate (a : Nat) (g : GateEntry) (s : State) (b : Nat) :
    look (setGate a g s).gate.map b = if b = a then g else look s.gate.map b := by
  simp [setGate]

/-- What an account command finds once its row has begun: the parts its work reads are those of the state before it. -/
structure WorkOf (q : Request) (i : Nat) (s b w : State) : Prop where
  begun : ∃ notify addr index size, commandBegun q notify addr index size s = b
  work : w = workState i b

theorem WorkOf.same {q : Request} {i : Nat} {s b w : State} (h : WorkOf q i s b w) :
    w.cov = s.cov ∧ w.settle = s.settle ∧ w.cfg = s.cfg ∧ w.clock = s.clock ∧ w.gate = s.gate ∧
      ∀ j, lineOf w j = lineOf s j := by
  obtain ⟨⟨notify, addr, index, size, rfl⟩, rfl⟩ := h
  exact ⟨rfl, rfl, rfl, rfl, rfl, fun j => rfl⟩

/-- An account command in RUNNING, of an account whose line is idle, does its work at once (R134, R153). -/
theorem WorkOf.hand {q : Request} {i a : Nat} {s b w : State} (h : WorkOf q i s b w) (hrun : s.cmd.run = .running)
    (ha : a < s.cfg.accounts) (hline : findLine s a = some i) (hidle : grantableNow (lineOf s i) = true) :
    accountCommand a (requestCommandLine a) b = accountWork q i w := by
  obtain ⟨⟨notify, addr, index, size, hb⟩, hw⟩ := h
  have hbs : b.cmd.run = s.cmd.run ∧ b.cfg = s.cfg ∧ findLine b a = findLine s a ∧ lineOf b i = lineOf s i ∧
      b.cmd.job.bind Job.request = some q := by
    rw [← hb]
    exact ⟨rfl, rfl, rfl, rfl, rfl⟩
  obtain ⟨hbrun, hbcfg, hbfind, hbline, hbjob⟩ := hbs
  rw [accountCommand_of_allowed (hbrun.trans hrun) (by rwa [hbcfg]),
    requestCommandLine_of_idle (hbfind.trans hline) (by rwa [hbline]) hbjob, hw]

/-- A command that writes the record of its idle line and its gate entry (R142). -/
theorem exec_accountWrites {q : Request} {notify : Bool} {addr index size i a : Nat} {s b w : State} {st : Status}
    {vals : List (Nat × Nat)} {r : AcctRec} {g : GateEntry} (hf : fetchReturns s addr index size)
    (hb : commandBegun q notify addr index size s = b) (hw : w = workState i b)
    (hhand : handCommand q b = complete st vals [] (setGate a g (changeLine i r w)))
    (hidle : grantableNow (lineOf s i) = true) (hchange : (lineOf s i).contents ≠ r) :
    ∃ t, exec (ringRow notify q) s = .next t ∧ (lineOf t i).contents = r ∧
      (∀ b, look t.gate.map b = if b = a then g else look s.gate.map b) ∧
      completed t addr (completion st vals s.clock) ∧ keeps (keptBy (ringRow notify q)) s t := by
  have hwline (j) : lineOf w j = lineOf s j := by rw [hw, workState_lineOf, ← hb]; rfl
  have hframe : w.cmd = b.cmd ∧ w.clock = b.clock ∧ w.sup = b.sup ∧ w.relay = b.relay ∧ w.gate = b.gate := by
    rw [hw]
    exact ⟨rfl, rfl, rfl, rfl, rfl⟩
  obtain ⟨h1, h2, h3, h4, h5⟩ := hframe
  obtain ⟨t, hexec, hgate, hstable, -, hdone, hkeeps⟩ := exec_accountRow hf hb hhand (by simp [setGate, h1]) (by simp [setGate, h2])
    (by simp [setGate, h3]) (by simp [setGate, h4])
  have hhold : holdsRecord (lineOf s i) = true := by
    simp only [grantableNow, Bool.and_eq_true] at hidle
    exact hidle.1
  have hrecord := hstable _ (lineStable_record i r) (fun j hj => by
    have hline : lineOf (setGate a g (changeLine i r w)) j = lineOf (changeLine i r w) j := rfl
    rw [hline, lineOf_changeLine, if_pos hj, hwline]
    exact ⟨changedLine_st _ hhold (.inl hchange), (changedLine_spec _ _ _).1⟩) i rfl
  refine ⟨t, hexec, hrecord.2, fun c => ?_, hdone, hkeeps⟩
  have hmap : (changeLine i r w).gate.map = s.gate.map := by
    simp only [changeLine_frame, h5, ← hb]
    rfl
  rw [hgate, look_setGate, hmap]

theorem openedRecord_eq (p : OpenAccountParams) (c : AcctRec) (s : State) :
    openedRecord p c s = { st := acctOpen, cls := p.cls.toNat
                           credit := creditOf p.cls.toNat (openedRecord p c s).grant 0 (openedRecord p c s).low
                           incarnation := (c.incarnation + 1) % 256
                           partner := if p.cls.toNat = clsRoamer then p.partner.toNat else 255
                           marks := 0, gen := 0, subscriber := p.subscriber.toNat, grant := (openedRecord p c s).grant
                           used := 0, low := if p.cls.toNat = clsCrew then 0 else p.threshold.toNat
                           bytesUp := 0, bytesDown := 0, total := 0, carryUp := 0, carryDown := 0, residue := 0, cause := 0
                           openTime := s.clock.toNat, lastRegion := 255, lastClass := 255 } := rfl

/-- Settles O44. -/
theorem openAccountOpensRecord : Obligations.OpenAccountOpensRecord := by
  intro n p i s addr index size hf hrun ha hlo hhi hline hidle hfree hserving hroamer
  obtain ⟨b, hb⟩ : ∃ b, commandBegun (.openAccount p) n addr index size s = b := ⟨_, rfl⟩
  obtain ⟨w, hw⟩ : ∃ w, w = workState i b := ⟨_, rfl⟩
  obtain ⟨r, hr⟩ : ∃ r, openedRecord p (lineOf s i).contents w = r := ⟨_, rfl⟩
  have hbegun : WorkOf (.openAccount p) i s b w := ⟨⟨n, addr, index, size, hb⟩, hw⟩
  obtain ⟨hwcov, hwsettle, hwcfg, hwclock, hwgate, hlines⟩ := hbegun.same
  have hwork : openWork p i w = complete .ok [(1, r.incarnation), (1, r.credit), (2, r.gen), (1, r.st), (8, r.grant)] []
      (setGate p.account.toNat (gateOfRecord r) (changeLine i r w)) := by
    have hno (c : p.cls.toNat = clsRoamer) := hroamer c
    unfold openWork
    simp only [hlines, hfree, hwsettle, hr]
    rw [if_neg (by simp), if_neg (by simp [admission, hwcov, hserving]), if_neg fun h => by simp [(hno h.1).2.2] at h,
      if_neg fun h => by simp [(hno h.1).2.1] at h]
  have hhand : handCommand (.openAccount p) b =
      complete .ok [(1, r.incarnation), (1, r.credit), (2, r.gen), (1, r.st), (8, r.grant)] []
        (setGate p.account.toNat (gateOfRecord r) (changeLine i r w)) := by
    have hok : ¬(knownClass p.cls.toNat = false ∨ (p.cls.toNat = clsRoamer ∧ 63 < p.partner.toNat)) := by
      have hknown : knownClass p.cls.toNat = true := by
        have : p.cls.toNat = 1 ∨ p.cls.toNat = 2 ∨ p.cls.toNat = 3 := by omega
        rcases this with h | h | h <;> rw [h] <;> rfl
      rintro (h | ⟨h, h'⟩)
      · simp [hknown] at h
      · have := (hroamer h).1
        omega
    have hgo : doOpenAccount p b = accountCommand p.account.toNat (requestCommandLine p.account.toNat) b := by
      unfold doOpenAccount accountCommand
      dsimp only
      rw [if_neg hok]
    rw [← hwork]
    exact hgo.trans (hbegun.hand hrun ha hline hidle)
  have hst : r.st = acctOpen := by rw [← hr]; rfl
  obtain ⟨t, hexec, hcontents, hgate, hdone, hkeeps⟩ := exec_accountWrites hf hb hw hhand hidle (fun h => by
    rw [h, hst] at hfree
    exact absurd hfree (by decide))
  refine ⟨t, r, hexec, hcontents, ?_, fun c => ?_, ?_, hkeeps⟩
  · have hgrant : r.grant = if p.cls.toNat = clsCrew then 0
        else min max48 (min (ceilingOf s p.cls.toNat p.partner.toNat) p.grant.toNat) := by
      rw [← hr]
      simp only [openedRecord, clampGrant, ceilingOf, hwcfg, hwsettle]
      have hcls : p.cls.toNat = clsRoamer ∨ p.cls.toNat = clsPack ∨ p.cls.toNat = clsCrew := by
        simp only [clsRoamer, clsPack, clsCrew]
        omega
      rcases hcls with h | h | h <;> simp [h, clsRoamer, clsPack, clsCrew]
    have hrecord := openedRecord_eq p (lineOf s i).contents w
    rw [hr, hwclock] at hrecord
    refine hrecord.trans ?_
    rw [hgrant]
  · have hentry : gateOfRecord r = {
        opened := decide (r.credit ≠ creditExhausted)
        partner := if p.cls.toNat = clsRoamer then some p.partner.toNat else none
        incarnation := r.incarnation } := by
      have hcls : r.cls = p.cls.toNat := by rw [← hr]; rfl
      have hpartner : r.partner = if p.cls.toNat = clsRoamer then p.partner.toNat else 255 := by rw [← hr]; rfl
      unfold gateOfRecord
      rw [hcls, hpartner]
      congr 1
      · simp [recordOpens_eq, hst]
      · split <;> rfl
    rw [hgate, hentry]
  · have hgen : r.gen = 0 := by rw [← hr]; rfl
    rw [hgen, hst] at hdone
    exact hdone

/-- Settles O45. -/
theorem grantInstallsCredit : Obligations.GrantInstallsCredit := by
  intro n p i s addr index size hf hrun ha hline hidle hst hcrew hgen
  obtain ⟨b, hb⟩ : ∃ b, commandBegun (.grant p) n addr index size s = b := ⟨_, rfl⟩
  obtain ⟨w, hw⟩ : ∃ w, w = workState i b := ⟨_, rfl⟩
  have hwork : WorkOf (.grant p) i s b w := ⟨⟨n, addr, index, size, hb⟩, hw⟩
  obtain ⟨-, hsettle, hcfg, -, hgate, hlines⟩ := hwork.same
  obtain ⟨r, hr⟩ : ∃ r, grantedRecord p (lineOf s i).contents w = r := ⟨_, rfl⟩
  have hhand : handCommand (.grant p) b = complete .ok
      [(2, r.gen), (1, r.credit), (1, r.st), (8, r.grant), (8, r.used), (8, (lineOf s i).contents.used)] []
      (setGate p.account.toNat { look w.gate.map p.account.toNat with opened := recordOpens r } (changeLine i r w)) := by
    show accountCommand p.account.toNat (requestCommandLine p.account.toNat) b = _
    rw [hwork.hand hrun ha hline hidle]
    have hopen : ¬((lineOf s i).contents.st ≠ acctOpen ∧ (lineOf s i).contents.st ≠ acctSuspended) := by tauto
    show grantWork p i w = _
    unfold grantWork
    simp only [hlines, hr]
    rw [if_neg hopen, if_neg hcrew, if_neg (by simp [hgen])]
    simp [writeGate]
  have hrgen : r.gen = ((lineOf s i).contents.gen + 1) % 65536 := by rw [← hr]; rfl
  obtain ⟨t, hexec, hcontents, hmap, hdone, hkeeps⟩ := exec_accountWrites hf hb hw hhand hidle (fun h => by
    rw [← h] at hrgen
    omega)
  refine ⟨t, r, hexec, hcontents, ?_, fun c => ?_, hdone, hkeeps⟩
  · have hgrant : r.grant = min max48
        (min (ceilingOf s (lineOf s i).contents.cls (lineOf s i).contents.partner) p.amount.toNat) := by
      rw [← hr]
      simp only [grantedRecord, clampGrant, ceilingOf, hcfg, hsettle]
    have hrecord : grantedRecord p (lineOf s i).contents w = { (lineOf s i).contents with
        used := (lineOf s i).contents.used - (lineOf s i).contents.grant
        grant := (grantedRecord p (lineOf s i).contents w).grant
        low := p.threshold.toNat, gen := ((lineOf s i).contents.gen + 1) % 65536
        marks := (lineOf s i).contents.marks / 2 * 2
        credit := creditOf (lineOf s i).contents.cls (grantedRecord p (lineOf s i).contents w).grant
          (grantedRecord p (lineOf s i).contents w).used (grantedRecord p (lineOf s i).contents w).low } := rfl
    rw [hr] at hrecord
    refine hrecord.trans ?_
    rw [hgrant]
  · rw [hmap, recordOpens_eq, hgate]
    split <;> simp_all

/-- An account command on an idle line whose record it leaves as it was (R140, R141). -/
theorem exec_accountLeaves {q : Request} {notify : Bool} {addr index size i : Nat} {s b w : State} {st : Status}
    {vals : List (Nat × Nat)} (hf : fetchReturns s addr index size)
    (hb : commandBegun q notify addr index size s = b) (hw : w = workState i b)
    (hhand : handCommand q b = complete st vals [] w) :
    ∃ t, exec (ringRow notify q) s = .next t ∧ t.gate = s.gate ∧
      (firstReady s = none → (lineOf t i).contents = (lineOf s i).contents) ∧
      completed t addr (completion st vals s.clock) ∧ keeps (keptBy (ringRow notify q)) s t := by
  obtain ⟨-, -, -, -, hgate, hlines⟩ := (WorkOf.mk ⟨notify, addr, index, size, hb⟩ hw).same
  obtain ⟨t, hexec, htgate, -, hsame, hdone, hkeeps⟩ := exec_accountRow hf hb hhand (by rw [hw]; rfl) (by rw [hw]; rfl)
    (by rw [hw]; rfl) (by rw [hw]; rfl)
  refine ⟨t, hexec, htgate.trans hgate, fun hnone => ?_, hdone, hkeeps⟩
  have hnone' : firstReady w = none := by
    rw [firstReady_congr (s := s) (by rw [hw, ← hb]; rfl) (by rw [hgate]) (by rw [hgate]) (by rw [hw, ← hb]; rfl)]
    exact hnone
  rw [hsame hnone' i, hlines]

theorem suspend_spec (n : Bool) (a : BitVec 16) (i : Nat) (s : State) (addr index size : Nat)
    (hf : fetchReturns s addr index size) (hrun : s.cmd.run = .running) (ha : a.toNat < s.cfg.accounts)
    (hline : findLine s a.toNat = some i) (hidle : grantableNow (lineOf s i) = true) :
    ∃ t, exec (.suspend n a) s = .next t ∧
      ((lineOf s i).contents.st = acctOpen →
        (lineOf t i).contents = { (lineOf s i).contents with st := acctSuspended, cause := 1 } ∧
        (∀ b, look t.gate.map b = if b = a.toNat then { look s.gate.map b with opened := false }
          else look s.gate.map b) ∧
        completed t addr (completion .ok
          [(1, acctOpen), (1, acctSuspended), (1, (lineOf s i).contents.credit)] s.clock)) ∧
      ((lineOf s i).contents.st ≠ acctOpen → t.gate = s.gate ∧
        (firstReady s = none → (lineOf t i).contents = (lineOf s i).contents) ∧
        completed t addr (completion (if (lineOf s i).contents.st = acctSuspended then .ok else .notOpen)
          [(1, (lineOf s i).contents.st), (1, (lineOf s i).contents.st), (1, (lineOf s i).contents.credit)] s.clock)) ∧
      keeps [.clock, .settings, .position, .coverage, .rating, .settlement] s t := by
  obtain ⟨b, hb⟩ : ∃ b, commandBegun (.suspend a) n addr index size s = b := ⟨_, rfl⟩
  obtain ⟨w, hw⟩ : ∃ w, w = workState i b := ⟨_, rfl⟩
  have hwork : WorkOf (.suspend a) i s b w := ⟨⟨n, addr, index, size, hb⟩, hw⟩
  obtain ⟨-, -, -, -, hgate, hlines⟩ := hwork.same
  have hhand : handCommand (.suspend a) b = suspendWork a.toNat i w := hwork.hand hrun ha hline hidle
  by_cases hst : (lineOf s i).contents.st = acctOpen
  · have hdoes : suspendWork a.toNat i w = complete .ok
        [(1, acctOpen), (1, acctSuspended), (1, (lineOf s i).contents.credit)] []
        (setGate a.toNat { look w.gate.map a.toNat with opened := false }
          (changeLine i { (lineOf s i).contents with st := acctSuspended, cause := 1 } w)) := by
      simp [suspendWork, hlines, hst, writeGate]
    obtain ⟨t, hexec, hcontents, hmap, hdone, hkeeps⟩ := exec_accountWrites hf hb hw (hhand.trans hdoes) hidle (fun h => by
      have hcontra := congrArg AcctRec.st h
      rw [hst] at hcontra
      exact absurd (show acctOpen = acctSuspended from hcontra) (by decide))
    refine ⟨t, hexec, fun _ => ⟨hcontents, fun c => ?_, hdone⟩, fun h => absurd hst h, hkeeps⟩
    rw [hmap, hgate]
    split <;> simp_all
  · have hdoes : suspendWork a.toNat i w = complete
        (if (lineOf s i).contents.st = acctSuspended then .ok else .notOpen)
        [(1, (lineOf s i).contents.st), (1, (lineOf s i).contents.st), (1, (lineOf s i).contents.credit)] [] w := by
      simp [suspendWork, hlines, hst]
    obtain ⟨t, hexec, htgate, hcontents, hdone, hkeeps⟩ := exec_accountLeaves hf hb hw (hhand.trans hdoes)
    exact ⟨t, hexec, fun h => absurd h hst, fun _ => ⟨htgate, hcontents, hdone⟩, hkeeps⟩

theorem resume_spec (n : Bool) (a : BitVec 16) (i : Nat) (s : State) (addr index size : Nat)
    (hf : fetchReturns s addr index size) (hrun : s.cmd.run = .running) (ha : a.toNat < s.cfg.accounts)
    (hline : findLine s a.toNat = some i) (hidle : grantableNow (lineOf s i) = true) :
    ∃ t, exec (.resume n a) s = .next t ∧
      ((lineOf s i).contents.st = acctSuspended →
        (lineOf t i).contents = { (lineOf s i).contents with st := acctOpen, cause := 0 } ∧
        (∀ b, look t.gate.map b = if b = a.toNat then
            { look s.gate.map b with opened := decide ((lineOf s i).contents.credit ≠ creditExhausted) }
          else look s.gate.map b) ∧
        completed t addr (completion .ok
          [(1, acctSuspended), (1, acctOpen), (1, (lineOf s i).contents.credit)] s.clock)) ∧
      ((lineOf s i).contents.st ≠ acctSuspended → t.gate = s.gate ∧
        (firstReady s = none → (lineOf t i).contents = (lineOf s i).contents) ∧
        completed t addr (completion (if (lineOf s i).contents.st = acctOpen then .ok else .notOpen)
          [(1, (lineOf s i).contents.st), (1, (lineOf s i).contents.st), (1, (lineOf s i).contents.credit)] s.clock)) ∧
      keeps [.clock, .settings, .position, .coverage, .rating, .settlement] s t := by
  obtain ⟨b, hb⟩ : ∃ b, commandBegun (.resume a) n addr index size s = b := ⟨_, rfl⟩
  obtain ⟨w, hw⟩ : ∃ w, w = workState i b := ⟨_, rfl⟩
  have hwork : WorkOf (.resume a) i s b w := ⟨⟨n, addr, index, size, hb⟩, hw⟩
  obtain ⟨-, -, -, -, hgate, hlines⟩ := hwork.same
  have hhand : handCommand (.resume a) b = resumeWork a.toNat i w := hwork.hand hrun ha hline hidle
  by_cases hst : (lineOf s i).contents.st = acctSuspended
  · have hdoes : resumeWork a.toNat i w = complete .ok
        [(1, acctSuspended), (1, acctOpen), (1, (lineOf s i).contents.credit)] []
        (setGate a.toNat { look w.gate.map a.toNat with opened := decide ((lineOf s i).contents.credit ≠ creditExhausted) }
          (changeLine i { (lineOf s i).contents with st := acctOpen, cause := 0 } w)) := by
      simp [resumeWork, hlines, hst, writeGate, recordOpens_eq]
    obtain ⟨t, hexec, hcontents, hmap, hdone, hkeeps⟩ := exec_accountWrites hf hb hw (hhand.trans hdoes) hidle (fun h => by
      have hcontra := congrArg AcctRec.st h
      rw [hst] at hcontra
      exact absurd (show acctSuspended = acctOpen from hcontra) (by decide))
    refine ⟨t, hexec, fun _ => ⟨hcontents, fun c => ?_, hdone⟩, fun h => absurd hst h, hkeeps⟩
    rw [hmap, hgate]
    split <;> simp_all
  · have hdoes : resumeWork a.toNat i w = complete
        (if (lineOf s i).contents.st = acctOpen then .ok else .notOpen)
        [(1, (lineOf s i).contents.st), (1, (lineOf s i).contents.st), (1, (lineOf s i).contents.credit)] [] w := by
      simp [resumeWork, hlines, hst]
    obtain ⟨t, hexec, htgate, hcontents, hdone, hkeeps⟩ := exec_accountLeaves hf hb hw (hhand.trans hdoes)
    exact ⟨t, hexec, fun h => absurd h hst, fun _ => ⟨htgate, hcontents, hdone⟩, hkeeps⟩

/-- Settles O46. -/
theorem suspendAndResume : Obligations.SuspendAndResume := ⟨suspend_spec, resume_spec⟩

end Sys2Proof.Machine
end

section
/-! The refutation of the statement about CLOSE_ACCOUNT (R144): it holds of a line table in canonical form only, in which no
number is listed twice. -/

namespace Sys2Proof.Machine

/-- RUNNING with 8 accounts, and a line table that lists number 0 twice: the search for account 2 finds number 0, whose record
is that of account 1. No place is taken, nothing is counted for account 2, and the fetch of a command returns. -/
def twiceListed : State :=
  let s := State.resetWith 3 []
  { s with
    cfg := { (default : Settings) with accounts := 8 }
    path := { s.path with
      inFlight := [.own (.read { block := .commandEngine, addr := 0, beats := 8, use := .fetch 0, seq := 0 }) 1] }
    cache := { s.cache with
      lines := [(0, { (default : Line) with
                  st := .clean, account := some 1, contents := { (default : AcctRec) with st := acctOpen } }),
                (0, { (default : Line) with st := .clean, account := some 2 })] }
    cmd := { s.cmd with run := .running, fetching := some (0, 0, 1) } }

theorem fetchReturns_twiceListed : fetchReturns twiceListed 0 0 1 := ⟨rfl, rfl, rfl⟩

/-- The CLOSING record drops the second line 0, so that the finisher finds no line of account 2 and waits for a fill. -/
theorem closeAccount_twiceListed :
    (lineOf (after (.closeAccount false 2) twiceListed) 0).contents.st = acctClosing := by decide +kernel

/-- Refutes O47: the finisher looks the account up again, and in a table that is not in canonical form finds another line. -/
theorem not_closeTakesPlaceAndDetaches : ¬ Obligations.CloseTakesPlaceAndDetaches := by
  intro h
  obtain ⟨hclose, -⟩ := h
  obtain ⟨t, hexec, -, hopen, -⟩ := hclose false 2 0 twiceListed 0 0 1 fetchReturns_twiceListed (by decide) (by decide) (by decide)
    (by decide) (by decide)
  obtain ⟨-, hfinished, -⟩ := hopen (.inl (by decide))
  obtain ⟨hfree, -⟩ := hfinished (by decide) (by decide) (by decide) (by decide)
  have hclosing := closeAccount_twiceListed
  rw [← exec_next hexec, hfree] at hclosing
  exact absurd hclosing (by decide)

end Sys2Proof.Machine
end

section
/-! Cache lines: what a line granted to its only requester does (R154), and the transfers of a line (R159 to R161). -/

namespace Sys2Proof.Machine

/-! ### A line granted to its only requester (R154) -/

theorem serveMisses_of_nil {s : State} (h : s.cache.misses = []) : serveMisses s = s := by
  simp [serveMisses, seekVictims, h]

theorem serve_of_idle (n : Nat) {i : Nat} {s : State} (h : (lineOf s i).waiting = []) : serve n i s = s := by
  cases n with
  | zero => rfl
  | succ n => simp only [serve, h]

/-- Line `i` with no requester left. -/
def freedLine (i : Nat) (s : State) : State := setLine i { lineOf s i with waiting := [] } s

theorem freedLine_lineOf (i : Nat) (s : State) (j : Nat) :
    lineOf (freedLine i s) j = if j = i then { lineOf s i with waiting := [] } else lineOf s j := lineOf_setLine _ _ _ _

/-- The state in which a requester other than a passing read does its work on line `i` (R154, R156). -/
def grantState (i : Nat) (s : State) : State := touchLine i (freedLine i s)

theorem grantState_lineOf (i : Nat) (s : State) (j : Nat) : lineOf (grantState i s) j = lineOf (freedLine i s) j := rfl

theorem calledLines_eq_nil {i : Option Nat} {old s : State}
    (h : ∀ j, grantDue (lineOf s j) = true → some j ≠ i ∧ grantableNow (lineOf old j) = false) : calledLines i old s = [] := by
  refine List.filter_eq_nil_iff.mpr fun j _ hj => ?_
  simp only [Bool.and_eq_true, Bool.or_eq_true, beq_iff_eq] at hj
  obtain ⟨hdue, hcall⟩ := hj
  obtain ⟨hne, hnot⟩ := h j hdue
  simp [hne, hnot] at hcall

/-- Each line that holds a record with requesters had requesters before, and is not line `i`: none is called (R153). -/
def noneCalled (i : Nat) (s t : State) : Prop :=
  ∀ j, holdsRecord (lineOf t j) = true → (lineOf t j).waiting ≠ [] → j ≠ i ∧ (lineOf s j).waiting ≠ []

theorem noneCalled.nil {i : Nat} {s t : State} (h : noneCalled i s t) : calledLines (some i) (freedLine i s) t = [] := by
  refine calledLines_eq_nil fun j hj => ?_
  simp only [grantDue, Bool.and_eq_true, Bool.not_eq_true', List.isEmpty_eq_false_iff] at hj
  obtain ⟨hne, hwait⟩ := h j hj.1 hj.2
  refine ⟨fun heq => hne (Option.some.inj heq), ?_⟩
  rw [freedLine_lineOf, if_neg hne]
  simp [grantableNow, hwait]

/-- Where no one presents itself for a free line meanwhile, a grant is the requester's work and what follows it. -/
theorem serve_alone {n i : Nat} {r : Requester} {s w : State} (hwait : (lineOf s i).waiting = [r])
    (hold : holdsRecord (lineOf s i) = true) (hr : r ≠ .read) (hw : grantWorkOf r i (grantState i s) = w)
    (hidle : (lineOf w i).waiting = []) (hcalled : noneCalled i s (afterGrant r w)) :
    serve (n + 1) i s = afterGrant r w := by
  have hnil := hcalled.nil
  unfold serve
  simp only [hwait, hold, if_true, if_neg hr]
  have hwork : grantWorkOf r i (touchLine i (setLine i { lineOf s i with waiting := [] } s)) = w := hw
  rw [hwork, serve_of_idle n hidle]
  unfold freedLine at hnil
  rw [hnil]
  rfl

/-! ### The rating within a grant (R117 to R124) -/

/-- The record that the rating of event `e` leaves of a record `c` (R117 to R122). -/
def ratedRecord (s : State) (c : AcctRec) (e : UsageEvent) : AcctRec :=
  if stale c e then c else settleCredit (rate (tariffFor s (some e.region) c.cls) c e).record

theorem rateGrant_lineOf (i : Nat) (e : UsageEvent) (s : State) (j : Nat) :
    lineOf (rateGrant i e s) j =
      if j = i then changedLine (lineOf s i) (ratedRecord s (lineOf s i).contents e) s.clock else lineOf s j := by
  unfold rateGrant ratedRecord
  dsimp only
  split
  · have hsame : changedLine (lineOf s i) (lineOf s i).contents s.clock = lineOf s i := by simp [changedLine]
    rw [hsame]
    by_cases hj : j = i <;> simp [lineOf, hj]
  · rw [← lineOf_changeLine]
    unfold lineOf
    congr 2
    split <;> split <;> simp

/-! ### The end of an event in which the finisher finds no place (R145) -/

theorem settleEvent_tryTake {s u : State} (hsup : u.sup = s.sup) (hrelay : u.relay = s.relay)
    (hnone : u.acct.finisher ≠ .idle ∨ firstReady u = none) : settleEvent s u = tryTake u := by
  have hquiet : passStarts s u = false := passStarts_eq_false hsup (by rw [hrelay]) (by rw [hrelay]) (by rw [hrelay])
  rw [settleEvent_of_not_passStarts hquiet]
  rcases hnone with h | h
  · exact judgeFinisher_of_busy (by simpa using h)
  · refine judgeFinisher_of_none ?_
    rw [firstReady_congr (s := u) (by simp) (by simp) (by simp) (tryTake_lists u).1]
    exact h

@[simp] theorem lineOf_tryTake (s : State) (j : Nat) : lineOf (tryTake s) j = lineOf s j := by
  simp [lineOf]

theorem moveHead_of_none {s : State} (h : s.path.head = none) : moveHead s = s := by
  simp [moveHead, h]

theorem ageExpiry_writes {k a : Nat} {s : State} (hrun : s.cmd.run = .starting ∨ s.cmd.run = .running ∨ s.cmd.run = .stopping)
    (hst : (lineOf s k).st = .dirty) (ha : (lineOf s k).account = some a)
    (hage : s.cfg.flushAge ≤ elapsed s (lineOf s k).dirtySince) :
    ageExpiry k s = placeWrite (fullWrite .accountCache (recordAddr s a) (bytesOfRec (lineOf s k).contents) (.lineBack k))
      (setLine k { lineOf s k with st := .writing, redirty := false } s) := by
  have hdue : ageDue s k = true := by
    rcases hrun with h | h | h <;> simp [ageDue, h, hst, hage]
  rw [ageExpiry, if_pos hdue, beginWriteBack_of_dirty hst ha]

/-- The line of a fill that has returned (R159). -/
def filledLine (l : Line) (data : List Byte) : Line := { l with st := .clean, contents := recOfBytes data }

theorem exec_fillDone {data : Vector Byte 64} {k : Nat} {r : OwnRead} {s : State} (hfront : frontRead s = some r)
    (huse : r.use = .fill k) (hst : (lineOf s k).st = .filling) :
    exec (.fillDone data) s =
      .next (portEvent s (grantLine k (setLine k (filledLine (lineOf s k) data.toList) (answered s)))) := by
  have hst' : (lineOf (answered s) k).st = .filling := hst
  show Host.Outcome.next (fillDone data.toList s) = _
  simp only [fillDone, hfront, huse, fillLine, hst', if_true]
  rfl

/-- A fill that no requester waits for (R159). -/
theorem fillDone_unwaited (data : Vector Byte 64) (k : Nat) (r : OwnRead) (s : State) (hfront : frontRead s = some r)
    (huse : r.use = .fill k) (hst : (lineOf s k).st = .filling) (hwait : (lineOf s k).waiting = [])
    (hmisses : s.cache.misses = []) (hnone : firstReady s = none) (hup : s.path.upstream = []) (hhead : s.path.head = none) :
    ∃ t, exec (.fillDone data) s = .next t ∧
      (∀ j, lineOf t j = if j = k then { lineOf s k with st := .clean, contents := recOfBytes data.toList }
        else lineOf s j) ∧
      keeps [.clock, .settings, .position, .coverage, .links, .capture, .rating, .accounts, .settlement, .engine,
        .reports] s t := by
  obtain ⟨u, hu⟩ : ∃ u, setLine k (filledLine (lineOf s k) data.toList) (answered s) = u := ⟨_, rfl⟩
  have hline (j) : lineOf u j = if j = k then filledLine (lineOf s k) data.toList else lineOf s j := by
    rw [← hu, lineOf_setLine]
    rfl
  have hgrant : grantLine k u = u := by
    rw [grantLine, serve_of_idle _ (by simp [hline, filledLine, hwait]), serveMisses_of_nil (by rw [← hu]; exact hmisses)]
  have hport : portEvent s u = settleEvent s u := by
    rw [portEvent_of_nil (by rw [← hu]; exact hup), moveHead_of_none (by rw [← hu]; exact hhead)]
  have hnone' : firstReady u = none := by
    rw [firstReady_congr (s := s) (by rw [← hu]; rfl) (by rw [← hu]; rfl) (by rw [← hu]; rfl) (by rw [← hu]; rfl)]
    exact hnone
  have hexec := exec_fillDone (data := data) hfront huse hst
  rw [hu, hgrant, hport] at hexec
  have hend : settleEvent s u = tryTake u := settleEvent_tryTake (by rw [← hu]; rfl) (by rw [← hu]; rfl) (.inr hnone')
  rw [hend] at hexec
  refine ⟨_, hexec, fun j => ?_, ?_⟩
  · rw [lineOf_tryTake, hline]
    rfl
  · simp [Part.same, ← hu]

theorem tryRate_of_nil {s : State} (h : s.gate.queue = []) : tryRate s = s := by
  simp [tryRate, h]

/-- A fill that the Rating Engine alone waits for rates the only event of the queue (R154, R124). -/
theorem fillDone_rates (data : Vector Byte 64) (k : Nat) (r : OwnRead) (e : UsageEvent) (s : State)
    (hfront : frontRead s = some r) (huse : r.use = .fill k) (hst : (lineOf s k).st = .filling)
    (hwait : (lineOf s k).waiting = [.rating]) (hqueue : s.gate.queue = [e]) (hmisses : s.cache.misses = [])
    (hnone : noneReady s s.acct.places []) (hup : s.path.upstream = []) (hhead : s.path.head = none) :
    ∃ t, exec (.fillDone data) s = .next t ∧ t.gate.queue = [] ∧ t.rate.requested = none ∧ (lineOf t k).waiting = [] ∧
      (lineOf t k).contents = (if stale (recOfBytes data.toList) e then recOfBytes data.toList
        else settleCredit (rate (tariffFor s (some e.region) (recOfBytes data.toList).cls) (recOfBytes data.toList)
          e).record) ∧
      keeps [.clock, .settings, .position, .coverage] s t := by
  obtain ⟨u, hu⟩ : ∃ u, setLine k (filledLine (lineOf s k) data.toList) (answered s) = u := ⟨_, rfl⟩
  have hline (j) : lineOf u j = if j = k then filledLine (lineOf s k) data.toList else lineOf s j := by
    rw [← hu, lineOf_setLine]
    rfl
  have hself : lineOf u k = filledLine (lineOf s k) data.toList := by rw [hline, if_pos rfl]
  have hgline (j) : lineOf (grantState k u) j =
      if j = k then { filledLine (lineOf s k) data.toList with waiting := [] } else lineOf s j := by
    rw [grantState_lineOf, freedLine_lineOf, hself, hline]
    split <;> rfl
  have htariff (c : AcctRec) : ratedRecord (grantState k u) c e = ratedRecord s c e := by
    unfold ratedRecord tariffFor
    rw [show (grantState k u).rate = s.rate by rw [← hu]; rfl]
  obtain ⟨w, hw⟩ : ∃ w, rateGrant k e (grantState k u) = w := ⟨_, rfl⟩
  have hwline (j) : lineOf w j = if j = k then
      changedLine { filledLine (lineOf s k) data.toList with waiting := [] } (ratedRecord s (recOfBytes data.toList) e)
        (grantState k u).clock else lineOf s j := by
    rw [← hw, rateGrant_lineOf, hgline, hgline, if_pos rfl, htariff]
    by_cases h : j = k <;> simp [h, filledLine]
  have hwself := changedLine_spec { filledLine (lineOf s k) data.toList with waiting := [] }
    (ratedRecord s (recOfBytes data.toList) e) (grantState k u).clock
  obtain ⟨hcontents, hwaiting, -, -⟩ := hwself
  have hwk : (lineOf w k).waiting = [] := by rw [hwline, if_pos rfl]; exact hwaiting
  have hugate : u.gate = s.gate := by rw [← hu]; rfl
  have hgs : (grantState k u).gate = s.gate ∧ (grantState k u).acct = s.acct ∧ (grantState k u).relay = s.relay ∧
      (grantState k u).sup = s.sup ∧ (grantState k u).path.head = none ∧ (grantState k u).path.upstream = [] ∧
      (grantState k u).cache.misses = [] ∧ keeps [.clock, .settings, .position, .coverage] s (grantState k u) := by
    rw [← hu]
    exact ⟨rfl, rfl, rfl, rfl, hhead, hup, hmisses, by simp [Part.same, grantState, freedLine]⟩
  obtain ⟨h1, h2, h3, h4, h5, h6, h7, hgkeeps⟩ := hgs
  obtain ⟨v, hv⟩ : ∃ v, { w with gate := { w.gate with queue := [] }, rate := { w.rate with requested := none } } = v := ⟨_, rfl⟩
  have hready : firstReady v = none := by
    rw [firstReady_congr (s := { s with acct := { s.acct with places := s.acct.places }
                                        gate := { s.gate with queue := [] } })
      (by simp [← hv, ← hw, h2]) (by simp [← hv]) (by simp [← hv, ← hw, h1]) (by simp [← hv, ← hw, h3])]
    exact hnone
  have hrating : endRating w = v := by
    have htail : { w with gate := { w.gate with queue := w.gate.queue.tail }, rate := { w.rate with requested := none } } = v := by
      rw [← hv, show w.gate.queue.tail = [] by simp [← hw, h1, hqueue]]
    rw [endRating, htail, judgeFinisher_of_none hready, tryRate_of_nil (by rw [← hv])]
  have hvline (j) : lineOf v j = lineOf w j := by rw [← hv]; rfl
  have hserve : serve grantDepth k u = v := by
    rw [show grantDepth = 255 + 1 from rfl, serve_alone (r := .rating) (w := w) (by rw [hself]; exact hwait)
      (by rw [hself]; rfl) (by decide) (by simp only [grantWorkOf, h1, hqueue]; exact hw) hwk]
    · exact hrating
    · intro j hhold hwaits
      show j ≠ k ∧ _
      rw [show afterGrant .rating w = v from hrating, hvline] at hwaits
      have hne : j ≠ k := fun h => hwaits (h ▸ hwk)
      refine ⟨hne, ?_⟩
      rw [hwline, if_neg hne] at hwaits
      rwa [hline, if_neg hne]
  have hvrest : v.path.head = none ∧ v.path.upstream = [] ∧ v.cache.misses = [] ∧ v.sup = s.sup ∧ v.relay = s.relay ∧
      keeps [.clock, .settings, .position, .coverage] (grantState k u) v := by
    rw [← hv, ← hw]
    simp [h3, h4, h5, h6, h7, Part.same]
  obtain ⟨k1, k2, k3, k4, k5, hvkeeps⟩ := hvrest
  have hexec := exec_fillDone (data := data) hfront huse hst
  rw [hu, grantLine, hserve, serveMisses_of_nil k3, portEvent_of_nil k2, moveHead_of_none k1,
    settleEvent_tryTake k4 k5 (.inr hready)] at hexec
  refine ⟨_, hexec, by simp [← hv], by simp [← hv], ?_, ?_, (hgkeeps.trans hvkeeps).trans (by simp [Part.same])⟩
  · rw [lineOf_tryTake, hvline, hwk]
  · rw [lineOf_tryTake, hvline, hwline, if_pos rfl, hcontents]
    rfl

/-- A write-back that is answered (R160). -/
theorem writeBackDone_line (k att : Nat) (w : OwnWrite) (rest : List Flight) (s : State)
    (hheard : heard s = .own (.write w) att :: rest) (huse : w.use = .lineBack k) (hst : (lineOf s k).st = .writing)
    (hmisses : s.cache.misses = []) (hflush : s.cache.flush = none) (hrun : s.cmd.run = .running) (hnone : firstReady s = none) :
    ∃ t, exec .writeBackDone s = .next t ∧ t.path.inFlight = rest ∧
      (∀ j, lineOf t j = if j = k then
          { lineOf s k with st := if (lineOf s k).redirty then .dirty else .clean, redirty := false, evictMark := false
                            flushMark := false }
        else lineOf s j) ∧
      keeps [.clock, .settings, .position, .coverage, .links, .capture, .rating, .accounts, .settlement, .engine,
        .reports] s t := by
  obtain ⟨u, hu⟩ : ∃ u, endEviction k (setLine k (afterWriteBack (lineOf s k)) (answered s)) = u := ⟨_, rfl⟩
  have hline (j) : lineOf u j = if j = k then afterWriteBack (lineOf s k) else lineOf s j := by
    have hsame : lineOf u j = lineOf (setLine k (afterWriteBack (lineOf s k)) (answered s)) j := by rw [← hu]; rfl
    rw [hsame, lineOf_setLine]
    rfl
  have hflight : u.path.inFlight = rest := by
    rw [← hu]
    show (heard s).tail = rest
    rw [hheard]
    rfl
  have humisses : u.cache.misses = [] := by
    rw [← hu]
    show (s.cache.misses.map _) = []
    rw [hmisses]
    rfl
  have hserve : serveFlush (serveMisses u) = u := by
    rw [serveMisses_of_nil humisses]
    have huflush : u.cache.flush = none := by rw [← hu]; exact hflush
    simp [serveFlush, huflush]
  have hcount (v : State) (hv : v.cmd.run = .running) : countAtStop k v = v := by simp [countAtStop, hv]
  have hready : firstReady u = none := by
    rw [firstReady_congr (s := s) (by rw [← hu]; rfl) (by rw [← hu]; rfl) (by rw [← hu]; rfl) (by rw [← hu]; rfl)]
    exact hnone
  have hend : settleEvent s u = tryTake u := settleEvent_tryTake (by rw [← hu]; rfl) (by rw [← hu]; rfl) (.inr hready)
  have hexec : exec .writeBackDone s = .next (tryTake u) := by
    show Host.Outcome.next (writeBackDone s) = _
    simp only [writeBackDone, hheard, huse, hst, if_true]
    rw [hcount (setLine k (afterWriteBack (lineOf s k)) (answered s)) hrun, hu, hserve, hend]
  refine ⟨_, hexec, ?_, fun j => ?_, ?_⟩
  · simpa using hflight
  · rw [lineOf_tryTake, hline]
    rfl
  · simp [Part.same, ← hu, endEviction, setLine]

/-- Settles O48. -/
theorem cacheLineTransfers : Obligations.CacheLineTransfers := by
  refine ⟨fun k a s hrun hst ha hage => ?_, fillDone_unwaited, fillDone_rates, writeBackDone_line⟩
  have hexec : exec (.ageExpiry k) s = .next (ageExpiry k s) := rfl
  have hwrite := ageExpiry_writes hrun hst ha hage
  refine ⟨_, hexec, ?_, fun j => ?_, rowFrames _ s _ hexec⟩
  · rw [hwrite]
    exact placeWrite_placed _ _
  · rw [hwrite, placeWrite_lineOf, lineOf_setLine]

end Sys2Proof.Machine
end

section
/-! A line granted to the Rating Engine (R117 to R124, R154), and the requests for a line that no record holds (R153). -/

namespace Sys2Proof.Machine

/-! ### An account that no line holds (R153) -/

theorem look_mem_or {α : Type} [Inhabited α] (t : Tab α) (n : Nat) : (n, look t n) ∈ t ∨ look t n = default := by
  induction t with
  | nil => exact .inr rfl
  | cons p t ih =>
    obtain ⟨k, v⟩ := p
    by_cases hk : k = n
    · simp [look, hk]
    · rcases ih with h | h
      · exact .inl (by simp [look, hk, h])
      · exact .inr (by simp [look, hk, h])

theorem account_of_findLine_none {s : State} {a : Nat} (h : findLine s a = none) (i : Nat) : (lineOf s i).account ≠ some a := by
  intro ha
  simp only [findLine, Option.map_eq_none_iff, List.find?_eq_none, beq_iff_eq] at h
  rcases look_mem_or s.cache.lines i with hmem | hdef
  · exact h _ hmem ha
  · rw [lineOf, hdef] at ha
    cases ha

theorem mem_setLine {s : State} {i n : Nat} {l m : Line} (h : (n, m) ∈ (setLine i l s).cache.lines) :
    (n, m) = (i, l) ∨ (n, m) ∈ s.cache.lines := by
  simp only [setLine, put] at h
  split at h
  · exact .inr (List.mem_of_mem_filter h)
  · exact ((mem_insertAt _ _ _ _).mp h).imp id List.mem_of_mem_filter

theorem findLine_setLine_none {s : State} {a i : Nat} {l : Line} (h : findLine s a = none) (hl : l.account ≠ some a) :
    findLine (setLine i l s) a = none := by
  simp only [findLine, Option.map_eq_none_iff, List.find?_eq_none, beq_iff_eq, Prod.forall] at h ⊢
  intro n m hm
  rcases mem_setLine hm with heq | hmem
  · cases heq
    exact hl
  · exact h n m hmem

theorem findLine_changeLine_none {s : State} {a i : Nat} {r : AcctRec} (h : findLine s a = none) :
    findLine (changeLine i r s) a = none := by
  have hnot := account_of_findLine_none h i
  unfold changeLine
  dsimp only
  repeat' split
  · exact h
  all_goals exact findLine_setLine_none h hnot

theorem findLine_congr {s t : State} (h : t.cache.lines = s.cache.lines) (a : Nat) : findLine t a = findLine s a := by
  unfold findLine
  rw [h]

theorem findLine_freedLine_none {s : State} {a : Nat} (i : Nat) (h : findLine s a = none) : findLine (freedLine i s) a = none :=
  findLine_setLine_none h (account_of_findLine_none h i)

/-- A request for an account that no line holds keeps what begun write-backs, eviction marks and fills keep. -/
theorem FillStable.requestLine {P : Nat → Line → Prop} (hP : FillStable P) (r : Requester) {a : Nat} {s : State}
    (hnone : findLine s a = none) (h : ∀ j, P j (lineOf s j)) : ∀ j, P j (lineOf (requestLine r a s) j) := by
  unfold Sys2Proof.Machine.requestLine
  simp only [hnone]
  split
  · exact h
  · exact hP.serveMisses (s := { s with cache := { s.cache with misses := s.cache.misses ++ [_] } }) h

/-- The next rating asks for a line of an account that no line holds, or does not begin. -/
theorem FillStable.tryRate {P : Nat → Line → Prop} (hP : FillStable P) {s : State}
    (hnone : ∀ e ∈ s.gate.queue.head?, findLine s e.account = none) (h : ∀ j, P j (lineOf s j)) :
    ∀ j, P j (lineOf (tryRate s) j) := by
  unfold Sys2Proof.Machine.tryRate
  split
  · split
    · exact h
    · rename_i e rest hq
      have hfree : findLine s e.account = none := hnone e (by simp [hq])
      exact hP.requestLine .rating (s := { s with rate := { s.rate with requested := some e.account } }) hfree h
  · exact h

/-- No line that holds a record gains requesters when a line is written back, marked or filled. -/
theorem fillStable_noneCalled (k : Nat) (s : State) :
    FillStable fun j l => holdsRecord l = true → l.waiting ≠ [] → j ≠ k ∧ (lineOf s j).waiting ≠ [] where
  writes _ _ hd h _ hw := h (by simp [holdsRecord, hd]) hw
  evicts _ _ h := h
  fills _ _ _ _ _ _ hhold := by simp [holdsRecord] at hhold

/-- A CLEAN line that no one waits for keeps its record, or is filled with another. -/
theorem fillStable_clean (k : Nat) (r : AcctRec) :
    FillStable fun j l => j = k → (l.contents = r ∧ l.st = .clean) ∨ l.st = .filling where
  writes _ _ hd h hj := by
    rcases h hj with ⟨-, hst⟩ | hst <;> rw [hd] at hst <;> cases hst
  evicts _ _ h := h
  fills _ _ _ _ _ _ _ := .inr rfl

/-! ### Settlement of a rating (R123, R172) -/

theorem addAccum_congr {s t : State} (h : t.settle = s.settle) (pair charge up down events : Nat) :
    (addAccum pair charge up down events t).settle = (addAccum pair charge up down events s).settle := by
  simp [addAccum, h]

theorem settleCredit_holder (r : AcctRec) : (settleCredit r).cls = r.cls ∧ (settleCredit r).partner = r.partner := by
  unfold settleCredit
  dsimp only
  split <;> exact ⟨rfl, rfl⟩

theorem rate_holder (k : Tariff) (r : AcctRec) (e : UsageEvent) :
    (rate k r e).record.cls = r.cls ∧ (rate k r e).record.partner = r.partner := by
  cases h : e.dir <;> simp [rate, h, addBytes, setCarry]

theorem rateGrant_settle (i : Nat) (e : UsageEvent) (s : State) :
    (rateGrant i e s).settle = (if stale (lineOf s i).contents e = true ∨ (lineOf s i).contents.cls ≠ clsRoamer then s
      else addAccum (pairOf (lineOf s i).contents.partner e.region)
        (rate (tariffFor s (some e.region) (lineOf s i).contents.cls) (lineOf s i).contents e).charge
        (if e.dir = .uplink then e.bytes else 0) (if e.dir = .downlink then e.bytes else 0) 1 s).settle := by
  obtain ⟨r, hr⟩ : ∃ r, (lineOf s i).contents = r := ⟨_, rfl⟩
  obtain ⟨w, hw⟩ : ∃ w, rate (tariffFor s (some e.region) r.cls) r e = w := ⟨_, rfl⟩
  have hholder := settleCredit_holder w.record
  have hrate := rate_holder (tariffFor s (some e.region) r.cls) r e
  rw [hw] at hrate
  obtain ⟨hcls, hpartner⟩ := hholder
  rw [hrate.1] at hcls
  rw [hrate.2] at hpartner
  unfold rateGrant
  simp only [hr, hw]
  cases hstale : stale r e with
  | true => simp
  | false =>
    obtain ⟨m, hm⟩ : ∃ m, creditToGate r (settleCredit w.record) e.account (changeLine i (settleCredit w.record) s) = m :=
      ⟨_, rfl⟩
    have hms : m.settle = s.settle := by simp [← hm]
    have hsettle : (settleRating (settleCredit w.record) e w.charge m).settle =
        (if r.cls ≠ clsRoamer then s else addAccum (pairOf r.partner e.region) w.charge
          (if e.dir = .uplink then e.bytes else 0) (if e.dir = .downlink then e.bytes else 0) 1 s).settle := by
      unfold settleRating
      rw [hcls, hpartner]
      by_cases hroamer : r.cls = clsRoamer
      · rw [if_pos hroamer, if_neg (not_not.mpr hroamer)]
        cases hdir : e.dir <;> exact addAccum_congr hms _ _ _ _ _
      · rw [if_neg hroamer, if_pos hroamer]
        exact hms
    rw [hm]
    simp only [Bool.false_eq_true, if_false, false_or]
    rw [← hsettle]
    split <;> split <;> simp

/-! ### The Rating Engine's grant (R124) -/

theorem exec_lineGrant {k : Fin 64} {s : State} {r : Requester} (hold : holdsRecord (lineOf s k) = true)
    (hwait : (lineOf s k).waiting = [r]) : exec (.lineGrant k) s = .next (portEvent s (grantLine k s)) := by
  show Host.Outcome.next (lineGrant k s) = _
  have hdue : grantDue (lineOf s k) = true := by simp [grantDue, hold, hwait]
  rw [lineGrant, if_pos hdue]

/-- The state once the head of the usage queue has been rated on line `k` and has left the queue (R124 step 6). -/
def headRated (k : Nat) (e : UsageEvent) (rest : List UsageEvent) (s : State) : State :=
  let w := rateGrant k e (grantState k s)
  { w with gate := { w.gate with queue := rest }, rate := { w.rate with requested := none } }

theorem headRated_frame (k : Nat) (e : UsageEvent) (rest : List UsageEvent) (s : State) :
    SameTime s (headRated k e rest s) ∧ (headRated k e rest s).pos = s.pos ∧ SamePort s (headRated k e rest s) ∧
      (headRated k e rest s).sup = s.sup ∧ (headRated k e rest s).relay = s.relay ∧
      (headRated k e rest s).gate.queue = rest ∧ (headRated k e rest s).gate.waiting = s.gate.waiting ∧
      (headRated k e rest s).acct = s.acct := by
  have hg : SameTime s (grantState k s) ∧ (grantState k s).pos = s.pos ∧ SamePort s (grantState k s) ∧
      (grantState k s).sup = s.sup ∧ (grantState k s).relay = s.relay ∧ (grantState k s).gate = s.gate ∧
      (grantState k s).acct = s.acct := by simp [grantState, freedLine]
  obtain ⟨⟨h0, h1, h2⟩, h3, h4, h5, h6, h7, h8⟩ := hg
  simp [headRated, h0, h1, h2, h3, h4, h5, h6, h7, h8]

theorem headRated_settle (k : Nat) (e : UsageEvent) (rest : List UsageEvent) (s : State) :
    (headRated k e rest s).settle = (if stale (lineOf s k).contents e = true ∨ (lineOf s k).contents.cls ≠ clsRoamer then s
      else addAccum (pairOf (lineOf s k).contents.partner e.region)
        (rate (tariffFor s (some e.region) (lineOf s k).contents.cls) (lineOf s k).contents e).charge
        (if e.dir = .uplink then e.bytes else 0) (if e.dir = .downlink then e.bytes else 0) 1 s).settle := by
  have hcontents : (lineOf (grantState k s) k).contents = (lineOf s k).contents := by
    rw [grantState_lineOf, freedLine_lineOf, if_pos rfl]
  have htariff (g c) : tariffFor (grantState k s) g c = tariffFor s g c := rfl
  have hsettle : (grantState k s).settle = s.settle := rfl
  have hrated := rateGrant_settle k e (grantState k s)
  rw [hcontents, htariff] at hrated
  refine Eq.trans hrated ?_
  split
  · exact hsettle
  · exact addAccum_congr hsettle _ _ _ _ _

theorem headRated_lineOf (k : Nat) (e : UsageEvent) (rest : List UsageEvent) (s : State) (j : Nat) :
    lineOf (headRated k e rest s) j = if j = k then
      changedLine { lineOf s k with waiting := [] } (ratedRecord s (lineOf s k).contents e) s.clock else lineOf s j := by
  have htariff (c : AcctRec) : ratedRecord (grantState k s) c e = ratedRecord s c e := rfl
  have hclock : (grantState k s).clock = s.clock := rfl
  have hline : lineOf (headRated k e rest s) j = lineOf (rateGrant k e (grantState k s)) j := rfl
  rw [hline, rateGrant_lineOf, grantState_lineOf, grantState_lineOf, freedLine_lineOf, freedLine_lineOf, if_pos rfl, htariff,
    hclock]
  by_cases h : j = k <;> simp [h]

theorem rateGrant_findLine_none {i a : Nat} {e : UsageEvent} {s : State} (h : findLine s a = none) :
    findLine (rateGrant i e s) a = none := by
  unfold rateGrant
  dsimp only
  split
  · rw [findLine_congr (s := s) (by simp)]
    exact h
  · rw [findLine_congr (s := changeLine i (settleCredit
      (rate (tariffFor s (some e.region) (lineOf s i).contents.cls) (lineOf s i).contents e).record) s)]
    · exact findLine_changeLine_none h
    · split <;> split <;> simp

/-- The rating of the head of the queue on its line, where no other requester follows within the event (R117, R123, R124). -/
theorem lineGrant_rates (k : Fin 64) (e : UsageEvent) (rest : List UsageEvent) (r w : AcctRec) (s : State)
    (hold : holdsRecord (lineOf s k) = true) (hwait : (lineOf s k).waiting = [.rating]) (hr : (lineOf s k).contents = r)
    (hw : w = (if stale r e then r else settleCredit (rate (tariffFor s (some e.region) r.cls) r e).record))
    (hqueue : s.gate.queue = e :: rest) (hup : s.path.upstream = [])
    (hfree : ∀ e' ∈ rest.head?, findLine s e'.account = none)
    (hnone : s.acct.finisher ≠ .idle ∨ noneReady s s.acct.places rest) :
    ∃ t, exec (.lineGrant k) s = .next t ∧ t.gate.queue = rest ∧
      (w ≠ r ∨ (lineOf s k).st ≠ .clean → (lineOf t k).contents = w) ∧
      (w = r → (lineOf s k).st = .clean → (lineOf t k).contents = r ∨ (lineOf t k).st = .filling) ∧
      t.settle = (if stale r e = true ∨ r.cls ≠ clsRoamer then s
        else addAccum (pairOf r.partner e.region) (rate (tariffFor s (some e.region) r.cls) r e).charge
          (if e.dir = .uplink then e.bytes else 0) (if e.dir = .downlink then e.bytes else 0) 1 s).settle ∧
      keeps [.clock, .settings, .position] s t := by
  obtain ⟨v, hv⟩ : ∃ v, headRated k e rest s = v := ⟨_, rfl⟩
  have hvframe := headRated_frame k e rest s
  have hvsettle := headRated_settle k e rest s
  have hvline := headRated_lineOf k e rest s
  have hrecord : ratedRecord s r e = w := hw.symm
  rw [hv] at hvframe hvsettle
  rw [hr, hrecord] at hvline
  rw [hr] at hvsettle
  simp only [hv] at hvline
  obtain ⟨⟨v1, v2, v3⟩, v4, v5, vsup, vrelay, vqueue, vwaiting, vacct⟩ := hvframe
  have hready (u : State) (hg : u.gate = v.gate) (ha : u.acct = v.acct) (hrelay : u.relay = v.relay) :
      u.acct.finisher ≠ .idle ∨ firstReady u = none := by
    rw [ha, vacct]
    refine hnone.imp id fun h => ?_
    rw [firstReady_congr (s := { s with acct := { s.acct with places := s.acct.places }
                                        gate := { s.gate with queue := rest } })
      (by rw [ha, vacct]) (by rw [hg, vqueue]) (by rw [hg, vwaiting]) (by rw [hrelay, vrelay])]
    exact h
  have hstill : judgeFinisher v = v := (hready v rfl rfl rfl).elim judgeFinisher_of_busy judgeFinisher_of_none
  have hvfree : ∀ e' ∈ v.gate.queue.head?, findLine v e'.account = none := by
    intro e' he'
    rw [vqueue] at he'
    have hgrant : findLine (grantState k s) e'.account = none := findLine_freedLine_none k (hfree e' he')
    rw [← hv]
    exact rateGrant_findLine_none (e := e) hgrant
  have hrating : endRating (rateGrant k e (grantState k s)) = tryRate v := by
    have htail : (rateGrant k e (grantState k s)).gate.queue.tail = rest := by
      simp [show (grantState k s).gate = s.gate from rfl, hqueue]
    rw [← hstill, ← hv, headRated, endRating, htail]
  have hcalled : noneCalled k s (tryRate v) := fun j => (fillStable_noneCalled k s).tryRate hvfree (fun j _ hj => by
    rw [hvline] at hj
    by_cases hjk : j = k
    · rw [if_pos hjk, (changedLine_spec _ _ _).2.1] at hj
      exact absurd rfl hj
    · rw [if_neg hjk] at hj
      exact ⟨hjk, hj⟩) j
  have hserve : serve grantDepth k s = tryRate v := by
    rw [show grantDepth = 255 + 1 from rfl, serve_alone (r := .rating) (w := rateGrant k e (grantState k s)) hwait hold
      (by decide) (by simp only [grantWorkOf, show (grantState k s).gate = s.gate from rfl, hqueue])]
    · exact hrating
    · have hself := hvline k
      rw [if_pos rfl] at hself
      have hsame : lineOf (rateGrant k e (grantState k s)) k = lineOf v k := by rw [← hv]; rfl
      rw [hsame, hself, (changedLine_spec _ _ _).2.1]
    · rw [show afterGrant .rating (rateGrant k e (grantState k s)) = tryRate v from hrating]
      exact hcalled
  obtain ⟨g, hg⟩ : ∃ g, serveMisses (tryRate v) = g := ⟨_, rfl⟩
  have hgrant : grantLine k s = g := by rw [grantLine, hserve, hg]
  have hgframe : SameTime v g ∧ g.pos = v.pos ∧ SamePort v g ∧ g.sup = v.sup ∧ g.relay = v.relay ∧ g.gate = v.gate ∧
      g.acct = v.acct ∧ g.settle = v.settle := by
    rw [← hg]
    simp
  obtain ⟨⟨g1, g2, g3⟩, g4, g5, gsup, grelay, ggate, gacct, gsettle⟩ := hgframe
  have hgup : g.path.upstream = [] := by rw [g5.2.1, v5.2.1, hup]
  have hend : settleEvent s (moveHead g) = tryTake (moveHead g) :=
    settleEvent_tryTake (by simp [gsup, vsup]) (by simp [grelay, vrelay])
      (hready _ (by simp [ggate]) (by simp [gacct]) (by simp [grelay]))
  have hlines {P : Nat → Line → Prop} (hP : FillStable P) (h : ∀ j, P j (lineOf v j)) (j : Nat) :
      P j (lineOf (tryTake (moveHead g)) j) := by
    have hlast := hP.serveMisses (hP.tryRate hvfree h) j
    rw [hg] at hlast
    have hsame : lineOf (moveHead g) j = lineOf g j := by simp [lineOf]
    rw [lineOf_tryTake, hsame]
    exact hlast
  refine ⟨tryTake (moveHead g), ?_, ?_, fun hmoves => ?_, fun hsame hclean => ?_, ?_, ?_⟩
  · rw [exec_lineGrant hold hwait, hgrant, portEvent_of_nil hgup, hend]
  · simp [ggate, vqueue]
  · refine (hlines (lineStable_record k w).toFillStable (fun j hj => ?_) k rfl).2
    rw [hvline, if_pos hj]
    refine ⟨changedLine_st _ hold (hmoves.imp (fun h => ?_) id), (changedLine_spec _ _ _).1⟩
    rw [hr]
    exact h.symm
  · refine (hlines (fillStable_clean k r) (fun j hj => .inl ?_) k rfl).imp And.left id
    rw [hvline, if_pos hj, changedLine, if_pos (by simp [hr, hsame])]
    exact ⟨hr, hclean⟩
  · simp [gsettle, hvsettle]
  · simp [Part.same, g1, g2, g3, g4, v1, v2, v3, v4]

end Sys2Proof.Machine
end

section
/-! Commands that their run state refuses, and records whose code names a command or none (R180, R181); the loads of a
tariff and of a partner (R114, R169, R170). -/

namespace Sys2Proof.Machine

/-! ### Refusals by run state (11, Commands by run state) -/

theorem handCommand_of_refused_stopped {r : Request} {s : State} (hrun : s.cmd.run = .stopped)
    (h : refusedIn r .stopped = true) : handCommand r s = refuse .badState s := by
  cases r <;> first | exact absurd h Bool.false_ne_true |
    simp [handCommand, doStop, doLinkEnable, doLinkReset, doLinkQuality, doLinkForce, doSettle, doOpenAccount, doGrant,
      doSuspend, doResume, doCloseAccount, accountCommand, running, hrun]

theorem handCommand_of_refused_halted {r : Request} {s : State} (hrun : s.cmd.run = .halted)
    (h : refusedIn r .halted = true) : handCommand r s = refuse .badState s := by
  cases r <;> first | exact absurd h Bool.false_ne_true |
    simp [handCommand, doConfigure, doStart, doLoadZone, doPosition, doCoverageHold, doCoverageRelease, doLoadLink,
      doLinkEnable, doLinkReset, doLinkQuality, doLinkForce, doSetSchedule, doLoadTariff, doLoadPartner, doSettle,
      doOpenAccount, doGrant, doSuspend, doResume, doCloseAccount, doFlush, accountCommand, halted, running, hrun]

/-- A command that its run state does not allow is refused before its block looks at anything else. -/
theorem handCommand_of_refused {r : Request} {s : State}
    (hrun : s.cmd.run = .stopped ∨ s.cmd.run = .running ∨ s.cmd.run = .halted) (h : refusedIn r s.cmd.run = true) :
    handCommand r s = refuse .badState s := by
  obtain hrun | hrun | hrun := hrun
  · exact handCommand_of_refused_stopped hrun (hrun ▸ h)
  · rw [hrun] at h
    cases r <;> first | exact absurd h Bool.false_ne_true | simp [handCommand, doConfigure, doStart, hrun]
  · exact handCommand_of_refused_halted hrun (hrun ▸ h)

/-- Settles O53. -/
theorem runStateRefusals : Obligations.RunStateRefusals := by
  intro n r s addr index size hf hrun hrefused
  obtain ⟨b, hb⟩ : ∃ b, commandBegun r n addr index size s = b := ⟨_, rfl⟩
  have hrunb : b.cmd.run = s.cmd.run := by simp [← hb]
  have hhand : handCommand r b = refuse .badState b :=
    handCommand_of_refused (by rw [hrunb]; exact hrun) (by rw [hrunb]; exact hrefused)
  obtain ⟨hexec, hdone, -⟩ := exec_ringRow_completes hf (by rw [hb]; exact hhand) (by simp [← hb]) (by simp [← hb])
  refine ⟨_, refuse .badState b, hexec, rfl, by simp [hrunb], hdone, ?_⟩
  simp [notEngine, Part.same, ← hb]

/-! ### The command that a record's code names (R181) -/

theorem requestCode_of_requestOf {record : List Byte} {r : Request} (h : requestOf record = some r) :
    requestCode r = field record 0 1 := by
  simp only [requestOf] at h
  split at h
  all_goals simp only [Option.some.injEq, reduceCtorEq] at h
  all_goals
    subst h
    exact Eq.symm ‹_›

theorem exec_commandFetchDone (record : Vector Byte 128) (s : State) :
    exec (.commandFetchDone record) s = .next (recordFetched record.toList s) := rfl

/-- The record fetched has become the command in progress; its code names no command. -/
def codeFetched (code : Nat) (notify : Bool) (addr index size : Nat) (s : State) : State :=
  { answered s with cmd := { (answered s).cmd with
      fetching := none
      job := some { request := none, code := code, notify := notify, addr := addr, index := index, size := size,
                    done := none } } }

theorem commandFetched_none {s : State} {addr index size : Nat} (h : fetchReturns s addr index size) (code : Nat)
    (notify : Bool) :
    commandFetched none code notify s = settleEvent s (refuse .badCode (codeFetched code notify addr index size s)) := by
  simp [commandFetched, beginJob_eq h, codeFetched]

/-- Settles O54. -/
theorem fetchedRecordIsItsCommand : Obligations.FetchedRecordIsItsCommand := by
  intro record s addr index size hf
  refine ⟨fun r hr => ⟨_, exec_commandFetchDone record s, ?_, ?_⟩, fun hnone => ⟨_, exec_commandFetchDone record s, ?_⟩⟩
  · have hrow : ∀ notify, exec (ringRow notify r) s = .next (commandFetched (some r) (requestCode r) notify s) := by
      intro notify
      cases r <;> rfl
    rw [hrow, recordFetched, hr, requestCode_of_requestOf hr]
  · exact (after_keeps (.commandFetchDone record) s).2 .clock (by simp [keptBy])
  · obtain ⟨code, hcode⟩ : ∃ code, field record.toList 0 1 = code := ⟨_, rfl⟩
    obtain ⟨notify, hnotify⟩ : ∃ notify, (field record.toList 1 1 % 2 == 1) = notify := ⟨_, rfl⟩
    rw [recordFetched, hnone, hcode, hnotify, commandFetched_none hf]
    refine (complete_completed (s := codeFetched code notify addr index size s) rfl rfl _ _).mono
      (settleEvent_grows _ (grows.refl _)) (by simp)

/-! ### Loaded tariffs and partners (R114, R169, R170) -/

theorem handCommand_loadTariff {p : LoadTariffParams} {s : State} (hrun : s.cmd.run ≠ .halted) (hregion : p.region.toNat ≤ 7)
    (hlo : 1 ≤ p.cls.toNat) (hhi : p.cls.toNat ≤ 3) :
    handCommand (.loadTariff p) s = complete .ok
      ([(1, yesNo (look s.rate.tariffs (tariffKey p.region.toNat p.cls.toNat)).isSome),
        (1, (loadTariff p.region.toNat p.cls.toNat (adoptedTariff p) s).rate.loaded)] ++
        (adoptedTariff p).mults.map (fun m => (2, m)) ++
        [(4, (adoptedTariff p).block), (4, (adoptedTariff p).upPrice), (4, (adoptedTariff p).downPrice)]) []
      (loadTariff p.region.toNat p.cls.toNat (adoptedTariff p) s) := by
  have hknown : knownClass p.cls.toNat = true := by
    simp only [knownClass, clsRoamer, clsPack, clsCrew, Bool.or_eq_true, beq_iff_eq]
    omega
  have hgood : ¬ (7 < p.region.toNat ∨ knownClass p.cls.toNat = false) := by simp [hknown]; omega
  have hgoes : ¬ halted s = true := by simpa [halted] using hrun
  simp only [handCommand, doLoadTariff, if_neg hgoes, if_neg hgood]

theorem adoptedTariff_eq (p : LoadTariffParams) : adoptedTariff p =
    { block := min 16777216 (max 1 p.block.toNat), upPrice := min 1000000 p.upPrice.toNat
      downPrice := min 1000000 p.downPrice.toNat, mults := p.mults.toList.map fun m => min 1023 m.toNat } := rfl

theorem loadTariff_spec (n : Bool) (p : LoadTariffParams) (s : State) (addr index size : Nat)
    (hf : fetchReturns s addr index size) (hrun : s.cmd.run ≠ .halted) (hregion : p.region.toNat ≤ 7)
    (hlo : 1 ≤ p.cls.toNat) (hhi : p.cls.toNat ≤ 3) :
     ∃ t k, exec (.loadTariff n p) s = .next t ∧
       k = { block := min 16777216 (max 1 p.block.toNat), upPrice := min 1000000 p.upPrice.toNat
             downPrice := min 1000000 p.downPrice.toNat
             mults := p.mults.toList.map fun m => min 1023 m.toNat : Tariff } ∧
       (∀ i, look t.rate.tariffs i =
         if i = 3 * p.region.toNat + (p.cls.toNat - 1) then some k else look s.rate.tariffs i) ∧
       t.rate.loaded = s.rate.loaded +
         (if look s.rate.tariffs (3 * p.region.toNat + (p.cls.toNat - 1)) = none then 1 else 0) ∧
       t.rate.requested = s.rate.requested ∧
       completed t addr (completion .ok
         ([(1, yesNo (look s.rate.tariffs (3 * p.region.toNat + (p.cls.toNat - 1))).isSome), (1, t.rate.loaded)] ++
           k.mults.map (fun m => (2, m)) ++ [(4, k.block), (4, k.upPrice), (4, k.downPrice)]) s.clock) ∧
       keeps [.clock, .settings, .position, .coverage, .capture, .settlement] s t := by
  obtain ⟨b, hb⟩ : ∃ b, commandBegun (.loadTariff p) n addr index size s = b := ⟨_, rfl⟩
  have hrunb : b.cmd.run = s.cmd.run := by simp [← hb]
  have hrate : b.rate = s.rate := by simp [← hb]
  obtain ⟨t, hexec, -, -, -, htrate, -, hdone, hkeeps⟩ := exec_ringRow_moves hf
    (by rw [hb]; exact handCommand_loadTariff (by rw [hrunb]; exact hrun) hregion hlo hhi)
    (by simp [← hb]) (by simp [← hb])
  rw [← htrate, hrate] at hdone
  refine ⟨t, adoptedTariff p, hexec, rfl, fun i => ?_, ?_, ?_, hdone, hkeeps⟩
  · rw [htrate]
    simp [loadTariff, hrate, tariffKey]
  · rw [htrate]
    cases h : look s.rate.tariffs (3 * p.region.toNat + (p.cls.toNat - 1)) <;> simp [loadTariff, hrate, tariffKey, h]
  · rw [htrate]
    exact (congrArg RatingEngine.requested hrate : b.rate.requested = s.rate.requested)

/-- The partner's record and its admitted flag as LOAD_PARTNER leaves them (R169, R170). -/
def partnerLoaded (k : Nat) (r : Partner) (s : State) : State :=
  recomputeFlag 2 k { s with settle := { s.settle with partners := put s.settle.partners k (some r) } }

theorem handCommand_loadPartner {p : LoadPartnerParams} {s : State} (hrun : s.cmd.run ≠ .halted)
    (hpartner : p.partner.toNat ≤ 63) (hstate : p.state.toNat = 1 ∨ p.state.toNat = 2) :
    ∃ v, v = partnerLoaded p.partner.toNat
        { enabled := decide (p.state.toNat = 1), mask := p.mask, ceiling := min max48 p.ceiling.toNat } s ∧
      handCommand (.loadPartner p) s = complete .ok
        [(1, yesNo (look s.settle.partners p.partner.toNat).isSome), (1, yesNo (look v.settle.admitted p.partner.toNat)),
         (8, min max48 p.ceiling.toNat)] [] v := by
  have hnamed : partnerState p.state.toNat = some (decide (p.state.toNat = 1)) := by
    obtain h | h := hstate <;> rw [h] <;> rfl
  have hgood : ¬ 63 < p.partner.toNat := by omega
  have hgoes : ¬ halted s = true := by simpa [halted] using hrun
  refine ⟨_, rfl, ?_⟩
  simp only [handCommand, doLoadPartner, if_neg hgoes, hnamed, if_neg hgood]
  rfl

/-- Recomputing one flag gives it its value and leaves the others. -/
theorem recomputeFlag_admitted (cause k : Nat) (s : State) (i : Nat) :
    look (recomputeFlag cause k s).settle.admitted i = if i = k then flagFor s k else look s.settle.admitted i := by
  unfold recomputeFlag
  dsimp only
  by_cases hsame : look s.settle.admitted k = flagFor s k
  · rw [if_pos hsame]
    by_cases hi : i = k <;> simp [hi, hsame]
  · rw [if_neg hsame]
    simp

/-- Settles O43. -/
theorem tariffsAndPartnersLoad : Obligations.TariffsAndPartnersLoad := by
  refine ⟨loadTariff_spec, fun n p s addr index size hf hrun hpartner hstate => ?_⟩
  obtain ⟨b, hb⟩ : ∃ b, commandBegun (.loadPartner p) n addr index size s = b := ⟨_, rfl⟩
  have hrunb : b.cmd.run = s.cmd.run := by simp [← hb]
  have hsettle : b.settle = s.settle := by simp [← hb]
  obtain ⟨v, hv, hhand⟩ := handCommand_loadPartner (s := b) (by rw [hrunb]; exact hrun) hpartner hstate
  have hvframe : v.cmd = b.cmd ∧ v.clock = b.clock ∧ v.settle.region = b.settle.region ∧
      v.settle.accums = b.settle.accums ∧ v.settle.partners = put b.settle.partners p.partner.toNat
        (some { enabled := decide (p.state.toNat = 1), mask := p.mask, ceiling := min max48 p.ceiling.toNat }) := by
    simp [hv, partnerLoaded]
  obtain ⟨hcmd, hclock, hregion, haccums, hpartners⟩ := hvframe
  obtain ⟨t, hexec, -, -, -, -, htsettle, hdone, hkeeps⟩ := exec_ringRow_moves hf (by rw [hb]; exact hhand)
    (by rw [hcmd, ← hb]; simp) (by rw [hclock, ← hb]; simp)
  rw [← htsettle, hsettle] at hdone
  refine ⟨t, _, hexec, rfl, fun i => ?_, fun i => ?_, ?_, ?_, hdone, hkeeps⟩
  · rw [htsettle, hpartners, hsettle]
    simp
  · rw [htsettle, hv, partnerLoaded, recomputeFlag_admitted]
    cases hin : s.settle.region <;> simp [flagFor, hsettle, hin]
  · rw [htsettle, hregion, hsettle]
  · rw [htsettle, haccums, hsettle]

end Sys2Proof.Machine
end

section
/-! Reports: a placed report is on its way and stays so (R185), the event reports and the billing reports that wait, and the
walk of a SETTLE (R173 to R175). -/

namespace Sys2Proof.Machine

/-! ### A report stays on its way (R185) -/

/-- A report that is on its way in the one state is so in the other. -/
def reportsStay (s t : State) : Prop :=
  ∀ addr bytes a v, recordComing addr bytes a v s → recordComing addr bytes a v t

theorem reportsStay.refl (s : State) : reportsStay s s := fun _ _ _ _ h => h

theorem reportsStay.trans {s t u : State} (h : reportsStay s t) (h' : reportsStay t u) : reportsStay s u :=
  fun _ _ _ _ hs => h' _ _ _ _ (h _ _ _ _ hs)

theorem reportsStay_of_grows {s t : State} (hp : t.rep.pend = s.rep.pend) (hg : grows s.path t.path) : reportsStay s t :=
  fun _ _ _ _ h => h.mono hp hg

@[simp] theorem pumpReports_dropped (n : Nat) (s : State) : (pumpReports n s).rep.dropped = s.rep.dropped := by
  refine pumpReports_keeps (P := fun t => t.rep.dropped = s.rep.dropped) ?_ ?_ ?_ n rfl
  · intro w t _ h
    simpa using h
  · intro t p rest addr bytes _ _ _ h
    simpa using h
  · intro t p rest _ _ h
    simpa using h

/-- The Report Writer with a report at its producer position, before its pending writes run (R185). -/
def reportPending (r : Report) (base size : Nat) (s : State) : State :=
  { s with rep := { s.rep with
      producer := (s.rep.producer + 1) % size
      dropped := 0
      pend := s.rep.pend ++
        [{ record := some (base + 64 * s.rep.producer, reportBytes r s.rep.dropped), wordAddr := producerAddr s,
           value := (s.rep.producer + 1) % size, recordIn := false }] } }

theorem placeReport_of_ring {s : State} {base size : Nat} (h : repRing s = some (base, size)) (r : Report) :
    placeReport r s = runReports (reportPending r base size s) := by
  simp [placeReport, h, reportPending]

theorem placeReport_of_none {s : State} (h : repRing s = none) (r : Report) : placeReport r s = s := by
  simp [placeReport, h]

/-- The producer position advances and the dropped count returns to 0 (R185). -/
theorem placeReport_rep {s : State} {base size : Nat} (h : repRing s = some (base, size)) (r : Report) :
    (placeReport r s).rep.producer = (s.rep.producer + 1) % size ∧ (placeReport r s).rep.dropped = 0 := by
  rw [placeReport_of_ring h, runReports]
  simp [reportPending]

theorem placeReport_placed (r : Report) (s : State) : placedReport s (placeReport r s) r := by
  intro base size h
  have hcoming : recordComing (base + 64 * s.rep.producer) (reportBytes r s.rep.dropped) (producerAddr s)
      ((s.rep.producer + 1) % size) (placeReport r s) := by
    rw [placeReport_of_ring h, runReports]
    exact pumpReports_recordComing _ (.inl ⟨_, List.mem_append_right _ (List.mem_singleton.2 rfl), rfl, rfl, rfl, rfl⟩)
  have haddr : producerAddr (placeReport r s) = producerAddr s := producerAddr_congr (by simp)
  rw [← haddr] at hcoming
  exact hcoming

theorem placedReport.mono {s t u : State} {r : Report} (h : placedReport s t r) (hstay : reportsStay t u)
    (hsel : u.path.baseSel = t.path.baseSel) : placedReport s u r := by
  intro base size hring
  have hcoming := hstay _ _ _ _ (h base size hring)
  rw [← producerAddr_congr hsel] at hcoming
  exact hcoming

/-- Another report placed leaves those on their way on their way. -/
theorem placeReport_stay (r : Report) (s : State) : reportsStay s (placeReport r s) := by
  cases hring : repRing s with
  | none => exact (placeReport_of_none hring r).symm ▸ reportsStay.refl s
  | some g =>
    intro addr bytes a v h
    rw [placeReport_of_ring hring, runReports]
    refine pumpReports_recordComing _ ?_
    obtain ⟨p, hp, hrest⟩ | ⟨hplaced, ⟨p, hp, hword⟩ | hword⟩ := h
    · exact .inl ⟨p, List.mem_append_left _ hp, hrest⟩
    · exact .inr ⟨hplaced, .inl ⟨p, List.mem_append_left _ hp, hword⟩⟩
    · exact .inr ⟨hplaced, .inr hword⟩

theorem offerEvent_stay (r : Report) (s : State) : reportsStay s (offerEvent r s) := by
  unfold offerEvent
  split
  · exact placeReport_stay r s
  · exact reportsStay_of_grows rfl (grows.refl _)

theorem placeWrite_stay {s u : State} (w : OwnWrite) (hrep : u.rep = s.rep) (hpath : u.path = s.path) :
    reportsStay s (placeWrite w u) :=
  reportsStay_of_grows (by simp [hrep]) (placeWrite_grows w (hpath ▸ grows.refl _))

theorem finishJob_stay (s : State) : reportsStay s (finishJob s) := by
  have hend (u : State) : reportsStay u (tryFetch (applyLatches u)) :=
    reportsStay_of_grows (by simp) (tryFetch_grows (applyLatches_grows (grows.refl _)))
  cases hjob : s.cmd.job with
  | none =>
    have hidle : finishJob s = s := by simp [finishJob, hjob]
    exact hidle.symm ▸ reportsStay.refl s
  | some j =>
    simp only [finishJob, hjob]
    refine reportsStay.trans ?_ (hend _)
    split
    · exact offerEvent_stay _ { s with cmd := { s.cmd with job := none } }
    · exact reportsStay.refl s

theorem writeConsumer_stay (s : State) : reportsStay s (writeConsumer s) := by
  cases hjob : s.cmd.job with
  | none =>
    have hidle : writeConsumer s = s := by simp [writeConsumer, hjob]
    exact hidle.symm ▸ reportsStay.refl s
  | some j =>
    simp only [writeConsumer, hjob]
    split
    · refine reportsStay.trans ?_ (finishJob_stay _)
      exact placeWrite_stay _ rfl rfl
    · exact placeWrite_stay _ rfl rfl

theorem writeStatus_stay (s : State) : reportsStay s (writeStatus s) := by
  cases hjob : s.cmd.job with
  | none =>
    have hidle : writeStatus s = s := by simp [writeStatus, hjob]
    exact hidle.symm ▸ reportsStay.refl s
  | some j =>
    simp only [writeStatus, hjob]
    split
    · refine reportsStay.trans ?_ (writeConsumer_stay _)
      exact placeWrite_stay _ rfl rfl
    · exact placeWrite_stay _ rfl rfl

theorem complete_stay (st : Status) (vals : List (Nat × Nat)) (rewrites : List (Nat × Nat × Nat)) (s : State) :
    reportsStay s (complete st vals rewrites s) := by
  cases hjob : s.cmd.job with
  | none =>
    have hidle : complete st vals rewrites s = s := by simp [complete, hjob]
    exact hidle.symm ▸ reportsStay.refl s
  | some j =>
    simp only [complete, hjob]
    split
    · exact reportsStay.refl s
    · split
      · refine reportsStay.trans ?_ (writeStatus_stay _)
        exact placeWrite_stay _ rfl rfl
      · exact placeWrite_stay _ rfl rfl

/-! ### Event reports and the finisher's report (R185, R147) -/

theorem repRoom_of_ring {s : State} {base size v : Nat} (hring : repRing s = some (base, size)) (hview : s.rep.view = some v) :
    repRoom s = ((s.rep.producer + 1) % size != v) := by
  simp [repRoom, hring, hview]

theorem event_of_place {s : State} (h : canPlace s = true) (kind cause flags : Nat) (fields : List (Nat × Nat × Nat)) :
    event kind cause flags fields s = placeReport (reportNow s kind cause flags fields) s := if_pos h

theorem event_of_noPlace {s : State} (h : canPlace s = false) (kind cause flags : Nat) (fields : List (Nat × Nat × Nat)) :
    event kind cause flags fields s = { s with rep := { s.rep with dropped := min 255 (s.rep.dropped + 1) } } :=
  if_neg (by simp [h])

/-- The finisher's report has been placed: its place leaves the list, and no other place is ready (R147 step 6). -/
def placeFinished (k : Nat) (s : State) : State :=
  { s with
    acct := { s.acct with places := s.acct.places.eraseIdx k, finisher := .idle, finishing := none }
    cmd := { s.cmd with counts := { s.cmd.counts with
      closes := s.cmd.counts.closes + (if s.cmd.stopStep = 6 then 1 else 0) } } }

theorem noneReady_congr {s t : State} {l : List Place} {q : List UsageEvent} (hwaiting : t.gate.waiting = s.gate.waiting)
    (htable : t.relay.table = s.relay.table) (h : noneReady s l q) : noneReady t l q := by
  unfold noneReady at h ⊢
  rw [← h]
  exact firstReady_congr rfl rfl hwaiting htable

theorem finishDone_of_noneReady {s : State} {k : Nat} (hfinish : s.acct.finishing = some k) (hwait : s.acct.wait = none)
    (hnone : noneReady s (s.acct.places.eraseIdx k) s.gate.queue) : finishDone s = placeFinished k s := by
  have hready : firstReady (placeFinished k s) = none := (firstReady_congr rfl rfl rfl rfl).trans hnone
  have hstep : finishDone s = judgeFinisher (placeFinished k s) := by
    simp only [finishDone, hfinish, setAcct, hwait, placeFinished]
  rw [hstep, judgeFinisher_of_none hready]

theorem calledLines_of_lines {s t : State} (h : t.cache.lines = s.cache.lines) : calledLines none s t = [] := by
  rw [← calledLines_self s, calledLines, calledLines, h]
  simp [lineOf, h]

theorem placeWaitersLoop_of_room {s : State} {b : Billing} {rest : List Billing} (n : Nat)
    (h : s.rep.waiters = b :: rest) (hroom : repRoom s = true) :
    placeWaitersLoop (n + 1) s = placeWaitersLoop n (placeWaiter b { s with rep := { s.rep with waiters := rest } }) := by
  simp only [placeWaitersLoop, h, hroom, if_true]

theorem placeWaiters_finish {s u : State} {r : Report} {k : Nat} (hwaiters : s.rep.waiters = [.finish r])
    (hroom : repRoom s = true) (hrun : s.cmd.run = .running)
    (hu : placeReport r { s with rep := { s.rep with waiters := [] } } = u)
    (hfinish : finishDone u = placeFinished k u) : placeWaiters s = placeFinished k u := by
  have hframe : u.rep.waiters = [] ∧ u.cmd = s.cmd ∧ u.cache = s.cache := by simp [← hu]
  obtain ⟨hempty, hcmd, hcache⟩ := hframe
  have hrest (n : Nat) : placeWaitersLoop n (placeFinished k u) = placeFinished k u := by
    cases n with
    | zero => rfl
    | succ n => simp [placeWaitersLoop, show (placeFinished k u).rep.waiters = [] from hempty]
  have hplaced : placeWaiter (.finish r) { s with rep := { s.rep with waiters := [] } } = placeFinished k u := by
    rw [← hfinish, ← hu]
    simp [placeWaiter, hrun]
  have hloop : placeWaitersLoop 4096 s = placeFinished k u := by
    rw [placeWaitersLoop_of_room 4095 hwaiters hroom, hplaced, hrest]
  rw [placeWaiters, hloop, grantCalled, calledLines_of_lines (t := placeFinished k u) (congrArg AccountCache.lines hcache)]
  rfl

theorem exec_billingReportPlaced (s : State) :
    exec .billingReportPlaced s = .next (settleEvent s (placeWaiters s)) := rfl

/-- Settles O59. -/
theorem reportsArePlaced : Obligations.ReportsArePlaced := by
  refine ⟨fun kind cause flags fields base size v s hring hview => ⟨fun hroom hnone => ?_, fun hfull => ?_⟩,
    fun kind cause flags fields s hclosed => ?_, fun r k base size v s hwaiters hring hview hroom hrun hfinish hwait
      hnone => ?_⟩
  · have hplace : canPlace s = true := by simp [canPlace, repRoom_of_ring hring hview, hroom, hnone]
    rw [event_of_place hplace]
    exact ⟨(placeReport_rep hring _).1, (placeReport_rep hring _).2, placeReport_placed _ _⟩
  · refine event_of_noPlace ?_ _ _ _ _
    obtain hfull | hfull := hfull <;> simp [canPlace, repRoom_of_ring hring hview, hfull]
  · refine event_of_noPlace ?_ _ _ _ _
    obtain hclosed | hclosed := hclosed <;> simp [canPlace, repRoom, hclosed]
  · obtain ⟨u, hu⟩ : ∃ u, placeReport r { s with rep := { s.rep with waiters := [] } } = u := ⟨_, rfl⟩
    have hring' : repRing { s with rep := { s.rep with waiters := [] } } = some (base, size) := hring
    have hrep := placeReport_rep hring' r
    have hplaced := placeReport_placed r { s with rep := { s.rep with waiters := [] } }
    have hframe : SameTime s u ∧ u.pos = s.pos ∧ u.cov = s.cov ∧ u.path.baseSel = s.path.baseSel ∧ u.sup = s.sup ∧
        u.relay = s.relay ∧ SameBooks s u ∧ u.rep.waiters = [] := by simp [← hu]
    obtain ⟨⟨h1, h2, h3⟩, h4, h5, hsel, hsup, hrelay, ⟨hgate, hrate, hacct, -, hsettle⟩, hempty⟩ := hframe
    rw [hu] at hrep hplaced
    have hdone : finishDone u = placeFinished k u := by
      refine finishDone_of_noneReady (by rw [hacct, hfinish]) (by rw [hacct, hwait]) ?_
      rw [hacct, hgate]
      exact noneReady_congr (by rw [hgate]) (by rw [hrelay]) hnone
    have hwork := placeWaiters_finish hwaiters
      (by rw [repRoom_of_ring hring hview]; simpa using hroom) hrun hu hdone
    have hstill := settleEvent_keeps_of_still (old := s) (s := placeFinished k u) hsup hrelay
    have hrepkept : (settleEvent s (placeFinished k u)).rep = u.rep := hstill.2 .reports (by simp)
    refine ⟨_, exec_billingReportPlaced s, ?_⟩
    rw [hwork, hrepkept]
    refine ⟨hrep.1, hrep.2, hempty, ?_, ?_, ?_⟩
    · have hplaces : (settleEvent s (placeFinished k u)).acct.places = (placeFinished k u).acct.places := by simp
      rw [hplaces, ← hacct]
      rfl
    · refine placedReport.mono (t := u) hplaced (reportsStay_of_grows (by rw [hrepkept])
        (settleEvent_grows _ (grows.refl _))) (by simp [placeFinished])
    · refine keeps.trans (t := placeFinished k u) ?_ (hstill.mono (by simp))
      simp [Part.same, placeFinished, h1, h2, h3, h4, h5, hsup, hgate, hrate, hsettle]


/-! ### The walk of a SETTLE (R173 to R176) -/

theorem placedReport_congr {s s' t : State} {r : Report} (h : s'.rep = s.rep) (hp : placedReport s' t r) :
    placedReport s t r := by
  intro base size hring
  have := hp base size ((repRing_congr (by rw [h]) (by rw [h])).trans hring)
  rwa [h] at this

theorem nextPair_le {s : State} {i pair : Nat} (h : nextPair s i = some pair) : i ≤ pair := by
  obtain ⟨⟨k, a⟩, hfind, rfl⟩ := Option.map_eq_some_iff.1 h
  have := List.find?_some hfind
  simp only [Bool.and_eq_true, decide_eq_true_eq] at this
  exact this.1.1

/-- The accumulators after the cut of a pair, and the walk past it (R173). -/
theorem cutPair_settle (w : Walk) (pair : Nat) (s : State) :
    (cutPair w pair s).settle = { s.settle with
      accums := put s.settle.accums pair
        { charge := 0, bytesUp := 0, bytesDown := 0, events := 0, saturated := false, lastCut := s.clock }
      walk := some { w with next := pair + 1, records := w.records + 1
                            charge := satAdd max64 w.charge (look s.settle.accums pair).charge } } := by
  simp [cutPair]

theorem cutPair_stay (w : Walk) (pair : Nat) (s : State) : reportsStay s (cutPair w pair s) :=
  placeReport_stay (settlementReport w pair s) s

theorem endWalk_settle (w : Walk) (s : State) : (endWalk w s).settle = { s.settle with walk := none } := by
  unfold endWalk
  dsimp only
  split
  · rfl
  · simp

theorem endWalk_stay (w : Walk) (s : State) : reportsStay s (endWalk w s) := by
  unfold endWalk
  dsimp only
  split
  · exact reportsStay.refl s
  · exact complete_stay _ _ _ { s with settle := { s.settle with walk := none } }

theorem runWalk_of_none (n : Nat) {s : State} {w : Walk} (h : s.settle.walk = some w) (hnext : nextPair s w.next = none) :
    runWalk (n + 1) s = endWalk w s := by
  simp only [runWalk, h, hnext]

theorem runWalk_of_room (n : Nat) {s : State} {w : Walk} {pair : Nat} (h : s.settle.walk = some w)
    (hnext : nextPair s w.next = some pair) (hroom : canPlace s = true) :
    runWalk (n + 1) s = runWalk n (cutPair w pair s) := by
  simp only [runWalk, h, hnext, hroom, if_true]

theorem runWalk_of_full (n : Nat) {s : State} {w : Walk} {pair : Nat} (h : s.settle.walk = some w)
    (hnext : nextPair s w.next = some pair) (hfull : canPlace s = false) :
    runWalk (n + 1) s = { s with
      settle := { s.settle with walk := some { w with next := pair } }
      rep := { s.rep with waiters := s.rep.waiters ++ [.cut] } } := by
  simp only [runWalk, h, hnext, hfull, Bool.false_eq_true, if_false]

/-- What a walk keeps as it goes on from pair `w.next`: the pairs behind it, the walk count, and the reports on their way. -/
structure WalkKeeps (next : Nat) (s t : State) : Prop where
  behind : ∀ pair, pair < next → look t.settle.accums pair = look s.settle.accums pair
  count : t.settle.walkCount = s.settle.walkCount
  reports : reportsStay s t

theorem runWalk_keeps (n : Nat) {s : State} {w : Walk} (h : s.settle.walk = some w) : WalkKeeps w.next s (runWalk n s) := by
  induction n generalizing s w with
  | zero => exact ⟨fun _ _ => rfl, rfl, reportsStay.refl s⟩
  | succ n ih =>
    cases hnext : nextPair s w.next with
    | none =>
      rw [runWalk_of_none n h hnext]
      exact ⟨fun _ _ => by rw [endWalk_settle], by rw [endWalk_settle], endWalk_stay w s⟩
    | some pair =>
      have hle := nextPair_le hnext
      by_cases hroom : canPlace s = true
      · rw [runWalk_of_room n h hnext hroom]
        have hcut := cutPair_settle w pair s
        obtain ⟨hbehind, hcount, hreports⟩ := ih (s := cutPair w pair s) (congrArg Settlement.walk hcut)
        refine ⟨fun p hp => ?_, by rw [hcount, hcut], (cutPair_stay w pair s).trans hreports⟩
        rw [hbehind p (by simp; omega), hcut]
        simp [show p ≠ pair by omega]
      · rw [runWalk_of_full n h hnext (by simpa using hroom)]
        exact ⟨fun _ _ => rfl, rfl, reportsStay_of_grows rfl (grows.refl _)⟩

/-- The walk that a SETTLE begins, before it looks at the first pair (R174). -/
def settleWalk : Walk := { stopCause := false, next := 0, records := 0, charge := 0 }

/-- A SETTLE has begun its walk. -/
def walkBegun (s : State) : State :=
  { s with settle := { s.settle with walk := some settleWalk, walkCount := s.settle.walkCount + 1 } }

theorem beginWalk_eq (s : State) : beginWalk false s = runWalk 513 (walkBegun s) := rfl

/-- With every accumulator zero the walk ends at once (R174). -/
theorem beginWalk_of_none {s : State} (h : nextPair s 0 = none) : beginWalk false s =
    complete .ok [(2, 0), (8, 0)] [] { walkBegun s with settle := { (walkBegun s).settle with walk := none } } := by
  exact runWalk_of_none 512 (s := walkBegun s) (w := settleWalk) rfl h

/-- Without room the walk waits at the first nonzero pair (R173). -/
theorem beginWalk_of_full {s : State} {pair : Nat} (h : nextPair s 0 = some pair) (hfull : canPlace s = false) :
    beginWalk false s = { walkBegun s with
      settle := { (walkBegun s).settle with walk := some { settleWalk with next := pair } }
      rep := { s.rep with waiters := s.rep.waiters ++ [.cut] } } := by
  exact runWalk_of_full 512 (s := walkBegun s) (w := settleWalk) rfl h hfull

/-- With room the first nonzero pair is cut, and the walk goes on behind it (R173). -/
theorem beginWalk_of_room {s : State} {pair : Nat} (h : nextPair s 0 = some pair) (hroom : canPlace s = true) :
    beginWalk false s = runWalk 512 (cutPair settleWalk pair (walkBegun s)) := by
  exact runWalk_of_room 512 (s := walkBegun s) (w := settleWalk) rfl h hroom

theorem beginWalk_count (s : State) : (beginWalk false s).settle.walkCount = s.settle.walkCount + 1 :=
  (runWalk_keeps 513 (s := walkBegun s) rfl).count

/-- The first nonzero pair's accumulator and its SETTLEMENT record (R173, R175). -/
theorem beginWalk_cuts {s : State} {pair : Nat} (h : nextPair s 0 = some pair) (hroom : canPlace s = true) :
    look (beginWalk false s).settle.accums pair =
        { charge := 0, bytesUp := 0, bytesDown := 0, events := 0, saturated := false, lastCut := s.clock } ∧
      placedReport s (beginWalk false s) (settlementReport settleWalk pair (walkBegun s)) := by
  have hcut := cutPair_settle settleWalk pair (walkBegun s)
  have hkeeps := runWalk_keeps 512 (s := cutPair settleWalk pair (walkBegun s)) (congrArg Settlement.walk hcut)
  rw [beginWalk_of_room h hroom]
  constructor
  · rw [hkeeps.behind pair (Nat.lt_succ_self pair), hcut]
    simp [walkBegun]
  · have hplaced := placeReport_placed (settlementReport settleWalk pair (walkBegun s)) (walkBegun s)
    exact placedReport_congr (s' := walkBegun s) rfl (placedReport.mono
      (t := cutPair settleWalk pair (walkBegun s)) hplaced hkeeps.reports (by simp))

/-- Settles O52. -/
theorem settleBeginsWalk : Obligations.SettleBeginsWalk := by
  intro n s addr index size hf hrun
  obtain ⟨b, hb⟩ : ∃ b, commandBegun .settle n addr index size s = b := ⟨_, rfl⟩
  have hframe : b.clock = s.clock ∧ b.sup = s.sup ∧ b.relay = s.relay ∧
      b.settle = s.settle ∧ b.rep = s.rep ∧ b.cmd.run = s.cmd.run ∧ b.cmd.job = some (begunJob .settle n addr index size) := by
    simp [← hb]
  obtain ⟨hclock, hsup, hrelay, hsettle, hrep, hrunb, hjob⟩ := hframe
  obtain ⟨v, hv⟩ : ∃ v, beginWalk false b = v := ⟨_, rfl⟩
  have hhand : handCommand .settle b = v := by simp [handCommand, doSettle, running, hrunb, hrun, hv]
  have hexec := exec_ringRow_of_fetchReturns hf .settle n
  rw [hb, hhand] at hexec
  have hvframe : v.sup = b.sup ∧ v.relay = b.relay := by simp [← hv]
  obtain ⟨hvsup, hvrelay⟩ := hvframe
  have hstill := settleEvent_keeps_of_still (old := s) (s := v) (hvsup.trans hsup) (hvrelay.trans hrelay)
  have htsettle : (settleEvent s v).settle = v.settle := hstill.2 .settlement (by simp)
  have htrep : (settleEvent s v).rep = v.rep := hstill.2 .reports (by simp)
  have hcmd : (settleEvent s v).cmd = v.cmd := hstill.2 .engine (by simp)
  have hgrows : grows v.path (settleEvent s v).path := settleEvent_grows _ (grows.refl _)
  have hnextb (i : Nat) : nextPair b i = nextPair s i := by rw [nextPair, nextPair, hsettle]
  have hplaceb : canPlace b = canPlace s := by
    rw [canPlace, canPlace, repRoom, repRoom, repRing, repRing, hrep]
  have hcuts {pair : Nat} (h : nextPair s 0 = some pair) (hroom : canPlace s = true) :=
    beginWalk_cuts (s := b) ((hnextb 0).trans h) (hplaceb.trans hroom)
  refine ⟨_, hexec, ?_, fun hnone => ?_, fun pair hpair hfull => ?_, fun pair hpair hroom => ?_,
    fun pair a p hpair hroom ha hp => ?_, rowFrames _ _ _ hexec⟩
  · rw [htsettle, ← hv, beginWalk_count, hsettle]
  · have hend := beginWalk_of_none ((hnextb 0).trans hnone)
    rw [hv] at hend
    have hdone : completed v addr (completion .ok [(2, 0), (8, 0)] s.clock) := by
      rw [hend, ← hclock]
      exact complete_completed (s := { walkBegun b with settle := { (walkBegun b).settle with walk := none } }) hjob rfl _ _
    refine ⟨?_, ?_, hdone.mono hgrows (congrArg CommandEngine.job hcmd)⟩
    · rw [htsettle, hend]
      simp
    · rw [htsettle, hend, ← hsettle]
      simp [walkBegun]
  · have hend := beginWalk_of_full ((hnextb 0).trans hpair) (hplaceb.trans hfull)
    rw [hv] at hend
    rw [htsettle, htrep, hend, ← hsettle, ← hrep]
    exact ⟨rfl, rfl, rfl⟩
  · rw [htsettle, ← hv, (hcuts hpair hroom).1, hclock]
  · have hplaced := (hcuts hpair hroom).2
    rw [hv] at hplaced
    have hreport : settlementReport settleWalk pair (walkBegun b) =
        reportNow s kindSettlement 1 (yesNo a.saturated + 2 * yesNo p.isNone)
          [(8, 1, pair / 8), (9, 1, pair % 8), (10, 2, (s.settle.walkCount + 1).toNat), (12, 4, a.events),
           (16, 8, a.charge), (24, 8, a.bytesUp), (32, 8, a.bytesDown), (40, 4, a.lastCut.toNat),
           (44, 1, partnerCode p)] := by
      rw [← ha, ← hp, ← hsettle, settlementReport, reportNow, reportNow, ← hclock]
      rfl
    rw [← hreport]
    exact placedReport_congr hrep (hplaced.mono (reportsStay_of_grows (by rw [htrep]) hgrows) (by simp))
end Sys2Proof.Machine
end

section
/-! A line granted to the close finisher (R147, R148, R154). -/

namespace Sys2Proof.Machine

/-- Links, selector, relay table and lists are the same: no dispatch pass starts (R81). -/
structure RelayStill (s t : State) : Prop where
  sup : t.sup = s.sup
  table : t.relay.table = s.relay.table
  waits : t.relay.waitList = s.relay.waitList
  retries : t.relay.retryList = s.relay.retryList

theorem RelayStill.quiet {s t : State} (h : RelayStill s t) : passStarts s t = false :=
  passStarts_eq_false h.sup h.table h.waits h.retries

/-- The end of an event that leaves links and relay and in which the finisher finds no place. -/
theorem settleEvent_of_still {s u : State} (h : RelayStill s u) (hnone : firstReady u = none) :
    settleEvent s u = tryTake u := by
  rw [settleEvent_of_not_passStarts h.quiet]
  refine judgeFinisher_of_none ?_
  rw [firstReady_congr (s := u) (by simp) (by simp) (by simp) (tryTake_lists u).1]
  exact hnone

/-- A line granted to its only requester, where no one else is granted a line within the event and no place becomes ready.
`n` is the state once the requester's work and what follows it are done. -/
theorem exec_lineGrant_alone {k : Fin 64} {r : Requester} {s w n g : State} (hold : holdsRecord (lineOf s k) = true)
    (hwait : (lineOf s k).waiting = [r]) (hr : r ≠ .read) (hw : grantWorkOf r k (grantState k s) = w)
    (hidle : (lineOf w k).waiting = []) (hn : afterGrant r w = n) (hcalled : noneCalled k s n) (hg : serveMisses n = g)
    (hup : g.path.upstream = []) (hstill : RelayStill s g) (hnone : firstReady g = none) :
    exec (.lineGrant k) s = .next (tryTake (moveHead g)) := by
  have hserve : serve grantDepth k s = n := by
    rw [show grantDepth = 255 + 1 from rfl, serve_alone hwait hold hr hw hidle (by rw [hn]; exact hcalled), hn]
  have hready : firstReady (moveHead g) = none := (firstReady_congr (by simp) (by simp) (by simp) (by simp)).trans hnone
  rw [exec_lineGrant hold hwait, grantLine, hserve, hg, portEvent_of_nil hup, settleEvent_of_still ?_ hready]
  exact ⟨by simp [hstill.sup], by simp [hstill.table], by simp [hstill.waits], by simp [hstill.retries]⟩

/-- The record that the finisher leaves (R147 step 4). -/
def closedRecord (r : AcctRec) (s : State) : AcctRec := { (closing s r).1 with st := acctFree }

theorem settleRoundUp_congr {s t : State} (hpos : t.pos = s.pos) (hsettle : t.settle = s.settle) (r : AcctRec)
    (charge : Nat) : (settleRoundUp r charge t).settle = (settleRoundUp r charge s).settle := by
  have hregion : currentRegion t = currentRegion s := by simp [currentRegion, published, hpos]
  unfold settleRoundUp
  rw [hregion]
  split
  · split
    · exact addAccum_congr hsettle _ _ _ _ _
    · exact hsettle
  · exact hsettle

theorem closedReport_congr {s t : State} (hclock : t.clock = s.clock) (hpos : t.pos = s.pos) (hcmd : t.cmd = s.cmd)
    (scan : Bool) (a : Nat) (p : Place) (r : AcctRec) (charge : Nat) :
    closedReport scan a p r charge t = closedReport scan a p r charge s := by
  have hregion : currentRegion t = currentRegion s := by simp [currentRegion, published, hpos]
  simp [closedReport, reportNow, hclock, hregion, hcmd]

/-- What the finish of a record leaves unchanged: all but the settlement table and its line (R147). -/
def finishKeeps (s t : State) : Prop :=
  SameTime s t ∧ t.pos = s.pos ∧ t.cov = s.cov ∧ t.path = s.path ∧ t.sup = s.sup ∧ t.relay = s.relay ∧ t.gate = s.gate ∧
    t.rate = s.rate ∧ t.acct = s.acct ∧ t.cache.misses = s.cache.misses ∧ t.cmd = s.cmd ∧ t.rep = s.rep

/-- The finish of the record of line `k`, granted in state `s` (R147 steps 2 to 4). -/
theorem finishRecord_spec {scan : Bool} {a k : Nat} {p : Place} {r : AcctRec} {s m : State} {rep : Report}
    (hr : (lineOf s k).contents = r) (hm : finishRecord scan a k p (grantState k s) = (m, rep)) :
    finishKeeps s m ∧ m.settle = (settleRoundUp r (closing s r).2 s).settle ∧
      (∀ j, lineOf m j = if j = k then changedLine { lineOf s k with waiting := [] } (closedRecord r s) s.clock
        else lineOf s j) ∧
      rep = closedReport scan a p (closing s r).1 (closing s r).2 s := by
  have hcontents : (lineOf (grantState k s) k).contents = r := by
    rw [grantState_lineOf, freedLine_lineOf, if_pos rfl]
    exact hr
  have hwork : finishRecord scan a k p (grantState k s) =
      (changeLine k (closedRecord r s) (settleRoundUp r (closing s r).2 (grantState k s)),
        closedReport scan a p (closing s r).1 (closing s r).2 (settleRoundUp r (closing s r).2 (grantState k s))) := by
    simp only [finishRecord, hcontents]
    rfl
  rw [hwork, Prod.mk.injEq] at hm
  obtain ⟨hm, hrep⟩ := hm
  have hgrant : finishKeeps s (grantState k s) := by simp [finishKeeps, grantState, freedLine]
  have hkeeps : finishKeeps s m := by
    unfold finishKeeps at hgrant ⊢
    rw [← hm]
    simp [hgrant]
  refine ⟨hkeeps, ?_, fun j => ?_, ?_⟩
  · have hround := settleRoundUp_congr (s := s) (t := grantState k s) rfl rfl r (closing s r).2
    simp [← hm, hround]
  · have hlines (i) : lineOf (settleRoundUp r (closing s r).2 (grantState k s)) i =
        if i = k then { lineOf s k with waiting := [] } else lineOf s i := by
      rw [← freedLine_lineOf, ← grantState_lineOf]
      simp [lineOf]
    rw [← hm, lineOf_changeLine, hlines, hlines, if_pos rfl]
    by_cases hj : j = k
    · simp [hj, grantState, freedLine]
    · simp [hj]
  · rw [← hrep]
    exact closedReport_congr (by simp [grantState, freedLine]) (by simp [grantState, freedLine])
      (by simp [grantState, freedLine]) _ _ _ _ _

theorem canPlace_congr {s t : State} (h : t.rep = s.rep) : canPlace t = canPlace s := by
  rw [canPlace, canPlace, repRoom, repRoom, repRing, repRing, h]

/-- The finisher's work within its grant, where its report finds room (R147 steps 2 to 5). -/
theorem finisherWork_spec {k n : Nat} {p : Place} {r : AcctRec} {s q : State} (hr : (lineOf s k).contents = r)
    (hfinish : s.acct.finishing = some n) (hp : s.acct.places[n]? = some p) (hroom : canPlace s = true)
    (hq : finisherWork k (grantState k s) = q) :
    SameTime s q ∧ q.pos = s.pos ∧ q.cov = s.cov ∧ q.path.upstream = s.path.upstream ∧
      q.path.baseSel = s.path.baseSel ∧ q.sup = s.sup ∧ q.relay = s.relay ∧ q.gate = s.gate ∧ q.rate = s.rate ∧
      q.acct = { s.acct with finisher := .reporting } ∧ q.cache.misses = s.cache.misses ∧
      q.settle = (settleRoundUp r (closing s r).2 s).settle ∧ q.rep.waiters = [] ∧
      (∀ j, lineOf q j = if j = k then changedLine { lineOf s k with waiting := [] } (closedRecord r s) s.clock
        else lineOf s j) ∧
      placedReport s q (closedReport false p.account p (closing s r).1 (closing s r).2 s) := by
  obtain ⟨⟨m, rep⟩, hm⟩ : ∃ f, finishRecord false p.account k p (grantState k s) = f := ⟨_, rfl⟩
  obtain ⟨hkeeps, hsettle, hlines, hrep⟩ := finishRecord_spec hr hm
  obtain ⟨⟨h1, h2, h3⟩, h4, h5, hpath, h6, h7, h8, h9, hacct, hmisses, -, hout⟩ := hkeeps
  have hplace : canPlace m = true := (canPlace_congr hout).trans hroom
  have hwork : setAcct { (placeReport rep m).acct with finisher := .reporting } (placeReport rep m) = q := by
    have hfinish' : (grantState k s).acct.finishing = some n := hfinish
    have hp' : (grantState k s).acct.places.getD n default = p := by
      rw [List.getD_eq_getElem?_getD, show (grantState k s).acct.places = s.acct.places from rfl, hp]
      rfl
    rw [← hq]
    simp only [finisherWork, hfinish', hp', hm, offerBilling, hplace, if_true]
  have hwaiters : s.rep.waiters = [] := by simpa [canPlace] using (Bool.and_eq_true_iff.mp hroom).2
  have hplaced := placedReport_congr hout (placeReport_placed rep m)
  rw [hrep] at hplaced
  refine ⟨by simp [← hwork, h1, h2, h3], by simp [← hwork, h4], by simp [← hwork, h5], by simp [← hwork, hpath],
    by simp [← hwork, hpath], by simp [← hwork, h6], by simp [← hwork, h7], by simp [← hwork, h8], by simp [← hwork, h9],
    by simp [← hwork, hacct], by simp [← hwork, hmisses], by simp [← hwork, hsettle], by simp [← hwork, hout, hwaiters],
    fun j => ?_, ?_⟩
  · rw [← hlines, ← hwork]
    simp [lineOf]
  · rw [← hwork, hrep]
    exact hplaced.mono (reportsStay.refl _) rfl


/-- The close finisher's grant of a line, where no other requester follows within the event (R147, R148). -/
theorem lineGrant_finishes (k : Fin 64) (n : Nat) (p : Place) (r : AcctRec) (s : State)
    (hold : holdsRecord (lineOf s k) = true) (hwait : (lineOf s k).waiting = [.finisher])
    (hr : (lineOf s k).contents = r) (hfinish : s.acct.finishing = some n) (hp : s.acct.places[n]? = some p)
    (hroom : canPlace s = true) (hcommand : s.acct.wait = none) (hmisses : s.cache.misses = [])
    (hnone : noneReady s (s.acct.places.eraseIdx n) s.gate.queue) (hup : s.path.upstream = []) :
    ∃ t, exec (.lineGrant k) s = .next t ∧ (lineOf t k).contents = { (closing s r).1 with st := acctFree } ∧
      t.acct.places = s.acct.places.eraseIdx n ∧ t.acct.finisher = .idle ∧ t.acct.finishing = none ∧
      t.settle = (settleRoundUp r (closing s r).2 s).settle ∧
      placedReport s t (closedReport false p.account p (closing s r).1 (closing s r).2 s) ∧
      keeps [.clock, .settings, .position, .coverage, .capture, .rating] s t := by
  obtain ⟨q, hq⟩ : ∃ q, finisherWork k (grantState k s) = q := ⟨_, rfl⟩
  obtain ⟨⟨h1, h2, h3⟩, h4, h5, hqup, hqsel, hsup, hrelay, hgate, hrate, hacct, hqmisses, hsettle, hwaiters, hlines, hplaced⟩ :=
    finisherWork_spec hr hfinish hp hroom hq
  have hdone : finishDone q = placeFinished n q := by
    refine finishDone_of_noneReady (by rw [hacct]; exact hfinish) (by rw [hacct]; exact hcommand) ?_
    rw [hacct, hgate]
    exact noneReady_congr (by rw [hgate]) (by rw [hrelay]) hnone
  have hafter : afterGrant .finisher q = placeFinished n q := by
    rw [← hdone]
    simp [afterGrant, hacct, hwaiters]
  obtain ⟨u, hu⟩ : ∃ u, placeFinished n q = u := ⟨_, rfl⟩
  have hulines (j) : lineOf u j = lineOf q j := by rw [← hu]; rfl
  have hspec := changedLine_spec { lineOf s k with waiting := [] } (closedRecord r s) s.clock
  have hself : lineOf q k = changedLine { lineOf s k with waiting := [] } (closedRecord r s) s.clock := by
    rw [hlines, if_pos rfl]
  have hcalled : noneCalled k s u := fun j _ hj => by
    rw [hulines, hlines] at hj
    by_cases hjk : j = k
    · rw [if_pos hjk, hspec.2.1] at hj
      exact absurd rfl hj
    · rw [if_neg hjk] at hj
      exact ⟨hjk, hj⟩
  have hready : firstReady u = none := by
    have hu' : u.acct.places = s.acct.places.eraseIdx n ∧ u.gate = s.gate ∧ u.relay = s.relay := by
      simp [← hu, placeFinished, hacct, hgate, hrelay]
    obtain ⟨hplaces, hugate, hurelay⟩ := hu'
    rw [← hplaces, ← hugate] at hnone
    exact noneReady_congr (t := u) (by rw [hugate]) (by rw [hurelay]) hnone
  have hexec := exec_lineGrant_alone (w := q) (n := u) (g := u) hold hwait (by decide) hq
    (by rw [hself]; exact hspec.2.1) (hafter.trans hu) hcalled (serveMisses_of_nil (by rw [← hu]; exact hqmisses.trans hmisses))
    (by rw [← hu]; exact hqup.trans hup)
    (by rw [← hu]; exact ⟨hsup, by simp [placeFinished, hrelay], by simp [placeFinished, hrelay], by simp [placeFinished, hrelay]⟩)
    hready
  refine ⟨_, hexec, ?_, ?_, ?_, ?_, ?_, ?_, ?_⟩
  · have hline : lineOf (tryTake (moveHead u)) k = lineOf q k := by
      rw [lineOf_tryTake, ← hulines]
      simp [lineOf]
    rw [hline, hself, hspec.1]
    rfl
  · simp [← hu, placeFinished, hacct]
  · simp [← hu, placeFinished]
  · simp [← hu, placeFinished]
  · simp [← hu, placeFinished, hsettle]
  · refine placedReport.mono (t := q) hplaced ?_ (by simp [← hu, placeFinished])
    exact reportsStay_of_grows (by simp [← hu, placeFinished]) (tryTake_grows (moveHead_grows (by rw [← hu]; exact grows.refl _)))
  · simp [Part.same, ← hu, placeFinished, h1, h2, h3, h4, h5, hgate, hrate]
end Sys2Proof.Machine
end

section
/-! A line granted to the START scan (R149, R154, R187): the judgement of its record, and how the scan goes on. -/

namespace Sys2Proof.Machine

/-! ### The only pending miss (R153, R157) -/

theorem findLine_setLine_self {s : State} {a i : Nat} {l : Line} (h : findLine s a = none) (hl : l.account = some a)
    (hreal : l.st ≠ .invalid) : findLine (setLine i l s) a = some i := by
  have hmem : (i, l) ∈ (setLine i l s).cache.lines := by
    have hlook : look (setLine i l s).cache.lines i = l := by simp [setLine]
    rcases look_mem_or (setLine i l s).cache.lines i with hin | hdef
    · rwa [hlook] at hin
    · exact absurd (congrArg Line.st (hlook.symm.trans hdef)) hreal
  have honly : ∀ q ∈ (setLine i l s).cache.lines, (q.2.account == some a) = true → q = (i, l) := by
    rintro ⟨n, m⟩ hm ha
    simp only [findLine, Option.map_eq_none_iff, List.find?_eq_none, Prod.forall] at h
    exact (mem_setLine hm).resolve_right fun hold => h n m hold ha
  cases hfind : (setLine i l s).cache.lines.find? fun q => q.2.account == some a with
  | none => exact absurd (by simp [hl]) (List.find?_eq_none.mp hfind _ hmem)
  | some q =>
    have hq := honly q (List.mem_of_find?_eq_some hfind) (List.find?_some (p := fun q : Nat × Line => q.2.account == some a) hfind)
    rw [findLine, hfind, hq]
    rfl

/-- The scan waits for the record of account `a`: a line is being filled for it, or it is the only pending miss. -/
def scanSeeks (a : Nat) (s : State) : Prop :=
  (∃ i, findLine s a = some i ∧ (lineOf s i).st = .filling ∧ (lineOf s i).waiting = [.scan] ∧
      issued s .accountCache (recordAddr s a) 4 (.fill i) ∧ s.cache.misses = []) ∨
    findLine s a = none ∧ ∃ e, s.cache.misses = [{ account := a, requesters := [.scan], evicting := e }]

theorem beginWriteBack_misses (i : Nat) (s : State) : (beginWriteBack i s).cache.misses = s.cache.misses := by
  unfold beginWriteBack
  dsimp only
  split
  · simp [setLine]
  · rfl

theorem findLine_beginWriteBack_none {s : State} {a : Nat} (i : Nat) (h : findLine s a = none) :
    findLine (beginWriteBack i s) a = none := by
  unfold beginWriteBack
  dsimp only
  split
  · rw [findLine_congr (s := setLine i { lineOf s i with st := .writing, redirty := false } s) (by simp)]
    exact findLine_setLine_none h (account_of_findLine_none h i)
  · exact h

theorem beginEvictions_seeks {a : Nat} {s : State} {e : Option Nat} (hnone : findLine s a = none)
    (hm : s.cache.misses = [{ account := a, requesters := [.scan], evicting := e }]) : scanSeeks a (beginEvictions 1 s) := by
  unfold beginEvictions
  split
  · exact .inr ⟨hnone, e, hm⟩
  · cases hv : evictable s with
    | none => exact .inr ⟨hnone, e, hm⟩
    | some i =>
      obtain ⟨u, hu⟩ : ∃ u, beginWriteBack i
        { s with cache := { s.cache with misses := claimEviction (some i) s.cache.misses } } = u := ⟨_, rfl⟩
      have hnone' : findLine u a = none := by
        rw [← hu]
        exact findLine_beginWriteBack_none (s := { s with cache := { s.cache with misses := _ } }) i hnone
      have hm' : u.cache.misses = claimEviction (some i) s.cache.misses := by rw [← hu, beginWriteBack_misses]
      simp only [hu, beginEvictions]
      refine .inr ⟨findLine_setLine_none hnone' (account_of_findLine_none hnone' i), ?_⟩
      rw [show (setLine i { lineOf u i with evictMark := true } u).cache.misses = u.cache.misses from rfl, hm', hm]
      cases e with
      | none => exact ⟨some i, rfl⟩
      | some e => exact ⟨some e, rfl⟩

/-- Looking for a victim for the only miss fills a line for it, or leaves it pending. -/
theorem serveMisses_seeks {a : Nat} {s : State} (hrun : s.cmd.run ≠ .halted) (h : scanSeeks a s) :
    scanSeeks a (serveMisses s) := by
  rcases h with ⟨i, hfind, hst, hwait, hissued, hm⟩ | ⟨hnone, e, hm⟩
  · rw [serveMisses_of_nil hm]
    exact .inl ⟨i, hfind, hst, hwait, hissued, hm⟩
  · have hgoes : serveMisses s = seekVictims 2 s := by simp [serveMisses, hrun, hm]
    rw [hgoes]
    cases hv : victim s with
    | none =>
      simp only [seekVictims, hm, hv]
      exact beginEvictions_seeks hnone hm
    | some i =>
      simp only [seekVictims, hm, hv, claimEviction]
      refine .inl ⟨i, ?_, ?_, ?_, issueRead_issued _ _ _ _ _, rfl⟩
      · exact findLine_setLine_self (s := { s with cache := { s.cache with misses := [] } })
          (l := { (default : Line) with st := .filling, account := some a, waiting := [.scan] }) hnone rfl
          (by simp)
      all_goals simp [assignVictim, issueRead, touchLine, lineOf, setLine]

theorem requestLine_seeks {a : Nat} {s : State} (hrun : s.cmd.run ≠ .halted) (hnone : findLine s a = none)
    (hm : s.cache.misses = []) : scanSeeks a (requestLine .scan a s) := by
  have hmiss : requestLine .scan a s = serveMisses { s with cache := { s.cache with
      misses := [{ account := a, requesters := [.scan], evicting := none }] } } := by
    simp [requestLine, hnone, hm]
  rw [hmiss]
  exact serveMisses_seeks hrun (.inr ⟨hnone, none, rfl⟩)

/-- What the scan waits for depends on the cache and on the own reads. -/
theorem scanSeeks.mono {a : Nat} {s t : State} (h : scanSeeks a s) (hlines : t.cache.lines = s.cache.lines)
    (hmisses : t.cache.misses = s.cache.misses) (hcfg : t.cfg = s.cfg) (hreads : readsGrow s.path t.path) : scanSeeks a t := by
  have hline (i) : lineOf t i = lineOf s i := by rw [lineOf, lineOf, hlines]
  have haddr : recordAddr t a = recordAddr s a := by rw [recordAddr, recordAddr, hcfg]
  unfold scanSeeks
  rw [findLine_congr hlines, hmisses, haddr]
  refine h.imp (fun ⟨i, hfind, hst, hwait, hissued, hm⟩ => ?_) id
  exact ⟨i, hfind, by rw [hline, hst], by rw [hline, hwait], hissued.mono hreads, hm⟩


/-! ### How the scan goes on (R149, R187) -/

theorem covMove_stay (new : CovState) (cause : CovCause) (s : State) : reportsStay s (covMove new cause s) := by
  unfold covMove
  exact fun _ _ _ _ h => offerEvent_stay _ { s with cov := _ } _ _ _ _ h

theorem openingTest_stay (s : State) : reportsStay s (openingTest s) := by
  unfold openingTest
  split
  · dsimp only
    split
    · exact (covMove_stay .opening .allowed s).trans (covMove_stay .serving .warmed _)
    · exact covMove_stay .opening .allowed s
  · exact reportsStay.refl s

/-- The next record is asked for (R149). -/
def scanAsks (c : Scan) (s : State) : State :=
  requestLine .scan (c.next + 1) (setAcct { s.acct with scan := some { c with next := c.next + 1 } } s)

/-- The scan has ended: START completes in RUNNING, and what RUNNING allows begins (R187). -/
def scanEnds (c : Scan) (s : State) : State :=
  tryTake (openingTest (complete .ok [(2, c.scanned), (2, c.repaired), (2, c.closed)] []
    { s with acct := { s.acct with scan := none }, cmd := { s.cmd with run := .running } }))

theorem scanNext_of_more {c : Scan} {s : State} (h : s.acct.scan = some c) (hmore : c.next + 1 < s.cfg.accounts) :
    scanNext s = scanAsks c s := by
  simp only [scanNext, h, hmore, if_true]
  rfl

theorem scanNext_of_last {c : Scan} {s : State} (h : s.acct.scan = some c) (hlast : s.cfg.accounts ≤ c.next + 1)
    (hqueue : s.gate.queue = []) : scanNext s = scanEnds c s := by
  have hstep : scanNext s = tryRate (scanEnds c s) := by
    simp only [scanNext, h, if_neg (Nat.not_lt.mpr hlast)]
    rfl
  rw [hstep, tryRate_of_nil (by simp [scanEnds, hqueue])]

/-- What follows a record that the scan has dealt with, where no account waits for a line and no event is queued. -/
structure ScanGoes (c : Scan) (s t : State) : Prop where
  still : RelayStill s t
  lines : ∀ P, FillStable P → (∀ j, P j (lineOf s j)) → ∀ j, P j (lineOf t j)
  reports : reportsStay s t
  more : c.next + 1 < s.cfg.accounts → t.acct.scan = some { c with next := c.next + 1 } ∧ t.rep = s.rep ∧
    t.cmd = s.cmd ∧ scanSeeks (c.next + 1) t
  last : s.cfg.accounts ≤ c.next + 1 → t.cmd.run = .running ∧ t.acct.scan = none ∧
    ∀ j, s.cmd.job = some j → j.done = none →
      completed t j.addr (completion .ok [(2, c.scanned), (2, c.repaired), (2, c.closed)] s.clock)

theorem scanNext_goes {c : Scan} {s : State} (hscan : s.acct.scan = some c) (hrun : s.cmd.run = .starting)
    (hmisses : s.cache.misses = []) (hnone : findLine s (c.next + 1) = none) (hqueue : s.gate.queue = []) :
    ScanGoes c s (scanNext s) := by
  by_cases hmore : c.next + 1 < s.cfg.accounts
  · obtain ⟨u, hu⟩ : ∃ u, setAcct { s.acct with scan := some { c with next := c.next + 1 } } s = u := ⟨_, rfl⟩
    have hstep : scanNext s = requestLine .scan (c.next + 1) u := by rw [scanNext_of_more hscan hmore, scanAsks, hu]
    have hnoneu : findLine u (c.next + 1) = none := by rw [← hu]; exact hnone
    have hmissesu : u.cache.misses = [] := by rw [← hu]; exact hmisses
    have hseeks : scanSeeks (c.next + 1) (requestLine .scan (c.next + 1) u) :=
      requestLine_seeks (by rw [← hu]; simp [hrun]) hnoneu hmissesu
    rw [hstep]
    refine ⟨⟨by simp [← hu], by simp [← hu], by simp [← hu], by simp [← hu]⟩, fun P hP h => ?_, ?_, fun _ => ?_,
      fun hlast => absurd hmore (Nat.not_lt.mpr hlast)⟩
    · exact hP.requestLine .scan hnoneu (by rw [← hu]; exact h)
    · exact reportsStay_of_grows (by simp [← hu]) (requestLine_grows _ _ (by rw [← hu]; exact grows.refl _))
    · exact ⟨by simp [← hu], by simp [← hu], by simp [← hu], hseeks⟩
  · have hlast := Nat.not_lt.mp hmore
    obtain ⟨u, hu⟩ : ∃ u, { s with acct := { s.acct with scan := none }, cmd := { s.cmd with run := .running } } = u := ⟨_, rfl⟩
    obtain ⟨v, hv⟩ : ∃ v, complete .ok [(2, c.scanned), (2, c.repaired), (2, c.closed)] [] u = v := ⟨_, rfl⟩
    have hstep : scanNext s = tryTake (openingTest v) := by
      rw [scanNext_of_last hscan hlast hqueue, scanEnds, hu, hv]
    have hvframe : v.sup = s.sup ∧ v.relay = s.relay ∧ v.acct.scan = none ∧ v.cache = s.cache ∧ v.cmd.run = .running := by
      simp [← hv, ← hu]
    obtain ⟨hsup, hrelay, hvscan, hcache, hvrun⟩ := hvframe
    obtain ⟨htable, hwaits, hretries⟩ := tryTake_lists (openingTest v)
    rw [hstep]
    refine ⟨⟨by simp [hsup], by simp [htable, hrelay], by simp [hwaits, hrelay], by simp [hretries, hrelay]⟩,
      fun P hP h j => ?_, ?_, fun hmore' => absurd hmore' hmore, fun _ => ⟨by simp [hvrun], by simp [hvscan], fun j hj hd => ?_⟩⟩
    · have hline : lineOf (tryTake (openingTest v)) j = lineOf s j := by simp [lineOf, hcache]
      rw [hline]
      exact h j
    · have hdone : reportsStay s v := by
        rw [← hv]
        exact reportsStay.trans (reportsStay_of_grows (by rw [← hu]) (by rw [← hu]; exact grows.refl _)) (complete_stay _ _ _ u)
      exact hdone.trans ((openingTest_stay v).trans
        (reportsStay_of_grows (by simp) (tryTake_grows (grows.refl _))))
    · have hdone : completed v j.addr (completion .ok [(2, c.scanned), (2, c.repaired), (2, c.closed)] s.clock) := by
        rw [← hv, show s.clock = u.clock by rw [← hu]]
        exact complete_completed (by rw [← hu]; exact hj) hd _ _
      exact hdone.mono (tryTake_grows (openingTest_grows (grows.refl _))) (by simp)

/-! ### The judgement of a record (R149) -/

theorem scanRepair_spec {r : AcctRec} {f : Nat × Nat × AcctRec} (h : scanRepair r = some f) :
    f.2.2 ≠ r ∧ f.2.2.st ≠ acctClosing := by
  unfold scanRepair at h
  split at h
  · cases h
  · rename_i hfree
    split at h
    · cases h
      exact ⟨fun he => hfree (congrArg AcctRec.st he).symm, (by decide : acctFree ≠ acctClosing)⟩
    · split at h
      · cases h
        exact ⟨fun he => hfree (congrArg AcctRec.st he).symm, (by decide : acctFree ≠ acctClosing)⟩
      · split at h
        · cases h
          exact ⟨fun he => hfree (congrArg AcctRec.st he).symm, (by decide : acctFree ≠ acctClosing)⟩
        · split at h
          · cases h
          · rename_i hclosing
            split at h
            · rename_i hcredit
              cases h
              exact ⟨fun he => hcredit (congrArg AcctRec.credit he).symm, hclosing⟩
            · cases h

/-- The state in which the scan has repaired the record of line `k`, or found nothing to repair (R149). -/
def scanRepaired (k : Nat) (c : Scan) (r : AcctRec) (s : State) : State :=
  match scanRepair r with
  | some f => event kindFault faultRecordRepaired 0 [(8, 2, c.next), (10, 1, f.1), (11, 1, f.2.1)] (changeLine k f.2.2 s)
  | none => s

/-- The Report Writer after the RECORD_REPAIRED report that the scan forms, if it forms one. -/
def scanReport (c : Scan) (r : AcctRec) (s : State) : ReportWriter :=
  match scanRepair r with
  | some f => (event kindFault faultRecordRepaired 0 [(8, 2, c.next), (10, 1, f.1), (11, 1, f.2.1)] s).rep
  | none => s.rep

theorem scanRepaired_spec (k : Nat) (c : Scan) {r : AcctRec} {s x : State} (hr : (lineOf s k).contents = r)
    (hx : scanRepaired k c r (grantState k s) = x) :
    SameTime s x ∧ x.pos = s.pos ∧ x.path.upstream = s.path.upstream ∧ x.sup = s.sup ∧ x.relay = s.relay ∧
      x.gate = s.gate ∧ x.acct = s.acct ∧ x.cache.misses = s.cache.misses ∧ x.settle = s.settle ∧ x.cmd = s.cmd ∧
      x.rep = scanReport c r s ∧
      (∀ j, lineOf x j = if j = k then changedLine { lineOf s k with waiting := [] } (repaired r) s.clock else lineOf s j) ∧
      ∀ a, findLine s a = none → findLine x a = none := by
  have hlines (j) : lineOf (grantState k s) j = if j = k then { lineOf s k with waiting := [] } else lineOf s j := by
    rw [grantState_lineOf, freedLine_lineOf]
  cases hfix : scanRepair r with
  | none =>
    have hstay : grantState k s = x := by rw [← hx, scanRepaired, hfix]
    have hsame : repaired r = r := by rw [repaired, hfix]; rfl
    rw [scanReport, hfix, ← hstay]
    refine ⟨⟨rfl, rfl, rfl⟩, rfl, rfl, rfl, rfl, rfl, rfl, rfl, rfl, rfl, rfl, fun j => ?_, fun a h =>
      findLine_freedLine_none k h⟩
    rw [hlines, hsame, changedLine, if_pos hr]
  | some f =>
    have hevent : event kindFault faultRecordRepaired 0 [(8, 2, c.next), (10, 1, f.1), (11, 1, f.2.1)]
        (changeLine k f.2.2 (grantState k s)) = x := by rw [← hx, scanRepaired, hfix]
    have hfixed : repaired r = f.2.2 := by rw [repaired, hfix]; rfl
    have hgrant : SameTime s (grantState k s) ∧ (grantState k s).pos = s.pos ∧ (grantState k s).path = s.path ∧
        (grantState k s).sup = s.sup ∧ (grantState k s).relay = s.relay ∧ (grantState k s).gate = s.gate ∧
        (grantState k s).acct = s.acct ∧ (grantState k s).cache.misses = s.cache.misses ∧
        (grantState k s).settle = s.settle ∧ (grantState k s).cmd = s.cmd ∧ (grantState k s).rep = s.rep :=
      ⟨⟨rfl, rfl, rfl⟩, rfl, rfl, rfl, rfl, rfl, rfl, rfl, rfl, rfl, rfl⟩
    obtain ⟨⟨h1, h2, h3⟩, h4, hpath, h5, h6, h7, h8, h9, h10, h11, hrep⟩ := hgrant
    have hout : SameOutput s (changeLine k f.2.2 (grantState k s)) :=
      ⟨by simp [h2], by simp [hrep], by simp [hpath], by simp [hpath], by simp [hpath], by simp [hpath]⟩
    rw [scanReport, hfix, ← hevent]
    refine ⟨by simp [h1, h2, h3], by simp [h4], by simp [hpath], by simp [h5], by simp [h6], by simp [h7], by simp [h8],
      by simp [h9], by simp [h10], by simp [h11], (hout.event _ _ _ _).rep, fun j => ?_, fun a h => ?_⟩
    · have hline : lineOf (event kindFault faultRecordRepaired 0 [(8, 2, c.next), (10, 1, f.1), (11, 1, f.2.1)]
          (changeLine k f.2.2 (grantState k s))) j = lineOf (changeLine k f.2.2 (grantState k s)) j := by simp [lineOf]
      rw [hline, lineOf_changeLine, hlines, hlines, if_pos rfl, hfixed, h2]
      by_cases hj : j = k <;> simp [hj]
    · rw [findLine_congr (s := changeLine k f.2.2 (grantState k s)) (by simp)]
      exact findLine_changeLine_none (findLine_freedLine_none k h)

/-- The judgement of a record once it has been repaired where that was called for (R149). -/
def scanOutcome (i : Nat) (c : Scan) (s : State) : State :=
  let r := (lineOf s i).contents
  if r.st = acctClosing then
    let p : Place := { account := c.next, incarnation := r.incarnation, closeTime := s.clock, expired := false, detached := 0 }
    let f := finishRecord true c.next i p s
    offerBilling .scan f.2
      (setAcct { f.1.acct with scan := some { c with closed := c.closed + 1, reporting := !canPlace f.1 } } f.1)
  else
    let s := setAcct { s.acct with scan := some c } s
    if r.st = acctOpen ∨ r.st = acctSuspended then setGate c.next (gateOfRecord r) s else s

theorem scanWork_eq {k : Nat} {c : Scan} {r : AcctRec} {s : State} (hscan : s.acct.scan = some c)
    (hr : (lineOf s k).contents = r) : scanWork k s = scanOutcome k (scanCounted c r) (scanRepaired k c r s) := by
  cases hfix : scanRepair r with
  | none => simp only [scanWork, hscan, hr, hfix, scanOutcome, scanRepaired, scanCounted]; rfl
  | some f => simp only [scanWork, hscan, hr, hfix, scanOutcome, scanRepaired, scanCounted]; rfl

theorem scanOutcome_of_open {k : Nat} {c : Scan} {s : State} (h : (lineOf s k).contents.st ≠ acctClosing) :
    scanOutcome k c s =
      if (lineOf s k).contents.st = acctOpen ∨ (lineOf s k).contents.st = acctSuspended
      then setGate c.next (gateOfRecord (lineOf s k).contents) (setAcct { s.acct with scan := some c } s)
      else setAcct { s.acct with scan := some c } s := if_neg h

/-- What scanning a record leaves of a state: what the scan's next step asks for (R149). -/
structure ScanKeeps (s w : State) : Prop where
  time : SameTime s w
  pos : w.pos = s.pos
  upstream : w.path.upstream = s.path.upstream
  still : RelayStill s w
  queue : w.gate.queue = s.gate.queue
  places : w.acct.places = s.acct.places
  misses : w.cache.misses = s.cache.misses
  cmd : w.cmd = s.cmd
  absent : ∀ a, findLine s a = none → findLine w a = none

/-- A record that is not CLOSING, or has been repaired: its gate map entry is written (R149). -/
theorem scanWork_of_open {k : Nat} {c : Scan} {r : AcctRec} {s w : State} (hr : (lineOf s k).contents = r)
    (hscan : s.acct.scan = some c) (hst : (repaired r).st ≠ acctClosing) (hw : scanWork k (grantState k s) = w) :
    ScanKeeps s w ∧ w.acct.scan = some (scanCounted c r) ∧ w.rep = scanReport c r s ∧ w.settle = s.settle ∧
      (∀ j, lineOf w j = if j = k then changedLine { lineOf s k with waiting := [] } (repaired r) s.clock else lineOf s j) ∧
      ∀ a, look w.gate.map a =
        if a = c.next ∧ ((repaired r).st = acctOpen ∨ (repaired r).st = acctSuspended) then gateOfRecord (repaired r)
        else look s.gate.map a := by
  obtain ⟨x, hx⟩ : ∃ x, scanRepaired k c r (grantState k s) = x := ⟨_, rfl⟩
  obtain ⟨⟨h1, h2, h3⟩, h4, h5, h6, h7, h8, h9, h10, h11, h12, hrep, hlines, habsent⟩ := scanRepaired_spec k c hr hx
  have hcontents : (lineOf x k).contents = repaired r := by
    rw [hlines, if_pos rfl]
    exact (changedLine_spec _ _ _).1
  obtain ⟨v, hv⟩ : ∃ v, setAcct { x.acct with scan := some (scanCounted c r) } x = v := ⟨_, rfl⟩
  have hwork : w = if (repaired r).st = acctOpen ∨ (repaired r).st = acctSuspended
      then setGate c.next (gateOfRecord (repaired r)) v else v := by
    have hrg : (lineOf (grantState k s) k).contents = r := by
      rw [grantState_lineOf, freedLine_lineOf, if_pos rfl]
      exact hr
    rw [← hw, scanWork_eq (s := grantState k s) hscan hrg, hx, scanOutcome_of_open (by rw [hcontents]; exact hst), hcontents, hv]
    rfl
  have hvframe : SameTime s v ∧ v.pos = s.pos ∧ v.path.upstream = s.path.upstream ∧ v.sup = s.sup ∧ v.relay = s.relay ∧
      v.gate = s.gate ∧ v.acct = { s.acct with scan := some (scanCounted c r) } ∧ v.cache = x.cache ∧
      v.settle = s.settle ∧ v.cmd = s.cmd ∧ v.rep = scanReport c r s := by
    simp [← hv, h1, h2, h3, h4, h5, h6, h7, h8, h9, h11, h12, hrep]
  obtain ⟨vt, v4, v5, v6, v7, v8, v9, vcache, v11, v12, vrep⟩ := hvframe
  have hframe : w.pending = v.pending ∧ w.clock = v.clock ∧ w.cfg = v.cfg ∧ w.pos = v.pos ∧ w.path = v.path ∧
      w.sup = v.sup ∧ w.relay = v.relay ∧ w.gate.queue = v.gate.queue ∧ w.acct = v.acct ∧ w.cache = v.cache ∧
      w.settle = v.settle ∧ w.cmd = v.cmd ∧ w.rep = v.rep := by
    rw [hwork]
    split <;> exact ⟨rfl, rfl, rfl, rfl, rfl, rfl, rfl, rfl, rfl, rfl, rfl, rfl, rfl⟩
  obtain ⟨w1, w2, w3, w4, w5, w6, w7, w8, w9, w10, w11, w12, w13⟩ := hframe
  have hcache : w.cache = x.cache := w10.trans vcache
  refine ⟨⟨⟨w1.trans vt.1, w2.trans vt.2.1, w3.trans vt.2.2⟩, w4.trans v4, by rw [w5, v5],
    ⟨w6.trans v6, by rw [w7, v7], by rw [w7, v7], by rw [w7, v7]⟩, by rw [w8, v8], by rw [w9, v9], by rw [hcache, h10],
    w12.trans v12, fun a h => ?_⟩, by rw [w9, v9], w13.trans vrep, w11.trans v11, fun j => ?_, fun a => ?_⟩
  · rw [findLine_congr (s := x) (by rw [hcache])]
    exact habsent a h
  · rw [← hlines, lineOf, lineOf, hcache]
  · rw [hwork]
    by_cases hopen : (repaired r).st = acctOpen ∨ (repaired r).st = acctSuspended
    · rw [if_pos hopen, look_setGate, v8]
      simp [hopen]
    · rw [if_neg hopen, v8]
      simp [hopen]

theorem finishRecord_findLine_none {scan : Bool} {a b k : Nat} {p : Place} {s m : State} {rep : Report}
    (hm : finishRecord scan a k p (grantState k s) = (m, rep)) (h : findLine s b = none) : findLine m b = none := by
  simp only [finishRecord, Prod.mk.injEq] at hm
  rw [← hm.1]
  refine findLine_changeLine_none ?_
  rw [findLine_congr (s := grantState k s) (by simp)]
  exact findLine_freedLine_none k h

/-- The place in whose name the scan finishes a CLOSING record (R149). -/
def scanPlace (c : Scan) (r : AcctRec) (s : State) : Place :=
  { account := c.next, incarnation := r.incarnation, closeTime := s.clock, expired := false, detached := 0 }

/-- A CLOSING record with nothing to repair is finished, and its report placed or left among the waiters (R149). -/
theorem scanWork_of_closing {k : Nat} {c : Scan} {r : AcctRec} {s w : State} {rep : Report}
    (hr : (lineOf s k).contents = r) (hscan : s.acct.scan = some c) (hst : r.st = acctClosing)
    (hfix : scanRepair r = none)
    (hrep : rep = closedReport true c.next (scanPlace c r s) (closing s r).1 (closing s r).2 s) (hw : scanWork k (grantState k s) = w) :
    ScanKeeps s w ∧ w.acct.scan = some { c with scanned := c.scanned + 1, closed := c.closed + 1
                                                reporting := !canPlace s } ∧
      w.settle = (settleRoundUp r (closing s r).2 s).settle ∧ w.gate = s.gate ∧
      (∀ j, lineOf w j = if j = k then changedLine { lineOf s k with waiting := [] } (closedRecord r s) s.clock
        else lineOf s j) ∧
      (canPlace s = true → placedReport s w rep) ∧
      (canPlace s = false → w.rep.waiters = s.rep.waiters ++ [.scan rep]) := by
  have hrg : (lineOf (grantState k s) k).contents = r := by
    rw [grantState_lineOf, freedLine_lineOf, if_pos rfl]
    exact hr
  have hx : scanRepaired k c r (grantState k s) = grantState k s := by rw [scanRepaired, hfix]
  have hcounted : scanCounted c r = { c with scanned := c.scanned + 1 } := by rw [scanCounted, hfix]; rfl
  obtain ⟨p, hp⟩ : ∃ p, scanPlace c r s = p := ⟨_, rfl⟩
  obtain ⟨⟨m, rep'⟩, hm⟩ : ∃ f, finishRecord true c.next k p (grantState k s) = f := ⟨_, rfl⟩
  obtain ⟨hkeeps, hsettle, hlines, hrep'⟩ := finishRecord_spec hr hm
  obtain ⟨⟨h1, h2, h3⟩, h4, -, hpath, h6, h7, h8, -, hacct, hmisses, hcmd, hout⟩ := hkeeps
  rw [hp, ← hrep'] at hrep
  obtain ⟨v, hv⟩ : ∃ v, setAcct { s.acct with
    scan := some { c with scanned := c.scanned + 1, closed := c.closed + 1, reporting := !canPlace s } } m = v := ⟨_, rfl⟩
  have hwork : w = offerBilling .scan rep v := by
    have hplace : canPlace m = canPlace s := canPlace_congr hout
    have hclock : (grantState k s).clock = s.clock := rfl
    rw [scanPlace] at hp
    rw [← hw, scanWork_eq (s := grantState k s) hscan hrg, hx, hcounted, scanOutcome]
    simp only [hrg, hst, if_true, hclock, hp, hm, hplace, hrep, ← hv, hacct]
  have hvout : v.rep = s.rep := by rw [← hv]; exact hout
  have hvplace : canPlace v = canPlace s := canPlace_congr hvout
  have hwcache : w.cache = m.cache := by rw [hwork, ← hv]; simp
  have hwlines (j) : lineOf w j = lineOf m j := by rw [lineOf, lineOf, hwcache]
  have hstill : RelayStill s w := by
    rw [hwork, ← hv]
    exact ⟨by simp [h6], by simp [h7], by simp [h7], by simp [h7]⟩
  refine ⟨⟨?_, ?_, ?_, hstill, ?_, ?_, ?_, ?_, fun a h => ?_⟩, ?_, ?_, ?_, fun j => by rw [hwlines, hlines],
    fun hroom => ?_, fun hfull => ?_⟩
  · simp [hwork, ← hv, h1, h2, h3]
  · simp [hwork, ← hv, h4]
  · simp [hwork, ← hv, hpath]
  · simp [hwork, ← hv, h8]
  · simp [hwork, ← hv]
  · rw [hwcache, hmisses]
  · simp [hwork, ← hv, hcmd]
  · rw [findLine_congr (s := m) (by rw [hwcache])]
    exact finishRecord_findLine_none hm h
  · simp [hwork, ← hv]
  · simp [hwork, ← hv, hsettle]
  · simp [hwork, ← hv, h8]
  · rw [hwork, offerBilling, if_pos (hvplace.trans hroom)]
    exact placedReport_congr hvout (placeReport_placed rep v)
  · rw [hwork, offerBilling, if_neg (by simp [hvplace, hfull]), hvout]

/-! ### The scan's grant of a line (R149, R187) -/

theorem firstReady_of_nil {s : State} (h : s.acct.places = []) : firstReady s = none := by
  rw [firstReady, h]
  rfl

/-- The grant of a line to the scan: `w` is the state after the judgement of its record, `n` once the scan has gone on. -/
theorem exec_lineGrant_scan {k : Fin 64} {c : Scan} {s w : State} (hold : holdsRecord (lineOf s k) = true)
    (hwait : (lineOf s k).waiting = [.scan]) (hrun : s.cmd.run = .starting) (hmisses : s.cache.misses = [])
    (hnone : findLine s (c.next + 1) = none) (hplaces : s.acct.places = []) (hqueue : s.gate.queue = [])
    (hup : s.path.upstream = []) (hw : scanWork k (grantState k s) = w) (hkeeps : ScanKeeps s w)
    (hscan : w.acct.scan = some c) (hidle : (lineOf w k).waiting = []) (hothers : ∀ j : Nat, j ≠ k → lineOf w j = lineOf s j) :
    ∃ n, exec (.lineGrant k) s = .next (tryTake (moveHead (serveMisses n))) ∧ (c.reporting = true → n = w) ∧
      (c.reporting = false → ScanGoes c w n) ∧ SameTime w n ∧ n.pos = w.pos ∧ n.gate = w.gate ∧ n.settle = w.settle ∧
      n.path.baseSel = w.path.baseSel ∧ (n.cmd.run = .starting ∨ n.cmd.run = .running) ∧
      ∀ P, FillStable P → (∀ j, P j (lineOf w j)) → ∀ j, P j (lineOf n j) := by
  obtain ⟨n, hn⟩ : ∃ n, afterGrant .scan w = n := ⟨_, rfl⟩
  have hreports : c.reporting = true → n = w := fun h => by rw [← hn, afterGrant, hscan]; simp [h]
  have hgoesOn : c.reporting = false → n = scanNext w := fun h => by rw [← hn, afterGrant, hscan]; simp [h]
  have hgoes : c.reporting = false → ScanGoes c w n := fun h => by
    rw [hgoesOn h]
    exact scanNext_goes hscan (by rw [hkeeps.cmd, hrun]) (hkeeps.misses.trans hmisses) (hkeeps.absent _ hnone)
      (hkeeps.queue.trans hqueue)
  have hlines : ∀ P, FillStable P → (∀ j, P j (lineOf w j)) → ∀ j, P j (lineOf n j) := by
    cases h : c.reporting with
    | true => rw [hreports h]; exact fun _ _ => id
    | false => exact (hgoes h).lines
  have hframe : SameTime w n ∧ n.pos = w.pos ∧ n.path.upstream = w.path.upstream ∧ n.path.baseSel = w.path.baseSel ∧
      n.gate = w.gate ∧ n.acct.places = w.acct.places ∧ n.settle = w.settle := by
    cases h : c.reporting with
    | true => rw [hreports h]; simp
    | false => rw [hgoesOn h]; simp
  have hstill : RelayStill w n := by
    cases h : c.reporting with
    | true => rw [hreports h]; exact ⟨rfl, rfl, rfl, rfl⟩
    | false => exact (hgoes h).still
  have hnrun : n.cmd.run = .starting ∨ n.cmd.run = .running := by
    cases h : c.reporting with
    | true => rw [hreports h, hkeeps.cmd]; exact .inl hrun
    | false =>
      rcases Nat.lt_or_ge (c.next + 1) w.cfg.accounts with hmore | hlast
      · rw [((hgoes h).more hmore).2.2.1, hkeeps.cmd]
        exact .inl hrun
      · exact .inr ((hgoes h).last hlast).1
  obtain ⟨htime, hpos, hnup, hnsel, hgate, hnplaces, hsettle⟩ := hframe
  have hcalled : noneCalled k s n := fun j => hlines _ (fillStable_noneCalled k s) (fun i _ hi => by
    by_cases hik : i = k
    · rw [hik, hidle] at hi
      exact absurd rfl hi
    · rw [hothers i hik] at hi
      exact ⟨hik, hi⟩) j
  have hexec := exec_lineGrant_alone (w := w) hold hwait (by decide) hw hidle hn hcalled rfl
    (by simp [hnup, hkeeps.upstream, hup])
    ⟨by simp [hstill.sup, hkeeps.still.sup], by simp [hstill.table, hkeeps.still.table],
      by simp [hstill.waits, hkeeps.still.waits], by simp [hstill.retries, hkeeps.still.retries]⟩
    (firstReady_of_nil (by simp [hnplaces, hkeeps.places, hplaces]))
  exact ⟨n, hexec, hreports, hgoes, htime, hpos, hgate, hsettle, hnsel, hnrun, hlines⟩

/-- What the end of a grant leaves of what was done in it. -/
structure GrantEnds (n t : State) : Prop where
  time : SameTime n t
  pos : t.pos = n.pos
  gate : t.gate = n.gate
  acct : t.acct = n.acct
  settle : t.settle = n.settle
  cmd : t.cmd = n.cmd
  rep : t.rep = n.rep
  sel : t.path.baseSel = n.path.baseSel
  grown : grows n.path t.path
  lines : ∀ P, FillStable P → (∀ j, P j (lineOf n j)) → ∀ j, P j (lineOf t j)
  seeks : ∀ a, n.cmd.run ≠ .halted → scanSeeks a n → scanSeeks a t

theorem grantEnds (n : State) : GrantEnds n (tryTake (moveHead (serveMisses n))) := by
  refine ⟨by simp, by simp, by simp, by simp, by simp, by simp, by simp, by simp,
    tryTake_grows (moveHead_grows (serveMisses_grows (grows.refl _))), fun P hP h j => ?_, fun a hrun h => ?_⟩
  · have hline : lineOf (tryTake (moveHead (serveMisses n))) j = lineOf (serveMisses n) j := by simp [lineOf]
    rw [hline]
    exact hP.serveMisses h j
  · exact (serveMisses_seeks hrun h).mono (by simp) (by simp) (by simp)
      ((readsGrow.of_eq (moveHead_reads _)).trans (tryTake_readsGrow _))

/-- The scan's grant of a record that is not CLOSING, or has been repaired (R149, R187). -/
theorem lineGrant_scansOpen {k : Fin 64} {c : Scan} {r : AcctRec} {s : State} (hold : holdsRecord (lineOf s k) = true)
    (hwait : (lineOf s k).waiting = [.scan]) (hr : (lineOf s k).contents = r) (hrun : s.cmd.run = .starting)
    (hscan : s.acct.scan = some c) (hreporting : c.reporting = false) (hmisses : s.cache.misses = [])
    (hnone : findLine s (c.next + 1) = none) (hplaces : s.acct.places = []) (hqueue : s.gate.queue = [])
    (hup : s.path.upstream = []) (hst : (repaired r).st ≠ acctClosing) :
    ∃ t, exec (.lineGrant k) s = .next t ∧ SameTime s t ∧ t.pos = s.pos ∧
      ((scanRepair r).isSome = true → (lineOf t k).contents = repaired r) ∧
      (∀ a, look t.gate.map a =
        if a = c.next ∧ ((repaired r).st = acctOpen ∨ (repaired r).st = acctSuspended) then gateOfRecord (repaired r)
        else look s.gate.map a) ∧
      (c.next + 1 < s.cfg.accounts → t.acct.scan = some { scanCounted c r with next := c.next + 1 } ∧
        t.rep = scanReport c r s ∧ scanSeeks (c.next + 1) t) ∧
      (s.cfg.accounts ≤ c.next + 1 → t.cmd.run = .running ∧ t.acct.scan = none ∧
        ∀ j, s.cmd.job = some j → j.done = none →
          completed t j.addr (completion .ok
            [(2, (scanCounted c r).scanned), (2, (scanCounted c r).repaired), (2, c.closed)] s.clock)) := by
  obtain ⟨w, hw⟩ : ∃ w, scanWork k (grantState k s) = w := ⟨_, rfl⟩
  obtain ⟨hkeeps, hwscan, hrep, hsettle, hlines, hgate⟩ := scanWork_of_open hr hscan hst hw
  have hspec := changedLine_spec { lineOf s k with waiting := [] } (repaired r) s.clock
  obtain ⟨n, hexec, -, hgoes, hntime, hnpos, hngate, hnsettle, -, hnrun, hnlines⟩ :=
    exec_lineGrant_scan (c := scanCounted c r) hold hwait hrun hmisses hnone hplaces hqueue hup hw hkeeps hwscan
      (by rw [hlines, if_pos rfl, hspec.2.1]) (fun j hj => by rw [hlines, if_neg hj])
  replace hgoes := hgoes hreporting
  have hends := grantEnds n
  have hcfg : w.cfg = s.cfg := hkeeps.time.2.2
  refine ⟨_, hexec, ?_, ?_, fun hfix => ?_, fun a => ?_, fun hmore => ?_, fun hlast => ?_⟩
  · exact ⟨hends.time.1.trans (hntime.1.trans hkeeps.time.1), hends.time.2.1.trans (hntime.2.1.trans hkeeps.time.2.1),
      hends.time.2.2.trans (hntime.2.2.trans hkeeps.time.2.2)⟩
  · rw [hends.pos, hnpos, hkeeps.pos]
  · obtain ⟨f, hf⟩ := Option.isSome_iff_exists.mp hfix
    have hdiffers : (lineOf s k).contents ≠ repaired r := by
      rw [hr, repaired, hf]
      exact (scanRepair_spec hf).1.symm
    refine (hends.lines _ (lineStable_record k (repaired r)).toFillStable (hnlines _ (lineStable_record k (repaired r)).toFillStable
      fun j hj => ?_) k rfl).2
    rw [hlines, if_pos hj]
    exact ⟨changedLine_st _ hold (.inl hdiffers), hspec.1⟩
  · rw [hends.gate, hngate]
    exact hgate a
  · obtain ⟨hnscan, hnrep, hncmd, hseeks⟩ := hgoes.more (by rw [hcfg]; exact hmore)
    refine ⟨by rw [hends.acct, hnscan]; rfl, by rw [hends.rep, hnrep, hrep], hends.seeks _ ?_ hseeks⟩
    rcases hnrun with h | h <;> simp [h]
  · obtain ⟨hnrunning, hnscan, hdone⟩ := hgoes.last (by rw [hcfg]; exact hlast)
    refine ⟨by rw [hends.cmd, hnrunning], by rw [hends.acct, hnscan], fun j hj hd => ?_⟩
    have hcompleted := hdone j (by rw [hkeeps.cmd, hj]) hd
    rw [hkeeps.time.2.1] at hcompleted
    exact hcompleted.mono hends.grown (by rw [hends.cmd])

/-- The scan's grant of a CLOSING record with nothing to repair (R147, R149). -/
theorem lineGrant_scansClosing {k : Fin 64} {c : Scan} {r : AcctRec} {s : State} {rep : Report}
    (hold : holdsRecord (lineOf s k) = true) (hwait : (lineOf s k).waiting = [.scan]) (hr : (lineOf s k).contents = r)
    (hrun : s.cmd.run = .starting) (hscan : s.acct.scan = some c) (hmisses : s.cache.misses = [])
    (hnone : findLine s (c.next + 1) = none) (hplaces : s.acct.places = []) (hqueue : s.gate.queue = [])
    (hup : s.path.upstream = []) (hst : r.st = acctClosing) (hfix : scanRepair r = none)
    (hrep : rep = closedReport true c.next (scanPlace c r s) (closing s r).1 (closing s r).2 s) :
    ∃ t, exec (.lineGrant k) s = .next t ∧ SameTime s t ∧ t.pos = s.pos ∧ t.gate = s.gate ∧
      (lineOf t k).contents = closedRecord r s ∧ t.settle = (settleRoundUp r (closing s r).2 s).settle ∧
      (canPlace s = true → placedReport s t rep) ∧
      (canPlace s = false →
        t.acct.scan = some { c with scanned := c.scanned + 1, closed := c.closed + 1, reporting := true } ∧
        t.rep.waiters = s.rep.waiters ++ [.scan rep]) := by
  obtain ⟨w, hw⟩ : ∃ w, scanWork k (grantState k s) = w := ⟨_, rfl⟩
  obtain ⟨hkeeps, hwscan, hsettle, hgate, hlines, hplaced, hwaits⟩ := scanWork_of_closing hr hscan hst hfix hrep hw
  have hspec := changedLine_spec { lineOf s k with waiting := [] } (closedRecord r s) s.clock
  obtain ⟨n, hexec, hreports, hgoes, hntime, hnpos, hngate, hnsettle, hnsel, -, hnlines⟩ :=
    exec_lineGrant_scan (c := { c with scanned := c.scanned + 1, closed := c.closed + 1, reporting := !canPlace s })
      hold hwait hrun hmisses hnone hplaces hqueue hup hw hkeeps hwscan
      (by rw [hlines, if_pos rfl, hspec.2.1]) (fun j hj => by rw [hlines, if_neg hj])
  have hends := grantEnds n
  have hdiffers : (lineOf s k).contents ≠ closedRecord r s := fun he => by
    have hfree : r.st = acctFree := congrArg AcctRec.st (hr.symm.trans he)
    rw [hst] at hfree
    exact absurd hfree (by decide)
  refine ⟨_, hexec, ?_, ?_, ?_, ?_, ?_, fun hroom => ?_, fun hfull => ?_⟩
  · exact ⟨hends.time.1.trans (hntime.1.trans hkeeps.time.1), hends.time.2.1.trans (hntime.2.1.trans hkeeps.time.2.1),
      hends.time.2.2.trans (hntime.2.2.trans hkeeps.time.2.2)⟩
  · rw [hends.pos, hnpos, hkeeps.pos]
  · rw [hends.gate, hngate, hgate]
  · refine (hends.lines _ (lineStable_record k (closedRecord r s)).toFillStable
      (hnlines _ (lineStable_record k (closedRecord r s)).toFillStable fun j hj => ?_) k rfl).2
    rw [hlines, if_pos hj]
    exact ⟨changedLine_st _ hold (.inl hdiffers), hspec.1⟩
  · rw [hends.settle, hnsettle, hsettle]
  · have hstays := (hgoes (by simp [hroom])).reports.trans (reportsStay_of_grows (by rw [hends.rep]) hends.grown)
    exact (hplaced hroom).mono hstays (hends.sel.trans hnsel)
  · have hsame := hreports (by simp [hfull])
    rw [hends.acct, hends.rep, hsame, hwscan, hwaits hfull]
    simp [hfull]

/-- Settles O49: one theorem for each requester. -/
theorem lineGrantRatesHead : Obligations.LineGrantRatesHead := by
  refine ⟨lineGrant_rates, fun k n p r s hold hwait hr _ hfinish hp hroom _ hcommand hmisses hnone hup =>
    lineGrant_finishes k n p r s hold hwait hr hfinish hp hroom hcommand hmisses hnone hup,
    fun k c r s hold hwait hr hrun hscan hreporting hmisses hnone hplaces hqueue hup => ?_⟩
  by_cases hclosing : r.st = acctClosing ∧ scanRepair r = none
  · obtain ⟨hst, hfix⟩ := hclosing
    obtain ⟨t, hexec, htime, hpos, hgate, hline, hsettle, hplaced, hwaits⟩ :=
      lineGrant_scansClosing hold hwait hr hrun hscan hmisses hnone hplaces hqueue hup hst hfix rfl
    have hnot : ¬ (r.st ≠ acctClosing ∨ (scanRepair r).isSome = true) := by simp [hst, hfix]
    have hsame : repaired r = r := by rw [repaired, hfix]; rfl
    refine ⟨t, hexec, fun h => by simp [hfix] at h, fun a => ?_, fun h => absurd h hnot, fun h => absurd h hnot,
      fun _ _ => ⟨hline, hsettle, hplaced, hwaits⟩, htime.1, by simp [Part.same, htime.2.1, htime.2.2, hpos]⟩
    have hshut : ¬ (a = c.next ∧ ((repaired r).st = acctOpen ∨ (repaired r).st = acctSuspended)) := by
      rw [hsame, hst]
      rintro ⟨-, h | h⟩ <;> exact absurd h (by decide)
    rw [hgate, if_neg hshut]
  · have hst : (repaired r).st ≠ acctClosing := by
      cases hfix : scanRepair r with
      | none => simpa [repaired, hfix] using hclosing
      | some f =>
        rw [repaired, hfix]
        exact (scanRepair_spec hfix).2
    obtain ⟨t, hexec, htime, hpos, hline, hgate, hmore, hlast⟩ :=
      lineGrant_scansOpen hold hwait hr hrun hscan hreporting hmisses hnone hplaces hqueue hup hst
    refine ⟨t, hexec, hline, fun a => ?_, fun _ h => ?_, fun _ h => hlast h,
      fun h hfix => absurd ⟨h, Option.isNone_iff_eq_none.mp hfix⟩ hclosing, htime.1, by simp [Part.same, htime.2.1, htime.2.2, hpos]⟩
    · rw [hgate, gateOfRecord, recordOpens_eq]
    · obtain ⟨hscan', hrep, hseeks⟩ := hmore h
      refine ⟨hscan', ?_, ?_⟩
      · refine hrep.trans ?_
        unfold scanReport
        cases scanRepair r <;> rfl
      · rcases hseeks with ⟨i, hfind, hfill, hscans, hissued, -⟩ | ⟨-, e, hm⟩
        · refine .inl ⟨i, hfind, hfill, hscans, ?_⟩
          rwa [recordAddr, htime.2.2] at hissued
        · exact .inr ⟨_, by rw [hm]; exact List.mem_singleton.mpr rfl, rfl, rfl⟩

end Sys2Proof.Machine
end

section
/-! FLUSH (R164): the write-back of every DIRTY line, and the marks it waits for. -/

namespace Sys2Proof.Machine

/-! ### A change of every listed line -/

section Tables
variable {α : Type} [Inhabited α] [DecidableEq α]

theorem look_foldl_upd {f : α → α} (hidem : ∀ a, f (f a) = f a) (l : List Nat) (t : Tab α) (j : Nat) :
    look (l.foldl (fun t i => upd t i f) t) j = if j ∈ l then f (look t j) else look t j := by
  induction l generalizing t with
  | nil => simp
  | cons i l ih =>
    rw [List.foldl_cons, ih, look_upd]
    by_cases hji : j = i
    · subst hji
      by_cases hj : j ∈ l <;> simp [hj, hidem]
    · simp [hji]

/-- What a table lists under a number is what it reads there. -/
def faithfulAt (t : Tab α) (n : Nat) : Prop := ∀ a, (n, a) ∈ t → a = look t n

theorem faithfulAt_put {t : Tab α} {i n : Nat} (v : α) (h : n = i ∨ faithfulAt t n) : faithfulAt (put t i v) n := by
  intro a ha
  have hput : (n, a) = (i, v) ∨ n ≠ i ∧ (n, a) ∈ t := by
    unfold put at ha
    dsimp only at ha
    split at ha
    · simpa [and_comm] using Or.inr (a := (n, a) = (i, v)) (List.mem_filter.mp ha)
    · rw [mem_insertAt, List.mem_filter] at ha
      simpa [and_comm] using ha
  rcases hput with heq | ⟨hne, hmem⟩
  · cases heq
    simp
  · rw [look_put, if_neg hne]
    exact h.resolve_left hne a hmem

theorem faithfulAt_foldl_upd (f : α → α) (l : List Nat) {t : Tab α} {n : Nat} (h : n ∈ l ∨ faithfulAt t n) :
    faithfulAt (l.foldl (fun t i => upd t i f) t) n := by
  induction l generalizing t with
  | nil => simpa using h
  | cons i l ih =>
    refine ih ?_
    rcases h with h | h
    · rcases List.mem_cons.mp h with h | h
      · exact .inr (faithfulAt_put _ (.inl h))
      · exact .inl h
    · exact .inr (faithfulAt_put _ (.inr h))

end Tables

theorem mapLines_lineOf {f : Line → Line} (hidem : ∀ l, f (f l) = f l) (hdefault : f default = default) (s : State) (j : Nat) :
    lineOf (mapLines f s) j = f (lineOf s j) := by
  have hlook := look_foldl_upd hidem (s.cache.lines.map Prod.fst) s.cache.lines j
  refine hlook.trans ?_
  by_cases hj : j ∈ s.cache.lines.map Prod.fst
  · rw [if_pos hj]
    rfl
  · have hnot : look s.cache.lines j = default :=
      (look_mem_or s.cache.lines j).resolve_left fun h => hj (List.mem_map.mpr ⟨_, h, rfl⟩)
    rw [if_neg hj, lineOf, hnot, hdefault]

/-- After a change of every listed line, each listed entry is the line that is read. -/
theorem mapLines_faithful (f : Line → Line) (s : State) (n : Nat) : faithfulAt (mapLines f s).cache.lines n := by
  by_cases hn : n ∈ s.cache.lines.map Prod.fst
  · exact faithfulAt_foldl_upd f _ (.inl hn)
  · exact faithfulAt_foldl_upd f _ (.inr fun a ha => absurd (List.mem_map.mpr ⟨_, ha, rfl⟩) hn)

/-! ### The write-back of every DIRTY line (R160, R164) -/

/-- A line whose write-back has been begun where it was DIRTY (R160). -/
def writtenLine (l : Line) : Line :=
  if l.st = .dirty ∧ l.account ≠ none then { l with st := .writing, redirty := false } else l

theorem writtenLine_idem (l : Line) : writtenLine (writtenLine l) = writtenLine l := by
  unfold writtenLine
  split
  · exact if_neg (by simp)
  · rfl

theorem beginWriteBack_lineOf (i : Nat) (s : State) (j : Nat) :
    lineOf (beginWriteBack i s) j = if j = i then writtenLine (lineOf s i) else lineOf s j := by
  by_cases hidle : (lineOf s i).st ≠ .dirty ∨ (lineOf s i).account = none
  · have hnot : ¬ ((lineOf s i).st = .dirty ∧ (lineOf s i).account ≠ none) := by tauto
    rw [beginWriteBack_of_idle hidle, writtenLine, if_neg hnot]
    split
    · rename_i h
      rw [h]
    · rfl
  · rw [not_or, not_not] at hidle
    obtain ⟨a, ha⟩ := Option.ne_none_iff_exists'.1 hidle.2
    rw [beginWriteBack_of_dirty hidle.1 ha, placeWrite_lineOf, lineOf_setLine, writtenLine, if_pos hidle]

theorem foldl_beginWriteBack_lineOf (l : List Nat) (s : State) (j : Nat) :
    lineOf (l.foldl (fun s i => beginWriteBack i s) s) j = if j ∈ l then writtenLine (lineOf s j) else lineOf s j := by
  induction l generalizing s with
  | nil => simp
  | cons i l ih =>
    rw [List.foldl_cons, ih, beginWriteBack_lineOf]
    by_cases hji : j = i
    · subst hji
      by_cases hj : j ∈ l <;> simp [hj, writtenLine_idem]
    · simp [hji]

theorem foldl_beginWriteBack_placed {k a : Nat} {l : List Nat} {s : State} (hk : k ∈ l) (hst : (lineOf s k).st = .dirty)
    (ha : (lineOf s k).account = some a) :
    placed (l.foldl (fun s i => beginWriteBack i s) s)
      (fullWrite .accountCache (recordAddr s a) (bytesOfRec (lineOf s k).contents) (.lineBack k)) := by
  induction l generalizing s with
  | nil => simp at hk
  | cons i l ih =>
    rw [List.foldl_cons]
    by_cases hki : k = i
    · subst hki
      have hplaced : placed (beginWriteBack k s)
          (fullWrite .accountCache (recordAddr s a) (bytesOfRec (lineOf s k).contents) (.lineBack k)) := by
        rw [beginWriteBack_of_dirty hst ha]
        exact placeWrite_placed _ _
      exact hplaced.mono (grows_foldl (fun s i hg => beginWriteBack_grows i hg) _ (grows.refl _))
    · have hline : lineOf (beginWriteBack i s) k = lineOf s k := by rw [beginWriteBack_lineOf, if_neg hki]
      have haddr : recordAddr (beginWriteBack i s) a = recordAddr s a := by simp [recordAddr]
      have hrest := ih (s := beginWriteBack i s) ((List.mem_cons.mp hk).resolve_left hki) (by rw [hline, hst])
        (by rw [hline, ha])
      rwa [hline, haddr] at hrest

theorem writeBackAll_lineOf (s : State) (j : Nat) :
    lineOf (writeBackAll s) j = if j < 64 then writtenLine (lineOf s j) else lineOf s j := by
  rw [writeBackAll, foldl_beginWriteBack_lineOf]
  simp


theorem writeBackAll_placed {k a : Nat} {s : State} (hk : k < 64) (hst : (lineOf s k).st = .dirty)
    (ha : (lineOf s k).account = some a) :
    placed (writeBackAll s)
      (fullWrite .accountCache (recordAddr s a) (bytesOfRec (lineOf s k).contents) (.lineBack k)) := by
  unfold writeBackAll
  exact foldl_beginWriteBack_placed (List.mem_range.mpr hk) hst ha

/-! ### FLUSH (R164) -/

/-- A line with its flush mark set where it is WRITING (R164). -/
def markedLine (l : Line) : Line := { l with flushMark := l.flushMark || l.st == .writing }

theorem markWriting_lineOf (s : State) (j : Nat) : lineOf (markWriting s) j = markedLine (lineOf s j) :=
  mapLines_lineOf (f := markedLine) (fun l => by cases h : l.flushMark <;> simp [markedLine, h]) rfl s j

/-- No listed line carries a flush mark where no line read does. -/
theorem marked_of_none {s : State} (h : ∀ j, (markedLine (lineOf s j)).flushMark = false) : marked (markWriting s) = 0 := by
  refine List.length_eq_zero_iff.mpr (List.filter_eq_nil_iff.mpr ?_)
  rintro ⟨n, l⟩ hmem
  have hl : l = lineOf (markWriting s) n := mapLines_faithful _ s n l hmem
  simp [hl, markWriting_lineOf, h]

/-- A line that FLUSH waits for stays WRITING and marked, with its record. -/
theorem lineStable_flushed (i : Nat) (c : AcctRec) :
    LineStable fun j l => j = i → l.st = .writing ∧ l.flushMark = true ∧ l.contents = c where
  waits _ _ _ h := h
  writes _ _ hd h hj := absurd (h hj).1 (by simp [hd])
  evicts _ _ h := h
  fills _ _ _ _ hst h hj := by
    have := (h hj).1
    simp_all

/-- A FLUSH waits for the marks that are set (R164). -/
def flushWaiting (s : State) : State := { s with cache := { s.cache with flush := some (marked s) } }

theorem flushWaiting_lineOf (s : State) (j : Nat) : lineOf (flushWaiting s) j = lineOf s j := rfl

theorem flushWaiting_frame (s : State) : (flushWaiting s).clock = s.clock ∧ (flushWaiting s).path = s.path ∧
    (flushWaiting s).sup = s.sup ∧ (flushWaiting s).relay = s.relay ∧ (flushWaiting s).cmd = s.cmd ∧
    (flushWaiting s).cache.flush = some (marked (flushWaiting s)) :=
  ⟨rfl, rfl, rfl, rfl, rfl, rfl⟩

theorem marked_flushWaiting (s : State) : marked (flushWaiting s) = marked s := rfl

/-- FLUSH has begun its write-backs and set its marks (R164). -/
def flushBegun (s : State) : State := flushWaiting (markWriting (writeBackAll s))

theorem flushBegun_frame (s : State) : (flushBegun s).clock = s.clock ∧ (flushBegun s).path = (writeBackAll s).path ∧
    (flushBegun s).sup = s.sup ∧ (flushBegun s).relay = s.relay ∧ (flushBegun s).cmd = s.cmd ∧
    (flushBegun s).cache.flush = some (marked (flushBegun s)) := by
  obtain ⟨hclock, hpath, hsup, hrelay, hcmd, hflush⟩ := flushWaiting_frame (markWriting (writeBackAll s))
  unfold flushBegun
  rw [hclock, hpath, hsup, hrelay, hcmd]
  exact ⟨by simp, by simp, by simp, by simp, by simp, hflush⟩

theorem handCommand_flush {s : State} (h : s.cmd.run = .running) : handCommand .flush s = serveFlush (flushBegun s) := by
  simp [handCommand, doFlush, halted, h, flushBegun, flushWaiting]

theorem serveFlush_grows {s : State} : grows s.path (serveFlush s).path := by
  unfold serveFlush
  split
  · split
    · exact complete_grows _ _ _ (s := { s with cache := { s.cache with flush := none } }) (grows.refl _)
    · exact grows.refl _
  · exact grows.refl _

theorem serveFlush_lineOf (s : State) (j : Nat) : lineOf (serveFlush s) j = lineOf s j := by
  unfold serveFlush
  split
  · split
    · simp [lineOf]
    · rfl
  · rfl

theorem flushBegun_lineOf {s : State} {k : Nat} (hk : k < 64) :
    lineOf (flushBegun s) k = markedLine (writtenLine (lineOf s k)) := by
  rw [flushBegun, flushWaiting_lineOf, markWriting_lineOf, writeBackAll_lineOf, if_pos hk]

/-- FLUSH in RUNNING. -/
theorem flush_runs {n : Bool} {s : State} {addr index size : Nat} (hf : fetchReturns s addr index size)
    (hrun : s.cmd.run = .running) :
    ∃ t, exec (.flush n) s = .next t ∧
      (∀ k, k < 64 → (lineOf s k).account.isSome = true → (lineOf s k).st = .dirty ∨ (lineOf s k).st = .writing →
        (lineOf t k).st = .writing ∧ (lineOf t k).flushMark = true ∧ (lineOf t k).contents = (lineOf s k).contents) ∧
      (∀ k a, k < 64 → (lineOf s k).st = .dirty → (lineOf s k).account = some a →
        placed t (fullWrite .accountCache (recordAddr s a) (bytesOfRec (lineOf s k).contents) (.lineBack k))) ∧
      ((∀ k, (lineOf s k).st ≠ .dirty ∧ (lineOf s k).st ≠ .writing ∧ (lineOf s k).flushMark = false) →
        completed t addr (completion .ok [(2, 0)] s.clock)) ∧
      keeps [.clock, .settings, .position, .coverage, .capture, .rating, .settlement] s t := by
  obtain ⟨b, hb⟩ : ∃ b, commandBegun .flush n addr index size s = b := ⟨_, rfl⟩
  have hframe : b.clock = s.clock ∧ b.cfg = s.cfg ∧ b.sup = s.sup ∧ b.relay = s.relay ∧ b.cache = s.cache ∧
      b.cmd.run = s.cmd.run ∧ b.cmd.job = some (begunJob .flush n addr index size) := by simp [← hb]
  obtain ⟨hclock, hcfg, hsup, hrelay, hcache, hrunb, hjob⟩ := hframe
  have hline (j) : lineOf b j = lineOf s j := by rw [lineOf, lineOf, hcache]
  obtain ⟨u, hu⟩ : ∃ u, flushBegun b = u := ⟨_, rfl⟩
  have huframe := flushBegun_frame b
  rw [hu] at huframe
  obtain ⟨huclock, hupath, husup, hurelay, hucmd, huflush⟩ := huframe
  have hexec := exec_ringRow_of_fetchReturns hf .flush n
  rw [hb, handCommand_flush (hrunb.trans hrun), hu] at hexec
  have hquiet : passStarts s (serveFlush u) = false := by
    exact passStarts_eq_false (by simp [husup, hsup]) (by simp [hurelay, hrelay]) (by simp [hurelay, hrelay])
      (by simp [hurelay, hrelay])
  have hgrows : grows u.path (settleEvent s (serveFlush u)).path :=
    settleEvent_grows _ serveFlush_grows
  refine ⟨_, hexec, fun k hk hheld hst => ?_, fun k a hk hst ha => ?_, fun hidle => ?_, rowFrames _ _ _ hexec⟩
  · refine (lineStable_flushed k (lineOf s k).contents).settleEvent hquiet (fun j hj => ?_) k rfl
    rw [serveFlush_lineOf, hj, ← hu, flushBegun_lineOf hk, hline]
    rcases hst with hst | hst
    · simp [markedLine, writtenLine, hst, Option.isSome_iff_ne_none.mp hheld]
    · simp [markedLine, writtenLine, hst]
  · have hplaced := writeBackAll_placed (s := b) hk ((hline k).symm ▸ hst) ((hline k).symm ▸ ha)
    rw [hline, recordAddr, hcfg] at hplaced
    rw [hupath] at hgrows
    exact hplaced.mono hgrows
  · have hnone (j) : (markedLine (lineOf (writeBackAll b) j)).flushMark = false := by
      obtain ⟨hdirty, hwriting, hmark⟩ := hidle j
      rw [writeBackAll_lineOf, hline]
      split <;> simp [markedLine, writtenLine, hdirty, hwriting, hmark]
    have hdone : serveFlush u = complete .ok [(2, 0)] [] { u with cache := { u.cache with flush := none } } := by
      have hzero : marked u = 0 := by
        rw [← hu, flushBegun, marked_flushWaiting]
        exact marked_of_none hnone
      rw [hzero] at huflush
      simp only [serveFlush, huflush, hzero, if_true]
    have hcompleted := complete_completed (s := { u with cache := { u.cache with flush := none } })
      (j := begunJob .flush n addr index size) (by rw [← hjob, ← hucmd]) rfl .ok [(2, 0)]
    rw [← hdone] at hcompleted
    have hnow : ({ u with cache := { u.cache with flush := none } } : State).clock = s.clock := huclock.trans hclock
    rw [hnow] at hcompleted
    exact hcompleted.mono (settleEvent_grows _ (grows.refl _)) (by simp)

/-- Settles O60. -/
theorem flushWritesDirtyLines : Obligations.FlushWritesDirtyLines := by
  refine fun n s addr index size hf => ⟨fun hrun => ?_, flush_runs hf⟩
  obtain ⟨b, hb⟩ : ∃ b, commandBegun .flush n addr index size s = b := ⟨_, rfl⟩
  have hhand : handCommand .flush b = complete .ok [(2, 0)] [] b := by
    have hrunb : b.cmd.run = .stopped := by simp [← hb, hrun]
    simp [handCommand, doFlush, halted, hrunb]
  obtain ⟨hexec, hdone, hkeeps⟩ := exec_ringRow_completes hf (by rw [hb]; exact hhand) (by simp [← hb]) (by simp [← hb])
  exact ⟨_, hexec, hdone, hkeeps⟩
end Sys2Proof.Machine
end

section
/-! START up to its scan (R187), and CONFIGURE (R183). -/

namespace Sys2Proof.Machine

/-- Outside RUNNING no dispatch pass and no take begins: the end of an event is the finisher's judgement (R78, R81). -/
theorem settleEvent_of_notRunning (old : State) {s : State} (h : s.cmd.run ≠ .running) : settleEvent old s = judgeFinisher s := by
  have htake : tryTake s = s := tryTake_of_not_due fun e hdue => h hdue.run
  have hpass : dispatchPass s = s := by simp [dispatchPass, h]
  simp [settleEvent, hpass, htake]

/-! ### START (R187) -/

theorem regionsOverlap_commandBegun (q : Request) (n : Bool) (addr index size : Nat) (s : State) :
    regionsOverlap (commandBegun q n addr index size s) = regionsOverlap s := by
  have hregions : regionOf (commandBegun q n addr index size s) = regionOf s := funext (regionOf_commandBegun q n addr index size s)
  rw [regionsOverlap, regionsOverlap, hregions]

theorem doStart_of_unready {s : State} (hrun : s.cmd.run = .stopped)
    (h : s.cmd.configured = false ∨ zoneZeroReady s = false ∨ s.rate.loaded < 24) : doStart s = refuse .notConfigured s := by
  rw [doStart, if_neg (not_not.mpr hrun), if_pos h]

/-- START passes its first check: what it makes of the report ring and of the regions (R187 steps 2 to 4). -/
theorem doStart_of_ready {s : State} (hrun : s.cmd.run = .stopped) (hconf : s.cmd.configured = true)
    (hzone : zoneZeroReady s = true) (hloaded : 24 ≤ s.rate.loaded) :
    doStart s = if repRing s = none then refuse .badParam s
      else if regionsOverlap s = true then refuse .overlap s else beginStart s := by
  have hready : ¬ (s.cmd.configured = false ∨ zoneZeroReady s = false ∨ s.rate.loaded < 24) := by simp [hconf, hzone]; omega
  rw [doStart, if_neg (not_not.mpr hrun), if_neg hready]

theorem beginStart_spec (s : State) : (beginStart s).cmd.run = .starting ∧
    (∀ a, look (beginStart s).gate.map a = { opened := false, partner := none, incarnation := 0 }) ∧
    (beginStart s).acct.scan = some { next := 0, scanned := 0, repaired := 0, closed := 0, reporting := false } ∧
    (beginStart s).cmd.job = s.cmd.job := by
  simp only [beginStart, requestLine_frame, true_and, and_true]
  exact fun _ => rfl

/-- Settles O56. -/
theorem startBeginsScan : Obligations.StartBeginsScan := by
  intro n s addr index size hf hrun
  obtain ⟨b, hb⟩ : ∃ b, commandBegun .start n addr index size s = b := ⟨_, rfl⟩
  have hframe : b.clock = s.clock ∧ b.pos = s.pos ∧ b.rate = s.rate ∧ b.rep = s.rep ∧ b.cmd.run = s.cmd.run ∧
      b.cmd.configured = s.cmd.configured ∧ b.cmd.job = some (begunJob .start n addr index size) := by simp [← hb]
  obtain ⟨hclock, hpos, hrate, hrep, hrunb, hconf, hjob⟩ := hframe
  have hring : repRing b = repRing s := repRing_congr (by rw [hrep]) (by rw [hrep])
  have hzone : zoneZeroReady b = zoneZeroReady s := by rw [zoneZeroReady, zoneZeroReady, hpos]
  have hoverlap : regionsOverlap b = regionsOverlap s := by rw [← hb, regionsOverlap_commandBegun]
  have hstopped := hrunb.trans hrun
  have hexec := exec_ringRow_of_fetchReturns hf .start n
  rw [hb, show handCommand .start b = doStart b from rfl] at hexec
  have hrefused {st : Status} (h : doStart b = refuse st b) :
      completed (settleEvent s (doStart b)) addr (completion st [] s.clock) := by
    rw [h, ← hclock]
    exact (complete_completed hjob rfl st []).mono (settleEvent_grows _ (grows.refl _)) (by simp)
  refine ⟨_, hexec, fun hc hz hl => ?_, fun hnot => ?_, rowFrames _ _ _ hexec⟩
  · have hstart := doStart_of_ready hstopped (hconf.trans hc) (hzone.trans hz) (by rw [hrate]; exact hl)
    rw [hring, hoverlap] at hstart
    refine ⟨fun hvalid hapart => ?_, fun hinvalid => hrefused (hstart.trans (if_pos hinvalid)), fun hvalid hshare =>
      hrefused (hstart.trans ((if_neg (Option.isSome_iff_ne_none.mp hvalid)).trans (if_pos hshare)))⟩
    have hbegins : doStart b = beginStart b :=
      hstart.trans ((if_neg (Option.isSome_iff_ne_none.mp hvalid)).trans (if_neg (by simp [hapart])))
    obtain ⟨hstarting, hmap, hscan, hkept⟩ := beginStart_spec b
    rw [hbegins]
    refine ⟨by simp [hstarting], fun a => by simp [hmap], by simp [hscan], by simp [hkept, hjob]⟩
  · have hstart := doStart_of_unready hstopped (by rw [hconf, hzone, hrate]; exact hnot)
    exact ⟨hrefused hstart, by rw [hstart]; simp [hstopped]⟩

/-! ### CONFIGURE (R183) -/

theorem completed_rewrites {s : State} {j : Job} (hj : s.cmd.job = some j) (hd : j.done = none) (st : Status)
    (vals : List (Nat × Nat)) (rewrites : List (Nat × Nat × Nat)) :
    completed (complete st vals rewrites s) j.addr
      { status := st, results := resultBytes vals, rewrites := rewrites, time := s.clock } := by
  obtain ⟨d, hdone⟩ : ∃ d : Completion, { status := st, results := resultBytes vals, rewrites := rewrites, time := s.clock } = d :=
    ⟨_, rfl⟩
  have hresults := placeWrite_placed (resultsWrite j.addr d) { s with cmd := { s.cmd with job := some { j with done := some d } } }
  have hjob : (placeResults j d s).cmd.job = some { j with done := some d } := by simp [placeResults]
  have hstep : complete st vals rewrites s =
      if canEnter s then writeStatus (placeResults j d s) else placeResults j d s := by
    simp [complete, hj, hd, placeResults, ← hdone]
  rw [hdone, hstep]
  split
  · have hstatus := writeStatus_placed hjob
    exact ⟨hresults.mono (writeStatus_grows (grows.refl _)), .inl hstatus⟩
  · exact ⟨hresults, .inr ⟨_, hjob, rfl, rfl⟩⟩

theorem adoptConfig_cfg (p : ConfigureParams) (s : State) : (adoptConfig p s).cfg =
    { softMask := p.softMask, accounts := p.accounts.toNat, acctBase := p.acctBase.toNat
      upBase := p.upBase.toNat, downBase := p.downBase.toNat
      packCeiling := min 281474976710655 p.packCeiling.toNat, upSize := p.upSize.toNat
      downSize := p.downSize.toNat, lostGrace := min 600000 p.lostGrace.toNat
      warmUp := min 120000 p.warmUp.toNat, drain := min 600000 (max 5000 p.drain.toNat)
      darkMin := min 600000 p.darkMin.toNat
      backhaulLimit := min 600000 (max 1000 p.backhaulLimit.toNat)
      swapHold := min 600000 p.swapHold.toNat, maxWait := min 60000 (max 10 p.maxWait.toNat)
      closeWait := min 120000 (max 1000 p.closeWait.toNat)
      flushAge := min 60000 (max 100 p.flushAge.toNat), radioInitiator := p.radioInitiator.toNat } := by
  simp [adoptConfig, adopted, clampedValues, clamp, max48]

theorem adoptConfig_rest (p : ConfigureParams) (s : State) :
    (adoptConfig p s).pos.fixLoss = min 60000 (max 1000 p.fixLoss.toNat) ∧
      (adoptConfig p s).pos.minQuality = min 3 p.minQuality.toNat ∧ (adoptConfig p s).relay.ready = [] ∧
      (adoptConfig p s).relay.takePtr = 0 ∧ (adoptConfig p s).cmd = { s.cmd with configured := true } := by
  simp [adoptConfig, adopted, clampedValues, clamp]

/-- Settles O55. -/
theorem configureAdoptsValues : Obligations.ConfigureAdoptsValues := by
  intro n p s addr index size hf hrun hok
  obtain ⟨b, hb⟩ : ∃ b, commandBegun (.configure p) n addr index size s = b := ⟨_, rfl⟩
  have hframe : b.clock = s.clock ∧ b.cmd.run = s.cmd.run ∧ b.cmd.job = some (begunJob (.configure p) n addr index size) := by
    simp [← hb]
  obtain ⟨hclock, hrunb, hjob⟩ := hframe
  obtain ⟨v, hv⟩ : ∃ v, adoptionExpiries (adoptConfig p b) = v := ⟨_, rfl⟩
  have hhand : handCommand (.configure p) b = complete .ok [(2, clampedMarks p)] (configureRewrites p) v := by
    rw [← hv, show handCommand (.configure p) b = doConfigure p b from rfl, doConfigure,
      if_neg (not_not.mpr (hrunb.trans hrun)), if_neg (by simp [hok])]
  obtain ⟨hfix, hquality, hready, htake, hcmd⟩ := adoptConfig_rest p b
  have hvframe : v.clock = s.clock ∧ v.cfg = (adoptConfig p b).cfg ∧ v.pos.fixLoss = (adoptConfig p b).pos.fixLoss ∧
      v.pos.minQuality = (adoptConfig p b).pos.minQuality ∧ v.relay.ready = [] ∧ v.relay.takePtr = 0 ∧
      v.cmd = { b.cmd with configured := true } := by
    simp [← hv, hclock, hready, htake, hcmd]
  obtain ⟨vclock, vcfg, vfix, vquality, vready, vtake, vcmd⟩ := hvframe
  obtain ⟨u, hu⟩ : ∃ u, complete .ok [(2, clampedMarks p)] (configureRewrites p) v = u := ⟨_, rfl⟩
  have huframe : u.cfg = v.cfg ∧ u.pos = v.pos ∧ u.relay = v.relay ∧ u.cmd.configured = true ∧ u.cmd.run = .stopped := by
    simp [← hu, vcmd, hrunb, hrun]
  obtain ⟨ucfg, upos, urelay, uconf, urun⟩ := huframe
  have hexec := exec_ringRow_of_fetchReturns hf (.configure p) n
  rw [hb, hhand, hu] at hexec
  have hrelay : (settleEvent s u).relay = u.relay := by
    rw [settleEvent_of_notRunning s (by simp [urun])]
    simp
  refine ⟨_, hexec, by simp [uconf], by simp [urun], ?_, ?_, ?_, by rw [hrelay, urelay, vready], by rw [hrelay, urelay, vtake],
    ?_, rowFrames _ _ _ hexec⟩
  · rw [← adoptConfig_cfg p b]
    simp [ucfg, vcfg]
  · simp [upos, vfix, hfix]
  · simp [upos, vquality, hquality]
  · have hdone := completed_rewrites (s := v) (j := begunJob (.configure p) n addr index size) (by rw [vcmd]; exact hjob) rfl .ok
      [(2, clampedMarks p)] (configureRewrites p)
    rw [hu, vclock] at hdone
    exact hdone.mono (settleEvent_grows _ (grows.refl _)) (by simp)

end Sys2Proof.Machine
end

section
/-! STOP from HALTED (R190): the part is cleared without write-backs and ends STOPPED. -/

namespace Sys2Proof.Machine

/-! ### Own traffic of the Command Engine and the Report Writer alone -/

/-- Every own write that is queued or waits is of the Command Engine or the Report Writer, every own read that waits of the
Command Engine. -/
def engineTraffic (s : State) : Prop :=
  (∀ w ∈ s.path.queue ++ s.path.waiting, w.block = .commandEngine ∨ w.block = .reportWriter) ∧
    ∀ r ∈ s.path.reads, r.block = .commandEngine

theorem engineTraffic_congr {s t : State} (hq : t.path.queue = s.path.queue) (hw : t.path.waiting = s.path.waiting)
    (hr : t.path.reads = s.path.reads) (h : engineTraffic s) : engineTraffic t := by
  unfold engineTraffic at h ⊢
  rwa [hq, hw, hr]

theorem engineTraffic_placeWrite {s : State} {w : OwnWrite} (hw : w.block = .commandEngine ∨ w.block = .reportWriter)
    (h : engineTraffic s) : engineTraffic (placeWrite w s) := by
  obtain ⟨hwrites, hreads⟩ := h
  refine ⟨fun v hv => ?_, by simpa using hreads⟩
  unfold placeWrite at hv
  split at hv
  · simp only [List.mem_append, List.mem_singleton] at hv hwrites
    rcases hv with (hv | rfl) | hv
    · exact hwrites v (.inl hv)
    · exact hw
    · exact hwrites v (.inr hv)
  · simp only [List.mem_append, List.mem_singleton] at hv hwrites
    rcases hv with hv | hv | rfl
    · exact hwrites v (.inl hv)
    · exact hwrites v (.inr hv)
    · exact hw

theorem engineTraffic_placeReport (r : Report) {s : State} (h : engineTraffic s) : engineTraffic (placeReport r s) := by
  cases hring : repRing s with
  | none => rwa [placeReport_of_none hring]
  | some g =>
    rw [placeReport_of_ring hring, runReports]
    refine pumpReports_keeps (P := engineTraffic) (fun w s hw h => engineTraffic_placeWrite (.inr hw) h)
      (fun s p rest addr bytes _ _ _ h => engineTraffic_placeWrite (.inr rfl) h)
      (fun s p rest _ _ h => engineTraffic_placeWrite (.inr rfl) h) _ h

theorem engineTraffic_offerEvent (r : Report) {s : State} (h : engineTraffic s) : engineTraffic (offerEvent r s) := by
  unfold offerEvent
  split
  · exact engineTraffic_placeReport r h
  · exact h

theorem engineTraffic_tryFetch {s : State} (h : engineTraffic s) : engineTraffic (tryFetch s) := by
  unfold tryFetch
  split
  · exact h
  · split
    · obtain ⟨hwrites, hreads⟩ := h
      refine ⟨hwrites, fun r hr => ?_⟩
      simp only [issueRead, List.mem_append, List.mem_singleton] at hr
      rcases hr with hr | hr
      · exact hreads r hr
      · rw [hr]
    · exact h

theorem engineTraffic_applyLatches {s : State} (h : engineTraffic s) : engineTraffic (applyLatches s) := by
  unfold applyLatches
  refine List.foldlRecOn (motive := engineTraffic) s.cmd.latches _ h fun u hu l _ => ?_
  rw [applyLatch_eq]
  split
  · exact engineTraffic_placeWrite (.inl rfl) hu
  · exact hu

theorem engineTraffic_finishJob {s : State} (h : engineTraffic s) : engineTraffic (finishJob s) := by
  unfold finishJob
  split
  · exact h
  · dsimp only
    refine engineTraffic_tryFetch (engineTraffic_applyLatches ?_)
    split
    · exact engineTraffic_offerEvent _ (s := { s with cmd := { s.cmd with job := none } }) h
    · exact h

theorem engineTraffic_writeConsumer {s : State} (h : engineTraffic s) : engineTraffic (writeConsumer s) := by
  unfold writeConsumer
  split
  · exact h
  · dsimp only
    split
    · exact engineTraffic_finishJob (engineTraffic_placeWrite (.inl rfl) h)
    · exact engineTraffic_placeWrite (.inl rfl) h

theorem engineTraffic_writeStatus {s : State} (h : engineTraffic s) : engineTraffic (writeStatus s) := by
  unfold writeStatus
  split
  · exact h
  · dsimp only
    split
    · exact engineTraffic_writeConsumer (engineTraffic_placeWrite (.inl rfl) h)
    · exact engineTraffic_placeWrite (.inl rfl) h

theorem engineTraffic_complete (st : Status) (vals : List (Nat × Nat)) (rewrites : List (Nat × Nat × Nat)) {s : State}
    (h : engineTraffic s) : engineTraffic (complete st vals rewrites s) := by
  unfold complete
  split
  · exact h
  · split
    · exact h
    · dsimp only
      split
      · exact engineTraffic_writeStatus (engineTraffic_placeWrite (.inl rfl) h)
      · exact engineTraffic_placeWrite (.inl rfl) h


/-! ### What the clearing event makes of each block (R190) -/

theorem invalidateAll_own (s : State) : (invalidateAll s).path.queue = s.path.queue ∧
    (invalidateAll s).path.waiting = s.path.waiting ∧ (invalidateAll s).path.reads = s.path.reads := by
  have hanswer (a : Nat) (ans : Answer) (u : State) : (answerRead a ans u).path.queue = u.path.queue ∧
      (answerRead a ans u).path.waiting = u.path.waiting ∧ (answerRead a ans u).path.reads = u.path.reads := by
    unfold answerRead
    split <;> exact ⟨rfl, rfl, rfl⟩
  have hall : ∀ l : List (Nat × Line), ∀ u : State,
      (l.foldl (fun s p => answerRead (p.2.account.getD 0) .memory s) u).path.queue = u.path.queue ∧
      (l.foldl (fun s p => answerRead (p.2.account.getD 0) .memory s) u).path.waiting = u.path.waiting ∧
      (l.foldl (fun s p => answerRead (p.2.account.getD 0) .memory s) u).path.reads = u.path.reads := by
    intro l u
    refine foldl_frame (R := fun u t => t.path.queue = u.path.queue ∧ t.path.waiting = u.path.waiting ∧
      t.path.reads = u.path.reads) (fun _ => ⟨rfl, rfl, rfl⟩) (fun u t p h => ?_) l u
    obtain ⟨hq, hw, hr⟩ := hanswer (p.2.account.getD 0) .memory t
    exact ⟨hq.trans h.1, hw.trans h.2.1, hr.trans h.2.2⟩
  exact hall _ s

theorem invalidateAll_lines (s : State) :
    (invalidateAll s).cache.lines = [] ∧ (invalidateAll s).cache.lru = List.range 64 := ⟨rfl, rfl⟩

theorem linkOf_disableLink (k : Nat) (s : State) (j : Nat) : linkOf (disableLink k s) j =
    if j = k then { linkOf s k with health := .disabled, gen := (linkOf s k).gen + 1, posted := 0, oldest := none }
    else linkOf s j := by
  unfold disableLink
  dsimp only
  split
  · rw [linkOf_setLink]
  · rw [linkOf_linkStateReport, linkOf_setLink]

/-- A link that is not UNCONFIGURED becomes DISABLED, its ring generation raised and nothing posted (R75). -/
def clearedLink (l : Link) : Link :=
  if l.health = .unconfigured then l else { l with health := .disabled, gen := l.gen + 1, posted := 0, oldest := none }

/-- One step of the clearing of the links. -/
def clearLink (k : Nat) (s : State) : State := if (linkOf s k).health = .unconfigured then s else disableLink k s

theorem linkOf_clearLink (k : Nat) (s : State) (j : Nat) :
    linkOf (clearLink k s) j = if j = k then clearedLink (linkOf s k) else linkOf s j := by
  unfold clearLink clearedLink
  split
  · split
    · rename_i hj
      rw [hj]
    · rfl
  · exact linkOf_disableLink k s j

/-- What moves one link at a time, over links each named once, moves exactly those. -/
theorem linkOf_foldl {f : Nat → State → State} {g : Link → Link}
    (hf : ∀ k s j, linkOf (f k s) j = if j = k then g (linkOf s k) else linkOf s j) {l : List Nat} (hl : l.Nodup) (s : State)
    (j : Nat) : linkOf (l.foldl (fun s k => f k s) s) j = if j ∈ l then g (linkOf s j) else linkOf s j := by
  induction l generalizing s with
  | nil => simp
  | cons k l ih =>
    obtain ⟨hk, hl⟩ := List.nodup_cons.mp hl
    rw [List.foldl_cons, ih hl, hf]
    by_cases hj : j = k
    · subst hj
      simp [hk]
    · simp [hj]

theorem engineTraffic_clearLink (k : Nat) {s : State} (h : engineTraffic s) : engineTraffic (clearLink k s) := by
  unfold clearLink
  split
  · exact h
  · unfold disableLink
    dsimp only
    split
    · exact h
    · exact engineTraffic_offerEvent _ (s := setLink k _ s) h

/-- The Link Supervisor once every link has been cleared (R75, R190). -/
theorem clearLinks_spec (s : State) :
    (∀ k, k < 4 → linkOf (clearLinks s) k = clearedLink (linkOf s k)) ∧ (clearLinks s).sup.active = none ∧
      (clearLinks s).sup.eligible = [] ∧ (clearLinks s).sup.backhaul = false ∧ (clearLinks s).relay = s.relay ∧
      (engineTraffic s → engineTraffic (clearLinks s)) := by
  obtain ⟨u, hu⟩ : ∃ u, (List.range 4).foldl (fun s k => clearLink k s) s = u := ⟨_, rfl⟩
  have hlinks (k : Nat) (hk : k < 4) : linkOf u k = clearedLink (linkOf s k) := by
    rw [← hu, linkOf_foldl linkOf_clearLink List.nodup_range, if_pos (List.mem_range.mpr hk)]
  have hframe : u.relay = s.relay := by
    rw [← hu]
    exact (foldl_clearLink_frame (List.range 4) s).2.2.2.2.2.1
  have htraffic (h : engineTraffic s) : engineTraffic u := by
    rw [← hu]
    exact List.foldlRecOn (motive := engineTraffic) (List.range 4) _ h fun v hv k _ => engineTraffic_clearLink k hv
  obtain ⟨w, hw⟩ : ∃ w, { u with sup := { u.sup with
    eligible := [], mode := effectiveMode u, active := none, deferred := none, backhaul := false } } = w := ⟨_, rfl⟩
  have hclear : clearLinks s = covBackhaul false w := by
    have hfold := hu
    simp only [clearLink] at hfold
    simp only [clearLinks, hfold, hw]
  have hwsup : w.sup.links = u.sup.links ∧ w.sup.active = none ∧ w.sup.eligible = [] ∧ w.sup.backhaul = false ∧
      w.relay = u.relay ∧ w.path = u.path := by
    rw [← hw]
    exact ⟨rfl, rfl, rfl, rfl, rfl, rfl⟩
  obtain ⟨h1, h2, h3, h4, h5, h6⟩ := hwsup
  have hback : covBackhaul false w = w ∨ covBackhaul false w =
      { w with cov := { w.cov with view := false, absentSince := w.clock } } := by
    unfold covBackhaul
    split
    · exact .inl rfl
    · exact .inr rfl
  have hsame : (covBackhaul false w).sup = w.sup ∧ (covBackhaul false w).relay = w.relay ∧
      (covBackhaul false w).path = w.path := by
    rcases hback with h | h <;> rw [h] <;> exact ⟨rfl, rfl, rfl⟩
  obtain ⟨hsup, hrelay, hpath⟩ := hsame
  rw [hclear]
  refine ⟨fun k hk => ?_, by rw [hsup, h2], by rw [hsup, h3], by rw [hsup, h4], by rw [hrelay, h5, hframe], fun h =>
    engineTraffic_congr (s := u) (by rw [hpath, h6]) (by rw [hpath, h6]) (by rw [hpath, h6]) (htraffic h)⟩
  rw [← hlinks k hk]
  exact linkOf_congr (by rw [hsup, h1]) k

/-- The cache, the usage queue and the rating's request are cleared; nothing is written back (R111, R128, R167, R190). -/
def booksCleared (s : State) : State :=
  { invalidateAll { s with path := { s.path with runCount := 0 } } with
    cache := { (invalidateAll { s with path := { s.path with runCount := 0 } }).cache with misses := [], flush := none }
    gate := { s.gate with queue := [], haltDiscards := 0 }
    rate := { s.rate with requested := none } }

/-- Every block but the Command Engine has been cleared (R190). -/
def haltedCleared (s : State) : State := clearLinks (clearFinisher (clearRelay (booksCleared s)))

/-- The end of STOP from HALTED: STOPPED, with its counts (R190). -/
theorem clearHalted_of_due {s : State} (h : haltedClearDue s = true) : clearHalted s =
    complete .ok (stopResults (haltedCleared s) .halted (countLines s fun l => l.st == .dirty)
        (s.gate.haltDiscards + s.gate.queue.length)) []
      { haltedCleared s with cmd := { (haltedCleared s).cmd with run := .stopped, stopStep := 0, counts := default } } := by
  rw [clearHalted, if_pos h]
  simp [haltedCleared, booksCleared]

theorem engineTraffic_of_quiet {s : State} (h : ownQuiet s = true) : engineTraffic (booksCleared s) := by
  simp only [ownQuiet, Bool.and_eq_true, List.isEmpty_iff] at h
  obtain ⟨⟨⟨⟨hqueue, hwaiting⟩, hreads⟩, -⟩, -⟩ := h
  obtain ⟨hq, hw, hr⟩ := invalidateAll_own { s with path := { s.path with runCount := 0 } }
  refine engineTraffic_congr (s := s) hq hw hr ?_
  simp [engineTraffic, hqueue, hwaiting, hreads]

theorem booksCleared_frame (s : State) : SameTime s (booksCleared s) ∧ (booksCleared s).pos = s.pos ∧
    (booksCleared s).sup = s.sup ∧ (booksCleared s).relay = s.relay ∧ (booksCleared s).settle = s.settle ∧
    (booksCleared s).cmd = s.cmd ∧ (booksCleared s).gate = { s.gate with queue := [], haltDiscards := 0 } ∧
    (booksCleared s).rate = { s.rate with requested := none } ∧ (booksCleared s).cache.lines = [] ∧
    (booksCleared s).cache.misses = [] ∧ (booksCleared s).cache.lru = List.range 64 := by
  obtain ⟨htime, hpos, -, -, hsup, hrelay, -, -, -, -, -, hsettle, hcmd, -⟩ :=
    invalidateAll_frame { s with path := { s.path with runCount := 0 } }
  exact ⟨htime, hpos, hsup, hrelay, hsettle, hcmd, rfl, rfl, rfl, rfl, rfl⟩

theorem haltedCleared_frame (s : State) : SameTime s (haltedCleared s) ∧ (haltedCleared s).pos = s.pos ∧
    (haltedCleared s).settle = s.settle ∧ (haltedCleared s).cmd = s.cmd ∧
    (haltedCleared s).gate = { s.gate with queue := [], haltDiscards := 0 } ∧
    (haltedCleared s).rate = { s.rate with requested := none } ∧ (haltedCleared s).cache.lines = [] ∧
    (haltedCleared s).cache.misses = [] ∧ (haltedCleared s).cache.lru = List.range 64 ∧
    (haltedCleared s).acct.places = [] ∧ (haltedCleared s).acct.finisher = .idle ∧
    (haltedCleared s).relay = { s.relay with
      ready := [], held := [], takePtr := 0, take := none, table := [], waitList := [], retryList := [], round := 0
      suspended := false } := by
  obtain ⟨⟨h0, h1, h2⟩, hpos, -, hrelay, hsettle, hcmd, hgate, hrate, hlines, hmisses, hlru⟩ := booksCleared_frame s
  have hlinks := (clearLinks_spec (clearFinisher (clearRelay (booksCleared s)))).2.2.2.2.1
  have hfinisher : (clearFinisher (clearRelay (booksCleared s))).acct.places = [] ∧
      (clearFinisher (clearRelay (booksCleared s))).acct.finisher = .idle := ⟨rfl, rfl⟩
  have hclear : (clearRelay (booksCleared s)).relay = { s.relay with
      ready := [], held := [], takePtr := 0, take := none, table := [], waitList := [], retryList := [], round := 0
      suspended := false } := by rw [← hrelay]; rfl
  unfold haltedCleared
  rw [hlinks]
  simp [h0, h1, h2, hpos, hsettle, hcmd, hgate, hrate, hlines, hmisses, hlru, hfinisher.1, hfinisher.2, hclear]

/-- Settles O58. -/
theorem haltedClearEndsStopped : Obligations.HaltedClearEndsStopped := by
  intro j s hrun hjob hstop hdone hquiet
  have hdue : haltedClearDue s = true := by simp [haltedClearDue, stopInHalted, hrun, hjob, hstop, hdone, hquiet]
  obtain ⟨l, hl⟩ : ∃ l, haltedCleared s = l := ⟨_, rfl⟩
  have hframe := haltedCleared_frame s
  rw [hl] at hframe
  obtain ⟨⟨h0, h1, h2⟩, hpos, hsettle, hcmd, hgate, hrate, hlines, hmisses, hlru, hplaces, hfinisher, hrelay⟩ := hframe
  obtain ⟨hlinks, hactive, heligible, hbackhaul, -, htraffic⟩ := clearLinks_spec (clearFinisher (clearRelay (booksCleared s)))
  have hquietTraffic : engineTraffic l := by
    rw [← hl]
    exact htraffic (engineTraffic_congr (by simp) (by simp) (by simp) (engineTraffic_of_quiet hquiet))
  obtain ⟨c, hc⟩ : ∃ c, { l with cmd := { l.cmd with run := .stopped, stopStep := 0, counts := default } } = c := ⟨_, rfl⟩
  have hcframe : c.pending = l.pending ∧ c.clock = l.clock ∧ c.cfg = l.cfg ∧ c.pos = l.pos ∧ c.path = l.path ∧ c.sup = l.sup ∧
      c.relay = l.relay ∧ c.gate = l.gate ∧ c.rate = l.rate ∧ c.acct = l.acct ∧ c.cache = l.cache ∧ c.settle = l.settle ∧
      c.cmd.run = .stopped ∧ c.cmd.job = l.cmd.job := by
    rw [← hc]
    exact ⟨rfl, rfl, rfl, rfl, rfl, rfl, rfl, rfl, rfl, rfl, rfl, rfl, rfl, rfl⟩
  obtain ⟨c0, c1, c2, c4, c5, c6, c7, c8, c9, c10, c11, c12, crun, cjob⟩ := hcframe
  obtain ⟨vals, hvals⟩ : ∃ vals, stopResults l .halted (countLines s fun l => l.st == .dirty)
    (s.gate.haltDiscards + s.gate.queue.length) = vals := ⟨_, rfl⟩
  obtain ⟨t, ht⟩ : ∃ t, complete .ok vals [] c = t := ⟨_, rfl⟩
  have hclear : clearHalted s = t := by rw [clearHalted_of_due hdue, hl, hc, hvals, ht]
  have htframe : SameTime c t ∧ t.pos = c.pos ∧ t.sup = c.sup ∧ t.relay = c.relay ∧ SameBooks c t ∧ t.cmd.run = c.cmd.run := by
    simp [← ht]
  obtain ⟨⟨t0, t1, t2⟩, t4, t6, t7, ⟨t8, t9, t10, t11, t12⟩, trun⟩ := htframe
  have hend : settleEvent s t = t := by
    rw [settleEvent_of_notRunning s (by simp [trun, crun])]
    exact judgeFinisher_of_none (firstReady_of_nil (by rw [t10, c10, hplaces]))
  have hexec : exec .stopHaltedClear s = .next t := by
    have hstep : exec .stopHaltedClear s = .next (settleEvent s (clearHalted s)) := rfl
    rw [hstep, hclear, hend]
  have hrelay' : t.relay = _ := (t7.trans c7).trans hrelay
  have hline (i) : lineOf t i = default := by rw [lineOf, t11, c11, hlines]; rfl
  have hgate' : t.gate = { s.gate with queue := [], haltDiscards := 0 } := by rw [t8, c8, hgate]
  have hown : engineTraffic t := by
    rw [← ht]
    exact engineTraffic_complete _ _ _ (engineTraffic_congr (by rw [c5]) (by rw [c5]) (by rw [c5]) hquietTraffic)
  have hlink (k : Nat) (hk : k < 4) : linkOf t k = clearedLink (linkOf s k) := by
    have hstart : linkOf (clearFinisher (clearRelay (booksCleared s))) k = linkOf s k :=
      linkOf_congr (by simp [(booksCleared_frame s).2.2.1]) k
    rw [← hstart, ← hlinks k hk, show clearLinks (clearFinisher (clearRelay (booksCleared s))) = l from hl]
    exact linkOf_congr (by rw [t6, c6]) k
  have hsup : t.sup = (clearLinks (clearFinisher (clearRelay (booksCleared s)))).sup := by
    rw [t6, c6, ← hl]
    rfl
  have hresults : completed t j.addr (completion .ok vals s.clock) := by
    rw [← ht, ← h1, ← c1]
    exact complete_completed (by rw [cjob, hcmd, hjob]) hdone _ _
  rw [← hvals, stopResults, hcmd] at hresults
  refine ⟨t, hexec, by rw [trun, crun], by rw [hgate'], by rw [hgate'], by rw [t9, c9, hrate], fun i => by rw [hline]; rfl,
    by rw [t11, c11, hmisses], by rw [t11, c11, hlru], fun e => by rw [entryOf, hrelay']; rfl, by rw [hrelay'], by rw [hrelay'],
    by rw [hrelay'], by rw [t10, c10, hplaces], by rw [t10, c10, hfinisher], fun i => by rw [hrelay']; exact ⟨rfl, rfl⟩,
    by rw [hrelay'], by rw [hrelay'], by rw [hrelay'], by rw [hrelay'], hown.1, hown.2, hresults, fun k hk hconf => ?_,
    by rw [hsup, hactive], by rw [hsup, heligible], by rw [hsup, hbackhaul], by rw [hgate'], ?_⟩
  · rw [hlink k hk, clearedLink, if_neg hconf]
    exact ⟨rfl, rfl, rfl⟩
  · simp [Part.same, t0, t1, t2, t4, t12, c0, c1, c2, c4, c12, h0, h1, h2, hpos, hsettle]
end Sys2Proof.Machine
end

section
/-! STOP (R188, R190): it leaves RUNNING, its steps advance one by one, and its posted wait disables the links. -/

namespace Sys2Proof.Machine

/-! ### One step of STOP -/

/-- STOP has ended, or its present step is `n` or a later one (R188). -/
def stopReached (n : Nat) (s : State) : Prop :=
  s.cmd.run = .stopped ∨ (s.cmd.run = .stopping ∧ n ≤ s.cmd.stopStep)

theorem stopReached.notRunning {n : Nat} {s : State} (h : stopReached n s) : s.cmd.run ≠ .running := by
  rcases h with h | ⟨h, -⟩ <;> simp [h]

theorem beginStep_reached (n : Nat) {s : State} (h : s.cmd.run = .stopping) : stopReached n (beginStep n s) := by
  unfold beginStep
  dsimp only
  split
  case h_6 => exact .inl (by simp [stopDone])
  all_goals exact .inr ⟨by simp [h], by simp⟩

theorem stopReached.mono {m n : Nat} {s : State} (h : stopReached n s) (hmn : m ≤ n) : stopReached m s :=
  h.imp_right fun ⟨hrun, hstep⟩ => ⟨hrun, hmn.trans hstep⟩

theorem advanceStop_reached {m n : Nat} {s : State} (h : stopReached m s) : stopReached m (advanceStop n s) := by
  induction n generalizing s with
  | zero => exact h
  | succ n ih =>
    rw [advanceStop]
    split
    · rename_i hgo
      obtain ⟨hrun, -⟩ := hgo
      have hstep : m ≤ s.cmd.stopStep := by
        rcases h with h | ⟨-, h⟩
        · simp [hrun] at h
        · exact h
      exact ih ((beginStep_reached _ hrun).mono (by omega))
    · exact h

/-- From a step that has ended STOP goes on to a later one, or ends (R188). -/
theorem stopAdvance_reached_next {s : State} (hrun : s.cmd.run = .stopping) (hended : stepEnded s = true) :
    stopReached (s.cmd.stopStep + 1) (stopAdvance s) := by
  rw [stopAdvance, advanceStop, if_pos ⟨hrun, hended⟩]
  exact advanceStop_reached (beginStep_reached _ hrun)

theorem settleEvent_reached {n : Nat} (old : State) {s : State} (h : stopReached n s) :
    stopReached n (settleEvent old s) := by
  simpa [stopReached] using h

/-! ### The links that STOP disables -/

/-- What a link is once it has been made DISABLED (R75). -/
def disabledLink (l : Link) : Link := { l with health := .disabled, gen := l.gen + 1, posted := 0, oldest := none }

theorem linkOf_disableLinks {ks : List Nat} (hks : ks.Nodup) (s : State) (j : Nat) :
    linkOf (disableLinks ks s) j = if j ∈ ks then disabledLink (linkOf s j) else linkOf s j := by
  rw [disableLinks, linkOf_selectorEval, linkOf_foldl (g := disabledLink) linkOf_disableLink hks]

theorem linkOf_disableAll_of_disabled {s : State} {k : Nat} (h : (linkOf s k).health = .disabled) :
    linkOf (disableAll s) k = linkOf s k := by
  have hout : k ∉ linksInUse s := by simp [linksInUse, h]
  rw [disableAll, linkOf_disableLinks (ks := linksInUse s) (List.nodup_range.filter _), if_neg hout]

/-- No step of STOP moves a link that is DISABLED. -/
theorem linkOf_beginStep_of_disabled (n : Nat) {s : State} {k : Nat} (h : (linkOf s k).health = .disabled) :
    linkOf (beginStep n s) k = linkOf s k := by
  unfold beginStep
  dsimp only
  split
  case h_5 =>
    have hsame : linkOf (invalidateAll { s with cmd := { s.cmd with stopStep := 9, stepSince := s.clock } }) k = linkOf s k :=
      linkOf_congr (by simp) k
    rw [linkOf_disableAll_of_disabled (by rw [hsame, h]), hsame]
  all_goals exact linkOf_congr (by simp) k

theorem linkOf_advanceStop_of_disabled (n : Nat) {s : State} {k : Nat} (h : (linkOf s k).health = .disabled) :
    linkOf (advanceStop n s) k = linkOf s k := by
  induction n generalizing s with
  | zero => rfl
  | succ n ih =>
    rw [advanceStop]
    split
    · have hstep := linkOf_beginStep_of_disabled (s.cmd.stopStep + 1) h
      rw [ih (by rw [hstep, h]), hstep]
    · rfl

theorem linkOf_settleEvent_of_notRunning (old : State) {s : State} (h : s.cmd.run ≠ .running) (k : Nat) :
    linkOf (settleEvent old s) k = linkOf s k := by
  rw [settleEvent_of_notRunning old h]
  exact linkOf_congr (by simp) k

/-! ### STOP taken in RUNNING and in HALTED -/

/-- STOP taken in RUNNING: coverage is DARK, and its steps have begun (R188). -/
theorem stopRunning_stops (s : State) : (stopRunning s).cov.st = .dark ∧ stopReached 1 (stopRunning s) := by
  obtain ⟨u, hu⟩ : ∃ u : State, { s with cmd := { s.cmd with
    run := .stopping, stopStep := 1, stepSince := s.clock, counts := default } } = u := ⟨_, rfl⟩
  have hrun : u.cmd.run = .stopping := by rw [← hu]
  have hstep : u.cmd.stopStep = 1 := by rw [← hu]
  obtain ⟨v, hv⟩ : ∃ v, dropPosts (fun _ => true) (covLeaveRunning u) = v := ⟨_, rfl⟩
  have hdark : v.cov.st = .dark := by simp [← hv, covLeaveRunning_dark (s := u) (by simp [hrun])]
  have hreached : stopReached 1 (stopAdvance v) :=
    advanceStop_reached (.inr ⟨by simp [← hv, hrun], by simp [← hv, hstep]⟩)
  have hstop : stopRunning s = stopAdvance v := by rw [← hv, ← hu, stopRunning]
  rw [hstop]
  exact ⟨(stopAdvance_rf (.inl hdark)).resolve_right hreached.notRunning, hreached⟩

theorem exec_stop_in_running {n : Bool} {s : State} {addr index size : Nat} (hf : fetchReturns s addr index size)
    (hrun : s.cmd.run = .running) :
    ∃ t, exec (.stop n) s = .next t ∧ t.cov.st = .dark ∧ (t.cmd.run = .stopping ∨ t.cmd.run = .stopped) ∧
      keeps [.clock, .settings, .position, .capture, .rating] s t := by
  have hexec := exec_ringRow_of_fetchReturns hf .stop n
  obtain ⟨b, hb⟩ : ∃ b, commandBegun .stop n addr index size s = b := ⟨_, rfl⟩
  have hbrun : b.cmd.run = .running := by simp [← hb, hrun]
  have hhand : handCommand .stop b = stopRunning b := by simp [handCommand, doStop, hbrun]
  rw [hb, hhand] at hexec
  obtain ⟨hdark, hreached⟩ := stopRunning_stops b
  refine ⟨_, hexec, by simpa using hdark, ?_, rowFrames _ _ _ hexec⟩
  rcases settleEvent_reached s hreached with h | ⟨h, -⟩
  · exact .inr h
  · exact .inl h

theorem exec_stop_in_halted {n : Bool} {s : State} {addr index size : Nat} (hf : fetchReturns s addr index size)
    (hrun : s.cmd.run = .halted) :
    ∃ t, exec (.stop n) s = .next t ∧ stopInHalted t = true ∧ t.path.inFlight = (heard s).tail ∧
      keeps [.clock, .settings, .position, .coverage, .links, .relay, .capture, .rating, .accounts, .cache,
        .settlement, .reports] s t := by
  have hexec := exec_ringRow_of_fetchReturns hf .stop n
  obtain ⟨b, hb⟩ : ∃ b, commandBegun .stop n addr index size s = b := ⟨_, rfl⟩
  have hbrun : b.cmd.run = .halted := by simp [← hb, hrun]
  have hhand : handCommand .stop b = b := by simp [handCommand, doStop, hbrun]
  have hend : settleEvent s b = b := by
    rw [settleEvent_of_notRunning s (by simp [hbrun])]
    simp [judgeFinisher, finisherActs, hbrun]
  rw [hb, hhand, hend] at hexec
  have hjob : b.cmd.job = some (begunJob .stop n addr index size) := by simp [← hb]
  refine ⟨b, hexec, by simp [stopInHalted, hbrun, hjob, begunJob], by rw [← hb]; rfl, ?_⟩
  simp [Part.same, ← hb]

/-! ### STOP's posted wait -/

theorem exec_stopPostedWaitExpiry_due {s : State} (hrun : s.cmd.run = .stopping) (hstep : s.cmd.stopStep = 4)
    (hwait : s.cfg.closeWait ≤ elapsed s s.cmd.stepSince) (hposted : ∃ k, k < 4 ∧ 0 < (linkOf s k).posted) :
    ∃ t, exec .stopPostedWaitExpiry s = .next t ∧
      (∀ k, k < 4 → 0 < (linkOf s k).posted → linkOf t k = disabledLink (linkOf s k)) ∧
      keeps [.clock, .settings, .position, .capture, .rating] s t := by
  have hdue : postedWaitDue s = true := by
    obtain ⟨k, hk, hpos⟩ := hposted
    have hany : (List.range 4).any (holdsPosted s) = true :=
      List.any_eq_true.mpr ⟨k, List.mem_range.mpr hk, by simp [holdsPosted, hpos]⟩
    simp [postedWaitDue, hrun, hstep, hwait, hany]
  obtain ⟨u, hu⟩ : ∃ u, disableLinks ((List.range 4).filter (holdsPosted s)) (abortPosted s) = u := ⟨_, rfl⟩
  have hexec : exec .stopPostedWaitExpiry s = .next (settleEvent s (stopAdvance u)) := by
    rw [← hu, show exec .stopPostedWaitExpiry s = .next (settleEvent s (postedWaitExpiry s)) from rfl, postedWaitExpiry,
      if_pos hdue]
  have hlink (k : Nat) (hk : k < 4) (hpos : 0 < (linkOf s k).posted) : linkOf u k = disabledLink (linkOf s k) := by
    have hsame : linkOf (abortPosted s) k = linkOf s k := linkOf_congr (by simp) k
    rw [← hu, linkOf_disableLinks (List.nodup_range.filter _), hsame, if_pos]
    simp [hk, holdsPosted, hpos]
  have hreached : stopReached 4 (stopAdvance u) := advanceStop_reached (.inr ⟨by simp [← hu, hrun], by simp [← hu, hstep]⟩)
  refine ⟨_, hexec, fun k hk hpos => ?_, rowFrames _ _ _ hexec⟩
  rw [linkOf_settleEvent_of_notRunning s hreached.notRunning, stopAdvance,
    linkOf_advanceStop_of_disabled 10 (by rw [hlink k hk hpos]; rfl), hlink k hk hpos]

/-- Settles O57. -/
theorem stopSteps : Obligations.StopSteps := by
  refine ⟨fun n s addr index size hf => ⟨exec_stop_in_running hf, exec_stop_in_halted hf⟩, fun s hrun hended => ?_,
    fun s hrun hstep hwait hposted => ?_⟩
  · have hexec : exec .stopStepAdvance s = .next (settleEvent s (stopAdvance s)) := rfl
    exact ⟨_, hexec, settleEvent_reached s (stopAdvance_reached_next hrun hended), rowFrames _ _ _ hexec⟩
  · obtain ⟨t, hexec, hlinks, hkeeps⟩ := exec_stopPostedWaitExpiry_due hrun hstep hwait hposted
    refine ⟨t, hexec, fun k hk hpos => ?_, hkeeps⟩
    rw [hlinks k hk hpos]
    exact ⟨rfl, rfl, rfl, rfl⟩
end Sys2Proof.Machine
end
